-- ==== Sys2Proof/Word.lean ====
section
/-!
DEFINITION. Sys2Proof/Word.lean: the word types of the model.
A byte is eight bits; wider values are the bit vectors of their width (R5, R6).
-/
namespace Sys2Proof

/-- One byte (R6: every multi-byte value is little-endian, so a value is a list of bytes). -/
abbrev Byte := BitVec 8

/-- A 16-bit word: an object index, an owner entry, an event code. -/
abbrev Word16 := BitVec 16

/-- A 32-bit word. -/
abbrev Word32 := BitVec 32

/-- A 64-bit word. -/
abbrev Word64 := BitVec 64

end Sys2Proof
end

