-- ==== Sys2Proof/Syntax.lean ====
section
/-!
DEFINITION. Sys2Proof/Syntax.lean: the commands of the block, one constructor per row of spec/opcode_table.json,
and the types of their operands.
The block has no instruction encoding of a processor's kind: its commands are COP requests, register writes of
BAR0 and BAR2, and the events that its clocks, pins, links and memories bring. A command that is an event carries
what the physical world decided (an instant, a sampled level, the bytes a module returned).
-/
namespace Sys2Proof

/-! ### Who sends a request -/

/-- Where a COP message arrives (R64, R84): a network port, or mailbox slot n of BAR2. -/
inductive Port where
  | net0
  | net1
  | mbox (slot : Fin 4)
  deriving DecidableEq, Repr

/-- An Ethernet frame that carries a datagram or a fragment of one (R65, R67): the identifier of its IEEE 802.1Q tag, its
length in bytes, and of the fragment its offset and length in the IP payload and whether more fragments follow. -/
structure Frame where
  vlan : Option (BitVec 12)
  bytes : Nat
  offset : Nat
  length : Nat
  more : Bool
  deriving DecidableEq, Repr

/-- How a datagram came (R65, R67): its frames, and the extension headers of IPv6 by their numbers. IPv4 options are
ignored, so that no operand names them. -/
structure Carriage where
  frames : List Frame
  extensions : List Byte
  deriving DecidableEq, Repr

/-- A datagram in one untagged frame. -/
def Carriage.plain : Carriage where
  frames := [{ vlan := none, bytes := 128, offset := 0, length := 0, more := false }]
  extensions := []

/-- The sender of a COP message: its port, and on a network port its IP address and UDP port (R88), the device's address
at which the message arrived (4 bytes IPv4, 16 bytes IPv6; R70) and how it came. Ports and addresses are 0 and empty on a
mailbox slot. -/
structure Sender where
  port : Port
  ip : Nat
  udp : Nat
  at_ : List Byte := []
  via : Carriage := Carriage.plain
  deriving DecidableEq, Repr

/-- The sender without the way one message took. -/
def Sender.bare (w : Sender) : Sender := { w with via := Carriage.plain }

/-- The header of a request that names no other content: who sends it, SESSION and SEQUENCE (R68). -/
structure Req where
  sender : Sender
  session : Byte
  sequence : Word32
  deriving DecidableEq, Repr

/-- A COP message with the fields of R68. `payload` holds the bytes between the header and CRC; LENGTH may
disagree with their number. -/
structure Msg where
  version : Byte
  op : Byte
  session : Byte
  flags : Byte
  sequence : Word32
  index : Word16
  sub : Byte
  reserved : Byte
  offset : Word32
  length : Word32
  abort : Word32
  payload : List Byte
  crc : Word32
  deriving DecidableEq, Repr

/-- What arrives as a READ: a message, or fewer than the 28 bytes of a message (R69). -/
inductive Datagram where
  | short (bytes : List Byte)
  | message (m : Msg)
  deriving DecidableEq, Repr

/-- A checker or bank that failed its test (R501): array, instance and pattern of 0x0D03. -/
structure ArrayFault where
  array : Fin 15
  part : Nat
  pattern : Nat
  deriving DecidableEq, Repr

/-- A sub-array of a segment whose checker or bank failed (R501): 0 to 7, or 8 for the spare; and the pattern of 0x0D03. -/
structure SubarrayFault where
  segment : Fin 64
  sub : Fin 9
  pattern : Nat
  deriving DecidableEq, Repr

/-- The results of soak's steps and of diagnostics 1 to 3 (R101, R103): what the self-test found. -/
structure SelfTest where
  /-- Segment sub-arrays whose checker or bank failed in step 1. -/
  subarrays : List SubarrayFault
  /-- Other checkers or banks that failed in step 1. -/
  arrays : List ArrayFault
  /-- Engines that failed their known-answer pass. -/
  engines : List (Fin 68)
  /-- Transmit lanes that failed PRBS31. -/
  lanes : List (Fin 136)
  /-- Return lanes that failed PRBS31. -/
  returns : List (Fin 8)
  /-- µs the test took. -/
  duration : Nat
  deriving DecidableEq, Repr

/-- What a diagnostic found (R103). -/
inductive DiagResult where
  | parts (t : SelfTest)
  /-- March test: bursts that read back differently in the order found, each with whether it is uncorrectable, and µs
  taken. -/
  | store (errors : List (Nat × Bool)) (duration : Nat)
  /-- Keeper scan: bit k for each area that failed, records that failed, µs taken. -/
  | keeper (areas records duration : Nat)
  deriving DecidableEq, Repr

/-- A 4-byte write to a BAR0 register that has no row of its own: a byte offset and a value (R160, R163). -/
structure Bar0Write where
  offset : Nat
  value : Word32
  deriving DecidableEq, Repr

/-- What comes back for a unit of a DMA channel (R169, R180). -/
inductive Completion where
  /-- The data of a memory read (DIR 0). -/
  | data (bytes : List Byte)
  /-- The data was read from the store and posted to the host (DIR 1). -/
  | posted
  /-- A completion with a status other than Successful Completion. -/
  | status
  /-- Poisoned data. -/
  | poison
  /-- The store's read is uncorrectable at this burst (DIR 1). -/
  | storeError (burst : Nat)
  deriving DecidableEq, Repr

/-- The response codes of a PRG Response (R186). -/
inductive PrgCode where
  | success
  | invalid
  | failure
  deriving DecidableEq, Repr

/-- What resets the HOST island (R190), in the order of 0x0E04's causes 1 to 4. -/
inductive HostResetCause where
  | perst
  | hot
  | dlDown
  | functionLevel
  deriving DecidableEq, Repr

/-- A write to configuration space as the device uses it (R158, R186): the enables of ATS and PRI, Device Control, the
power state (D3hot or D0), and Message Control of MSI-X. -/
inductive ConfigWrite where
  | ats (on : Bool)
  | pri (on : Bool)
  | deviceControl (value : Word16)
  | deviceControl2 (value : Word16)
  /-- Bits of the Uncorrectable Error Status register to clear (AER). -/
  | aerClear (value : Word32)
  | power (d3hot : Bool)
  | msixControl (enable functionMask : Bool)
  deriving DecidableEq, Repr

/-- The engine classes of expansion (R201). -/
inductive EngineClass where
  | decoder
  | rasterizer
  | placer
  deriving DecidableEq, Repr

/-- What struck a unit of expansion beside its own bytes (R228, R216 code 0xC). -/
inductive UnitFault where
  | none
  /-- The check of a cache-form block of a cell failed (cause 1), or an on-chip error struck its cache data (2), at a
  word address. -/
  | cell (id : Nat) (cause : Nat) (address : Nat)
  /-- An uncorrectable on-chip error struck the basket (array 5), the repeat store (6) or the input window (7), at a word
  address. -/
  | memory (array address : Nat)
  deriving DecidableEq, Repr

/-- What struck the computation of one shot in a segment (R274, R260, R284): beams whose twin paths disagreed or whose
operands had a parity error (512 · i + c for logical row 8s + i), codes whose returned result had one, uncorrectable code
words that the visits read (128 · i + m for columns 4m to 4m + 3), and corrected words (128 · i + m). -/
structure ComputeFaults where
  mismatches : List Nat
  returns : List Nat := []
  lost : List Nat
  corrected : List Nat
  deriving DecidableEq, Repr

/-- The tests of a row transfer (R271): every beat and ROW_CHECK pass, the beats of some code words fail (128 · plane
+ group; 2,048 for the header's beat), or ROW_CHECK alone fails. -/
inductive HandoffTest where
  | ok
  | words (l : List Nat)
  | check
  deriving DecidableEq, Repr

/-- What a position channel reads at a sample: the trimmed sine and cosine samples of its 16-bit converters (R345), or the
levels at its inputs A, B and Z (R347), which are U, V and W in Hall mode (R348). -/
inductive Reading where
  | sincos (sine cosine : BitVec 16)
  | levels (a b z : Bool)
  deriving DecidableEq, Repr

/-- How a transfer on the module's I²C bus went (R327): times it was not acknowledged, the longest clock stretching in µs,
and the bytes that a read returned. -/
structure I2cResult where
  nacks : Nat
  stretch : Nat
  bytes : List Byte
  deriving DecidableEq, Repr

/-- The two transfers of a waveform bank's write (R323): the copy into the module, and the read back. -/
structure BankTransfer where
  write : I2cResult
  read : I2cResult
  deriving DecidableEq, Repr

/-- An instruction loaded into the test access port and what the cells of the boundary register hold by then (R604, R605). -/
structure TapLoad where
  code : Byte
  cells : List Bool
  deriving DecidableEq, Repr

/-- A sample of a sine/cosine channel at a STAGE time in ps. -/
structure ScSample where
  t : Nat
  sine : BitVec 16
  cosine : BitVec 16
  deriving DecidableEq, Repr

/-- A rank that bring-up rejects (R471): 4 · channel + rank, and the cause of 0x0C0C (1 no answer, 2 read-back, 3 RFM
required). -/
structure RankReject where
  rank : Fin 48
  cause : Nat
  deriving DecidableEq, Repr

/-- What a rinse read finds (R495, R497). -/
inductive RinseResult where
  | clean
  | corrected
  | uncorrectable
  | valid
  deriving DecidableEq, Repr

/-- What the word of a rinse read holds (R494, R499): nothing that its owner will read again; what its address names
(arrays 0, 1, 3); a commit entry's word (SSN, slot, word 128 · plane + group); the part of a tile column in an entry row
of the basket or the edge store; the window or repeat store of a context; a cell; an entry row of the line store with the
parts that read the word; a part of a formed row of the output queue; data that is reloaded (arrays 11 and 12); the
supervisors' data (and whether self-refresh is then
confirmed); a mailbox request, the staged transfer or the kept response of a session. -/
inductive WordHolds where
  | nothing
  | placed
  | commit (ssn slot word : Nat)
  | part (entry column : Nat)
  | edge (entry column : Nat)
  | context (q : Fin 160)
  | cell (id : Nat)
  | line (entry : Nat) (parts : List Nat)
  | formed (place column : Nat)
  | reloaded
  | supervisor (confirmed : Bool)
  | request (slot : Fin 4)
  | staged (session : Fin 17)
  | kept (session : Fin 17)
  deriving DecidableEq, Repr

/-- How a PTP message came (R509, R510): the transport as TRANSPORT codes it (0 layer 2, 1 UDP over IPv4, 2 UDP over
IPv6), the identifier of its IEEE 802.1Q tag, the destination MAC or IP address and, over UDP, the destination port. -/
structure PtpCarrier where
  transport : Fin 3
  vlan : Option (BitVec 12)
  destination : List Byte
  udp : Nat
  deriving DecidableEq, Repr

/-- A PTP message's header as the device uses it (R509, R512): the network port, how it came, domainNumber, clockIdentity of
the sender and of requestingPortIdentity (0 in a message without one), sequenceId, correctionField in 2^−16 ns, and RAW at the
message timestamp point. -/
structure Ptp where
  port : Fin 2
  carrier : PtpCarrier
  domain : Byte
  source : Nat
  requester : Nat
  sequence : Nat
  correction : Int
  raw : Nat
  deriving DecidableEq, Repr

/-- The data set of an Announce message (IEEE 1588-2019, default best master algorithm). -/
structure AnnounceData where
  priority1 : Nat
  clockClass : Nat
  accuracy : Nat
  variance : Nat
  priority2 : Nat
  identity : Nat
  stepsRemoved : Nat
  utcOffset : Int
  deriving DecidableEq, Repr

/-- The sources of captures (R518). -/
inductive CaptureEdge where
  /-- PRBn changed: rising or falling. -/
  | probe (n : Fin 4) (rising : Bool)
  /-- ILKn_N's raw level changed: high is unsafe. -/
  | ilk (n : Fin 4) (high : Bool)
  deriving DecidableEq, Repr

/-- What a calibration run measured (R548 to R550). -/
inductive CalMeasure where
  /-- Channels 0 and 1: the samples that the channel has collected (R549). -/
  | lissajous
  /-- Return lanes: the eye opening at each peaking code, the two voltage offsets of the 10^−3 disagreement, and the
  offset sampler's own offset (R550). -/
  | receiver (openings : List Nat) (low high own : Int)
  /-- Channels 10 and 11: the trims that the keeper's reference gives. -/
  | reference (trims : List Byte)
  deriving DecidableEq, Repr

/-- What PWR_FAIL_N does (R573): it falls, it has been low for WARN_FILTER, or it rises after a time low in µs. -/
inductive PwrFailEdge where
  | fall
  | filtered
  | rise (low : Nat)
  deriving DecidableEq, Repr

/-- What the sentinel reads at a sample (R581): ILK0_N to ILK3_N high (unsafe, bit n), WAKE_N, RESET_N and PWR_FAIL_N
low, and the ten rails in mV. -/
structure SentinelInputs where
  ilk : BitVec 4
  wakeLow : Bool
  resetLow : Bool
  pwrFailLow : Bool
  rails : List Nat
  deriving DecidableEq, Repr

/-- The commands: one constructor per row of spec/opcode_table.json, in its order. -/
inductive Instr where
  /-- READ (R71). A COP READ request, by datagram or mailbox, returns the whole value of an object or subindex of up to 8,192 bytes. -/
  | read (sender : Sender) (d : Datagram)
  /-- WRITE (R71). A COP WRITE of one whole value to an object that has no row of its own, tested in the abort order of R62. -/
  | write (sender : Sender) (m : Msg)
  /-- READ_BLOCK (R72). A READ_BLOCK request returns LENGTH bytes from OFFSET of a large OCTETS object. -/
  | readBlock (sender : Sender) (m : Msg)
  /-- WRITE_BLOCK (R73). A WRITE_BLOCK chunk is staged, and the last chunk tests and writes the whole value or none of it. -/
  | writeBlock (sender : Sender) (m : Msg)
  /-- SUBSCRIBE (R77). A SUBSCRIBE request adds or removes a subscription with its notification period. -/
  | subscribe (sender : Sender) (m : Msg)
  /-- NOTIFY (R79). At a subscription's period, the device sends the subscribed value as a NOTIFY. -/
  | notify (place : Nat) (now : Nat)
  /-- STAGING_TIMEOUT (R74). After 5 s without a chunk, the session's staged transfer is discarded. -/
  | stagingTimeout (session : Fin 17) (now : Nat)
  /-- SESSION_OPEN (R87). A write of 1 to SESSION_OPEN with SESSION 0 opens and binds a new session. -/
  | sessionOpen (sender : Sender) (sequence : Word32)
  /-- SESSION_CLOSE (R89). A write of a session's own number closes it and releases its resources. -/
  | sessionClose (r : Req)
  /-- SESSION_IDLE_TIMEOUT (R89). A session with no request for the idle time closes. -/
  | sessionIdleTimeout (session : Fin 17) (now : Nat)
  /-- MBN_DOORBELL (R85). A write of 1 to a slot's doorbell submits the request in MBn_REQ. -/
  | mbnDoorbell (slot : Fin 4) (request : List Byte) (value : Word32)
  /-- MBN_CLEAR (R84). A write to MBn_CLEAR clears the selected status bits of the slot. -/
  | mbnClear (slot : Fin 4) (value : Word32) (irqEnable : Option Word32)
  /-- OWNER_ENTRY_WRITE (R115). A write to an owner entry reserves a resource for the writing session or releases a claim. -/
  | ownerEntryWrite (r : Req) (index : Word16) (sub : Byte) (value : Word16)
  /-- ARM (R93). The ARM command takes SETUP to READY when the arm checks pass. -/
  | arm (r : Req)
  /-- DISARM (R93). The DISARM command takes READY to SETUP when no job is open. -/
  | disarm (r : Req)
  /-- START (R93). The START command takes READY to WRITE for the accepted job. -/
  | start (r : Req)
  /-- HOLD (R93). The HOLD command takes WRITE or MEND to HOLD from the next shot whose frames are not yet sent. -/
  | hold (r : Req)
  /-- RESUME (R93). The RESUME command returns HOLD to the mode it came from when the interlocks are stable and no WARN is present. -/
  | resume (r : Req)
  /-- PAUSE (R97). The PAUSE command sets a pending pause, which acts after the last shot of the stripe that is shooting. -/
  | pause (r : Req)
  /-- STOP (R98). The STOP command in HOLD ends the stripe at its present shot and takes the device to READY. -/
  | stop (r : Req)
  /-- MEND (R93). The MEND command takes READY to MEND when the open job has deficits pending. -/
  | mend (r : Req)
  /-- MEASURE (R231). The MEASURE command claims pool contexts and takes READY to MEASURE. -/
  | measure (r : Req)
  /-- END_MEASURE (R93). The END_MEASURE command returns MEASURE to READY. -/
  | endMeasure (r : Req)
  /-- SERVICE (R93). The SERVICE command takes READY to SERVICE. -/
  | service (r : Req)
  /-- END_SERVICE (R93). The END_SERVICE command returns SERVICE to READY when the arm checks pass and recovery is complete. -/
  | endService (r : Req)
  /-- DIAGNOSE (R103). The DIAGNOSE command takes SETUP with no job open to TEST without soak. -/
  | diagnose (r : Req)
  /-- END_TEST (R93). The END_TEST command takes TEST to SETUP or SERVICE when no diagnostic runs. -/
  | endTest (r : Req)
  /-- RELEASE (R93). The RELEASE command in SAFE resets the main die with the keeper running. -/
  | release (r : Req) (confirmed : Bool)
  /-- ENTER_SAFE (R93). The ENTER_SAFE command takes the device to SAFE with BLANK_ALL_N asserted. -/
  | enterSafe (r : Req)
  /-- END_OF_BOOT (R93). The completion of boot in WAKE takes the device to TEST, or to SAFE when boot fails. -/
  | endOfBoot (slotA slotB recordsValid : Bool)
  /-- SOAK_RESULT (R101). The completion of soak takes TEST to SETUP, SERVICE or SAFE. -/
  | soakResult (t : SelfTest)
  /-- DIAG_SOAK (R103). DIAG_COMMAND 0x01 runs the steps of soak in TEST. -/
  | diagSoak (r : Req)
  /-- DIAG_ENGINES (R103). DIAG_COMMAND 0x02 runs a known-answer pass on every engine. -/
  | diagEngines (r : Req)
  /-- DIAG_LANES (R103). DIAG_COMMAND 0x03 runs the PRBS31 loopback tests on every lane. -/
  | diagLanes (r : Req)
  /-- DIAG_STORE (R103). DIAG_COMMAND 0x04 runs a march test over a store range. -/
  | diagStore (r : Req)
  /-- DIAG_KEEPER (R103). DIAG_COMMAND 0x05 tests the check of every record in keeper memory. -/
  | diagKeeper (r : Req)
  /-- DIAG_DONE (R103). A diagnostic completes and reports its result in 0xF001. -/
  | diagDone (result : DiagResult)
  /-- JOB_ACCEPT (R106). The JOB_ACCEPT command starts acceptance of the package in the background. -/
  | jobAccept (r : Req)
  /-- JOB_ACCEPTED (R107). Acceptance completes; the acceptance entry is journalled and the job opens, or the job is rejected. -/
  | jobAccepted
  /-- JOB_CLOSE (R111). The JOB_CLOSE command journals the close and closes the pending records with the job. -/
  | jobClose (r : Req)
  /-- CHANNEL_ENABLE (R166). A write of ENABLE 1 to CHn_CTRL checks the transfer and starts the channel. -/
  | channelEnable (channel : Fin 32) (value : Word32)
  /-- CHANNEL_PAUSE (R177). A write that sets PAUSE stops unit issue; the channel drains and then shows PAUSED. -/
  | channelPause (channel : Fin 32) (value : Word32)
  /-- CHANNEL_UNPAUSE (R178). Clearing PAUSE makes the channel ready again from its active set. -/
  | channelUnpause (channel : Fin 32) (value : Word32)
  /-- CHANNEL_DISABLE (R178). A write of ENABLE 0 while the channel is paused leaves it idle. -/
  | channelDisable (channel : Fin 32) (value : Word32)
  /-- CHN_STAT_CLEAR (R165). A write-1-to-clear of CHn_STAT clears ERR, FULL, HALF or SHADOW_LOADED. -/
  | chnStatClear (channel : Fin 32) (value : Word32)
  /-- CHN_RELEASE (R176). A write to CHn_RELEASE subtracts the released bytes from FILL. -/
  | chnRelease (channel : Fin 32) (value : Word32)
  /-- CHN_LEN_WRITE (R170). A write of CHn_LEN sets the transfer length and fixes its half point. -/
  | chnLenWrite (before : List Bar0Write) (channel : Fin 32) (value : Word32)
  /-- SHADOW_WRITE (R172). A write to the shadow register set, ordered against a shadow load by arrival. -/
  | shadowWrite (channel : Fin 32) (dword : Fin 6) (value : Word32)
  /-- UNIT_ISSUE (R168). When a tag and buffer space are free, the ready channel of highest priority issues one unit. -/
  | unitIssue
  /-- UNIT_RETIRE (R169). A unit's completion arrives and the unit retires in issue order, or fails. -/
  | unitRetire (channel : Fin 32) (place : Nat) (c : Completion)
  /-- CPL_TIMEOUT (R180). No completion arrives within the completion timeout, and the unit fails. -/
  | cplTimeout (channel : Fin 32) (place : Nat)
  /-- TRANSLATION_COMPLETION (R184). An ATS translation completion arrives and fills the translation cache. -/
  | translationCompletion (page target : Nat) (read write : Bool)
  /-- PRG_RESPONSE (R186). A PRG Response resolves, repeats or fails the page wait of a channel. -/
  | prgResponse (index : Nat) (code : PrgCode)
  /-- PRI_TIMEOUT (R187). No PRG Response arrives within PRI_TIMEOUT, and the channel stops with XLATE_TIMEOUT. -/
  | priTimeout (channel : Fin 32) (raw : Nat)
  /-- INVALIDATE_REQUEST (R189). An ATS Invalidate Request is completed once the requests under that translation have completed. -/
  | invalidateRequest (first pages : Nat)
  /-- HOST_RESET (R190). PERST_N, hot reset, Function Level Reset or DL_Down resets the HOST island only. -/
  | hostReset (cause : HostResetCause)
  /-- LINK_UP (R191). The PCI Express link comes up at a negotiated speed and width. -/
  | linkUp (speed width : Nat) (flit : Bool)
  /-- BAR0_DROP (R160). A BAR0 access of a bad size or alignment is dropped or completed with Unsupported Request. -/
  | bar0Drop (isRead : Bool)
  /-- STRIPE_OPENED (R196). The device opens the next stripe into a free slot, takes its values, and journals STRIPE_OPENED. -/
  | stripeOpened
  /-- UNIT_TAKE_UP (R202). An engine takes up the ready context of earliest deadline for one unit of work. -/
  | unitTakeUp (cls : EngineClass) (engine : Nat)
  /-- UNIT_COMPLETE (R209). An engine completes a unit, checks it, writes its rows to the basket and puts the context down. -/
  | unitComplete (cls : EngineClass) (engine : Nat) (work : Nat) (fault : UnitFault)
  /-- STALL_RELEASE (R205). A unit that waits too long for store data puts its engine down with its state saved. -/
  | stallRelease (cls : EngineClass) (engine : Nat)
  /-- STORE_READ_COMPLETE (R474). A read of the store completes and its data reaches the requesting context or unit. -/
  | storeReadComplete (context : Fin 160) (corrected uncorrectable : List Nat)
  /-- CELL_REFILL_DONE (R228). A cell refill completes, or fails its decoding and the cell is marked failed. -/
  | cellRefillDone (cell : Nat)
  /-- CHECK_JOB_START (R232). Command 1 START of a check job sets r and runs the job. -/
  | checkJobStart (r : Req) (job : Fin 32)
  /-- CHECK_JOB_SUSPEND (R232). Command 2 SUSPEND puts the check job down after its present unit. -/
  | checkJobSuspend (r : Req) (job : Fin 32)
  /-- CHECK_JOB_RESUME (R232). Command 3 RESUME runs the check job again from RUNNING. -/
  | checkJobResume (r : Req) (job : Fin 32)
  /-- CHECK_JOB_ABORT (R232). Command 4 ABORT stops the check job and releases its context. -/
  | checkJobAbort (r : Req) (job : Fin 32)
  /-- ROW_FORMED (R252). Press forms row y once its inputs are complete or frozen and the output queue has room. -/
  | rowFormed
  /-- MAP_GRID_ROW_FETCH (R245). A fetched map grid row is tested, read again, or fails and blanks the rows that use it. -/
  | mapGridRowFetch (stripe : Nat) (gridRow : Nat) (firstRead : Bool) (secondRead : Bool)
  /-- STROBE (R358). The strobe of a launched shot fires at its refined time, or when the stage reaches the threshold. -/
  | strobe (next : Nat) (position : Int) (cross : Int) (checkpointLate : Bool)
  /-- COMPUTE_COMPLETE (R264). An engine completes the codes of a shot for its segment; codes go to LINK and residuals to the commit queue. -/
  | computeComplete (segment : Fin 64) (f : ComputeFaults)
  /-- LAUNCH (R357). Shot k is launched T_lead before its predicted strobe; its frames start on every lane. -/
  | launch
  /-- RETURN_FRAME (R311). A return frame arrives; ACK or NACK is decided for the shots it reports and the echo is updated. -/
  | returnFrame (lane : Fin 8) (wire : List Bool)
  /-- ACK_MISSING (R268). Neither ACK nor NACK arrives within 4.0 µs of the strobe; the entry is written with UNCERTAIN. -/
  | ackMissing (segment : Fin 64) (half : Bool) (raw : Nat)
  /-- RETURN_LANE_SILENCE (R315). 10 µs without a valid frame takes a return lane out of service. -/
  | returnLaneSilence (lane : Fin 8) (raw : Nat)
  /-- HANDOFF (R269). Once the row's age-112 entry is disposed of, it is sent to the next segment in 257 beats. -/
  | handoff (segment : Fin 64)
  /-- HANDOFF_RECEIVE (R271). The receiving segment tests the transferred row and lands it in its slot. -/
  | handoffReceive (segment : Fin 64) (first second : HandoffTest)
  /-- DRAIN_STEP (R287). After the last shot or STOP, every row advances one age with no shot. -/
  | drainStep
  /-- KNOWN_ANSWER_PASS (R278). A spare engine completes a known-answer pass, or fails and becomes FAILED. -/
  | knownAnswerPass (engine : Fin 68) (passes : Bool)
  /-- ENGINE_RETIRE (R289). ENGINE_COMMAND RETIRE retires an attached engine at the next advance, or a spare at once. -/
  | engineRetire (r : Req) (engine : Byte)
  /-- ENGINE_RETURN (R289). ENGINE_COMMAND RETURN runs a known-answer pass and makes the engine a spare. -/
  | engineReturn (r : Req) (engine : Byte) (passes : Bool)
  /-- SUBARRAY_COMMAND (R284). A command starts the repair of a segment sub-array onto its spare. -/
  | subarrayCommand (r : Req) (segment sub : Byte)
  /-- ALIGN_FRAME (R301). An ALIGN frame is sent on every idle lane at least every 2.0 µs. -/
  | alignFrame (lane : Fin 136)
  /-- RETURN_REMOVE (R315). RETURN_COMMAND REMOVE takes a return lane out of service until RESTORE. -/
  | returnRemove (r : Req) (lane : Byte)
  /-- RETURN_RESTORE (R315). RETURN_COMMAND RESTORE returns a removed return lane toward service. -/
  | returnRestore (r : Req) (lane : Byte)
  /-- LANE_SPARE (R618). LANE_COMMAND SPARE moves a logical lane to a qualifying spare at the next advance. -/
  | laneSpare (r : Req) (lane spare : Byte)
  /-- LANE_RESTORE (R320). LANE_COMMAND RESTORE sends ALIGN frames on the lane for 1 ms. -/
  | laneRestore (r : Req) (lane spare : Byte)
  /-- LANE_RESTORED (R320). After 1 ms the lane moves back if its LOCK bit reads 1, or the command is refused. -/
  | laneRestored (lane : Fin 128) (raw : Nat)
  /-- WAVE_BANK_WRITE (R323). A write of a waveform bank is tested, copied to the module over I²C and read back. -/
  | waveBankWrite (r : Req) (bank : Fin 2) (value : List Byte) (transfer : BankTransfer)
  /-- MODULE_COMMAND_READ (R329). MODULE_COMMAND READ starts a read of the module's identity memory. -/
  | moduleCommandRead (r : Req)
  /-- MODULE_READ (R329). The identity read completes, makes the identity valid or not, and recomputes the effective gain table. -/
  | moduleRead (transfer : I2cResult)
  /-- PATTERN_START (R336). A write of a pattern MODE starts or stops a PRBS generator and checker on a lane. -/
  | patternStart (r : Req) (lane : Fin 144) (mode : Byte)
  /-- PATTERN_INJECT (R337). INJECT inverts one generated bit. -/
  | patternInject (r : Req) (lane : Fin 144)
  /-- EYE_SCAN_START (R338). EYE_SCAN START begins one scan point on a return lane. -/
  | eyeScanStart (r : Req)
  /-- EYE_SCAN_DONE (R338). A scan point completes its set number of bits. -/
  | eyeScanDone (errors : Word32)
  /-- INTERLOCK_UNSAFE (R332). An interlock input goes unsafe; BLANK_ALL_N asserts, shots are blanked and writing goes to HOLD. -/
  | interlockUnsafe (input : Fin 4)
  /-- INTERLOCK_SAFE (R333). An interlock input stays low for ILK_STABLE and is safe again. -/
  | interlockSafe (input : Fin 4)
  /-- ORIGIN_ARM (R353). Once the stripe is open, the conveyor empty, the source VALID and d < 0, the origin is armed and the advances of shots 0 and 1 issue. -/
  | originArm
  /-- REVERSAL (R355). The progress falls below M − DIR_BAND, and WRITE or MEND goes to HOLD. -/
  | reversal
  /-- STANDSTILL (R343). No count changes for STANDSTILL_TIME and the speed is set to 0. -/
  | standstill (ch : Fin 10) (t : Nat)
  /-- AMPLITUDE (R346). A sine/cosine radius leaves its window or a converter clips, and the channel loses VALID. -/
  | amplitude (ch : Fin 2) (x : ScSample)
  /-- PHASE_JUMP (R346). The sine/cosine phase jumps by more than 4,096 counts, and the channel loses VALID. -/
  | phaseJump (ch : Fin 2) (t : Nat) (r : Reading)
  /-- QUAD_ERROR (R347). A and B change in the same accepted sample and the channel loses VALID. -/
  | quadError (enc : Fin 8) (t : Nat) (r : Reading)
  /-- HALL_INVALID (R348). A Hall channel reads state 0b000 or 0b111 and holds its count. -/
  | hallInvalid (enc : Fin 8) (t : Nat) (r : Reading)
  /-- INDEX (R350). An index edge references an armed channel, or is latched and compared with the expected count. -/
  | index (ch : Fin 10) (count : Int)
  /-- REF_ARM (R349). REF_COMMAND 1 arms referencing at the next index. -/
  | refArm (r : Req) (ch : Fin 10)
  /-- REF_CANCEL (R349). REF_COMMAND 2 cancels an armed referencing. -/
  | refCancel (r : Req) (ch : Fin 10)
  /-- CROSS_DISAGREE (R365). |D| exceeds LIMIT in SAMPLES consecutive samples with both sensors VALID, a latched fault. -/
  | crossDisagree
  /-- RETURN_TO_SC0 (R366). Cross-check COMMAND 1 returns the shot source to SC0. -/
  | returnToSc0 (r : Req)
  /-- PROBE_EDGE (R367). A filtered probe edge latches the source position into the probe queue. -/
  | probeEdge (probe : Fin 4) (rising : Bool) (position : Int)
  /-- PROBE_NEXT (R367). NEXT discards the oldest probe entry. -/
  | probeNext (r : Req) (probe : Fin 4)
  /-- COMPARE_FIRE (R368). The source position passes TARGET in the qualified direction and CMPn acts. -/
  | compareFire (compare : Fin 4)
  /-- COMPARE_BEHIND (R369). A write of TARGET or ACTION leaves the compare behind the position. -/
  | compareBehind (r : Req) (compare : Fin 4) (action : Bool) (value : Word64)
  /-- TIMER_ENABLE (R373). A write of ENABLE to a general timer claims it and starts or stops it. -/
  | timerEnable (r : Req) (timer : Fin 16) (on : Bool)
  /-- TIMER_EXPIRY (R372). A general timer reaches 0 and acts as ACTION selects. -/
  | timerExpiry (timer : Fin 16)
  /-- SERVO_TIMER_UPDATE (R380). Outside strobe updates, a servo update runs every T_idle. -/
  | servoTimerUpdate (t : Nat) (cross : Int)
  /-- RC_CLEAR (R395). RC COMMAND 1 clears both learning memories of an axis. -/
  | rcClear (r : Req) (axis : Fin 2)
  /-- AXIS_ENABLE (R421). Command 1 ENABLE brings the axis to standstill at I_HOLD and clears a fault. -/
  | axisEnable (r : Req) (axis : Fin 4)
  /-- AXIS_DISABLE (R421). Command 2 DISABLE sets the gates low. -/
  | axisDisable (r : Req) (axis : Fin 4)
  /-- AXIS_MOVE (R421). Command 3 MOVE moves the axis to TARGET. -/
  | axisMove (r : Req) (axis : Fin 4)
  /-- AXIS_STOP (R421). Command 4 STOP stops the axis at STOP_DECEL and disengages it. -/
  | axisStop (r : Req) (axis : Fin 4)
  /-- AXIS_HOME (R417). Command 5 HOME starts the search for the home switch. -/
  | axisHome (r : Req) (axis : Fin 4)
  /-- AXIS_ENGAGE (R420). Command 6 ENGAGE starts cam following. -/
  | axisEngage (r : Req) (axis : Fin 4)
  /-- AXIS_DISENGAGE (R421). Command 7 DISENGAGE stops a following axis at DECEL. -/
  | axisDisengage (r : Req) (axis : Fin 4)
  /-- AXIS_SET_POSITION (R421). Command 8 SET_POSITION sets POSITION to TARGET and REFERENCED. -/
  | axisSetPosition (r : Req) (axis : Fin 4)
  /-- TARGET_WRITE (R411). A write of TARGET during a MOVE retargets the axis at once. -/
  | targetWrite (r : Req) (axis : Fin 4) (value : Word32)
  /-- PROFILE_TICK (R409). Every 1 µs the profile generator or cam updates the axis's velocity and position. -/
  | profileTick (axis : Fin 4) (raw : Nat) (negative positive home : Bool)
  /-- HOLD_DELAY (R408). After HOLD_DELAY at velocity 0 the current level falls to I_HOLD. -/
  | holdDelay (axis : Fin 4) (raw : Nat)
  /-- COMPARATOR_CROSSING (R406). A phase's current comparator crosses its threshold and the chopper changes state. -/
  | comparatorCrossing (axis : Fin 4) (phase : Fin 2) (raw : Nat)
  /-- MAX_ON (R407). A phase's drive reaches MAX_ON without crossing upper. -/
  | maxOn (axis : Fin 4) (phase : Fin 2) (raw : Nat)
  /-- SWITCH_EDGE (R413). A limit or home switch level is accepted after SWITCH_FILTER. -/
  | switchEdge (axis : Fin 4) (switch : Fin 3)
  /-- ECHO_WAIT (R449). The wait for each segment's echo ends by a valid frame or by ECHO_WAIT. -/
  | echoWait (raw : Nat)
  /-- RECOVERY_CONTINUE (R452). Recovery COMMAND 1 CONTINUE resumes recovery once the rewritten package header matches. -/
  | recoveryContinue (r : Req)
  /-- RECOVERY_DONE (R453). The replay completes and the records and STRIPE_CUT are journalled. -/
  | recoveryDone
  /-- MEND_RASTER_BUILT (R454). The mend raster of a pass is built and its mend-pass stripes are ready. -/
  | mendRasterBuilt
  /-- DECISION (R459). A decision sets DECISION for the held records of one or all stripes. -/
  | decision (r : Req) (stripe : Word32) (choice : Byte)
  /-- DEFICIT_MAP_START (R460). DEFICIT_MAP START replays one stripe's records into a KLF map in the store. -/
  | deficitMapStart (r : Req)
  /-- DEFICIT_MAP_DONE (R460). The deficit map output completes or runs out of space. -/
  | deficitMapDone
  /-- STORE_COMMAND_INIT (R471). STORE_COMMAND INIT brings up every rank in service or spare. -/
  | storeCommandInit (r : Req)
  /-- STORE_INIT (R471). Store bring-up completes and the ranks, pages and CONTENTS_KEPT are decided. -/
  | storeInit (rejected : List RankReject) (contentsHeld : Bool)
  /-- STORE_RETIRE (R482). STORE_COMMAND RETIRE sets a rank to retiring. -/
  | storeRetire (r : Req) (channel : Fin 16) (rank : Fin 4)
  /-- CLEAR_REMAP (R469). STORE_COMMAND CLEAR_REMAP clears the remap list. -/
  | clearRemap (r : Req)
  /-- COMMAND_ERROR (R481). DDRx_ALERT_N reports a CA parity error and the commands are repeated. -/
  | commandError (channel : Fin 12) (ranks : List (Fin 4))
  /-- PAGE_MIGRATION (R482). A page of a retiring rank is copied to a free page and its entry switched. -/
  | pageMigration
  /-- REFETCH_DONE (R485). A write of a page number to DONE clears AWAITING and resumes the waiting contexts. -/
  | refetchDone (r : Req) (page : Word32)
  /-- REFRESH_DUE (R478). A rank's REFab falls due and is issued, postponed or forced. -/
  | refreshDue (channel : Fin 12) (rank : Fin 4) (busy : Bool)
  /-- TEMPERATURE_POLL (R478). The 1 ms poll of a rank's temperature report sets the refresh rate. -/
  | temperaturePoll (channel : Fin 12) (rank : Fin 4) (doubled : Bool)
  /-- IDLE_PD (R477). A rank idle for IDLE_PD enters precharge power-down. -/
  | idlePd (channel : Fin 12) (rank : Fin 4)
  /-- PATROL (R487). The patrol read of every mapped page of the package and map falls due. -/
  | patrol (page : Nat) (corrected uncorrectable : List Nat)
  /-- RINSE_READ (R497). Every RINSE_INTERVAL cycles, rinse reads the next word of an array. -/
  | rinseRead (array : Fin 15) (part : Nat) (raw : Nat) (found : RinseResult) (holds : WordHolds)
  /-- CHECKER_TEST (R500). CHECKER_TEST in TEST drives every checker and bank through its test patterns. -/
  | checkerTest (r : Req) (subarrays : List SubarrayFault) (arrays : List ArrayFault)
  /-- SYNC (R513). A received Sync yields θ, which the servo acts on. -/
  | sync (h : Ptp) (twoStep : Bool) (origin : Int) (interval : Nat)
  /-- FOLLOW_UP (R509). A Follow_Up from a two-step master supplies the Sync timestamp. -/
  | followUp (h : Ptp) (origin : Int)
  /-- DELAY_RESP (R515). A delay response gives a delay sample that moves B or counts toward a path change. -/
  | delayResp (h : Ptp) (received : Int)
  /-- PDELAY_REQ (R509). A received Pdelay_Req is answered with a timestamped Pdelay_Resp. -/
  | pdelayReq (h : Ptp)
  /-- PDELAY_RESP (R515). A Pdelay_Resp and its follow-up give a link delay sample. -/
  | pdelayResp (h : Ptp) (received : Int) (sent : Int)
  /-- DELAY_REQ (R512). At its interval the device transmits a timestamped Delay_Req. -/
  | delayReq (raw : Nat)
  /-- ANNOUNCE (R509). A received Announce feeds the best master selection. -/
  | announce (h : Ptp) (a : AnnounceData)
  /-- HOLDOVER (R514). Announce receipt times out on both ports and the rate is held. -/
  | holdover (raw : Nat)
  /-- PATH_HOLD_END (R516). HOLD_TIME passes; settled samples set B and the servo returns to LOCKING, or the hold restarts. -/
  | pathHoldEnd (raw : Nat)
  /-- PTP_PORT_SWITCH (R511). The active port loses link or announces, and the PTP port moves to the other port. -/
  | ptpPortSwitch (raw : Nat)
  /-- STEP_AGAIN (R507). CLOCK_COMMAND STEP_AGAIN returns the servo to FREE. -/
  | stepAgain (r : Req)
  /-- CAPTURE (R518). An enabled source edge is stamped and queued as a capture record. -/
  | capture (e : CaptureEdge) (raw : Nat)
  /-- CAPTURE_NEXT (R519). CAPTURE_NEXT discards the oldest capture record. -/
  | captureNext (r : Req)
  /-- LAUNCH_ARM (R521). COMMAND ARM checks a launch entry and arms it. -/
  | launchArm (r : Req) (entry : Fin 64)
  /-- LAUNCH_CANCEL (R521). COMMAND CANCEL cancels a launch entry. -/
  | launchCancel (r : Req) (entry : Fin 64)
  /-- SCHEDULED_LAUNCH (R522). An armed entry's frame is sent so that it leaves the medium at T_L, or late, or is discarded. -/
  | scheduledLaunch (entry : Fin 64) (raw : Nat)
  /-- RECORD (R529). The keeper accepts an event record, numbers it and writes it to FIRST, START or RING. -/
  | record
  /-- RECORDS_DROPPED (R533). Once the recorder queue has room, the count of dropped records is recorded. -/
  | recordsDropped
  /-- RECORDER_CLEAR (R534). RECORDER_COMMAND CLEAR empties all areas and writes RECORDER_CLEARED. -/
  | recorderClear (r : Req)
  /-- THRESHOLD_ENABLE (R541). A write of ENABLE to a threshold counter claims it and clears or stops it. -/
  | thresholdEnable (r : Req) (counter : Fin 64) (on : Bool)
  /-- TAG_RELEASE (R545). A write to TAG_RELEASE frees complete or abandoned tag records. -/
  | tagRelease (r : Req) (mask : Word64)
  /-- CAL_RERUN (R564). CAL_COMMAND RERUN makes a calibration channel due before others. -/
  | calRerun (r : Req) (channel : Byte)
  /-- CAL_FACTORY (R558). CAL_COMMAND FACTORY writes the fused trims as a new record and makes the channel due. -/
  | calFactory (r : Req) (channel : Byte)
  /-- CAL_RUN_START (R554). When no run is active, the waiting channel of largest temperature difference starts its run. -/
  | calRunStart
  /-- CAL_DONE (R549). A calibration run completes its collection and computes new trims. -/
  | calDone (channel : Fin 12) (m : CalMeasure)
  /-- RUN_LIMIT (R549). RUN_LIMIT passes before the collection completes and the run ends with result 4. -/
  | runLimit (channel : Fin 12) (raw : Nat)
  /-- CAL_APPLIED (R548). Awaiting trims are applied at their point, such as the first sample with no origin armed. -/
  | calApplied (channel : Fin 12)
  /-- FW_IMAGE_PART (R560). A write of one part of the inactive firmware slot. -/
  | fwImagePart (r : Req) (part : Fin 4) (value : List Byte)
  /-- FW_VERIFY (R560). FW_COMMAND VERIFY tests the inactive slot against its header and CRC. -/
  | fwVerify (r : Req)
  /-- FW_ACTIVATE (R561). FW_COMMAND ACTIVATE marks a verified slot pending for the next stripe opening. -/
  | fwActivate (r : Req)
  /-- FW_CANCEL (R560). FW_COMMAND CANCEL withdraws a pending slot. -/
  | fwCancel (r : Req)
  /-- FW_READY (R562). The new image reports ready and the watchdog resumes. -/
  | fwReady
  /-- FW_REVERTED (R562). The new image has not reported ready within 100 ms and the previous image returns. -/
  | fwReverted (raw : Nat)
  /-- SUPPLY_WARN (R571). A rail stays below WARN for WARN_FILTER; shots are blanked and writing goes to HOLD. -/
  | supplyWarn (rail : Fin 10) (mv : Nat)
  /-- SUPPLY_RESET (R572). A main rail stays below RESET and the main die is reset. -/
  | supplyReset (rail : Fin 9) (mv : Nat) (confirmed : Bool)
  /-- SUPPLY_RECOVERED (R570). A rail stays above its threshold plus 1 % for 1 ms. -/
  | supplyRecovered (rail : Fin 10) (mv below : Nat) (aboveWarn : Bool)
  /-- VKEEP_RISE (R572). VKEEP rises above its threshold, a power-on; the mode becomes KEEP. -/
  | vkeepRise
  /-- VKEEP_FALL (R572). VKEEP falls below RESET; the keeper stops and the mode is OFF. -/
  | vkeepFall (mv : Nat)
  /-- PWR_FAIL (R573). PWR_FAIL_N falls or rises; low for WARN_FILTER it is a WARN condition. -/
  | pwrFail (e : PwrFailEdge)
  /-- PWR_FAIL_DELAY (R573). PWR_FAIL_N still low after PWR_FAIL_DELAY resets the main die. -/
  | pwrFailDelay (confirmed : Bool)
  /-- RESET_N (R575). RESET_N low for at least 1 µs resets the main die. -/
  | resetN (confirmed : Bool)
  /-- WATCHDOG (R575). A supervisor silent for 50 ms resets the main die. -/
  | watchdog (confirmed : Bool)
  /-- RESET_COMMAND_RESET (R580). RESET_COMMAND 1 resets the main die after the response. -/
  | resetCommandReset (r : Req) (confirmed : Bool)
  /-- RESET_COMMAND_STANDBY (R580). RESET_COMMAND 2 resets the main die and holds it in KEEP until WAKE_N or RESET_N. -/
  | resetCommandStandby (r : Req) (confirmed : Bool)
  /-- SENTINEL_SAMPLE (R581). In standby the sentinel samples the inputs and rails 8 times per second. -/
  | sentinelSample (v : SentinelInputs)
  /-- MAIN_RELEASED (R582). The wake conditions hold for WAKE_STABLE and the main die is released into WAKE. -/
  | mainReleased (kept : Nat) (ticks : Nat) (wakeLow : Bool)
  /-- CLOCK_LOST (R585). Loss of SYSREF causes a keeper reset; loss of the crystal moves the sentinel to the RC monitor. -/
  | clockLost (crystal : Bool) (confirmed : Bool)
  /-- BACKUP_BASE_SET (R586). Once per second while the main die runs, BASE is set so BACKUP_NS equals T_NS. -/
  | backupBaseSet
  /-- DIE_TEMP_UPDATE (R587). Every 1 ms DIE_TEMP is updated from the junction sensors. -/
  | dieTempUpdate (die keeper : Int) (rails : List Nat) (confirmed : Bool)
  /-- TAP_INSTRUCTION_LOAD (R606). An instruction is loaded into the TAP; EXTEST and the like while the main die runs enter SAFE. -/
  | tapInstructionLoad (x : TapLoad)
  /-- POSITION_SAMPLE (R357). At each sample of the shot source, STAGE updates d, M and the speed estimate and refines s(k) of a launched shot up to 100 ns before its strobe. -/
  | positionSample (ch : Fin 10) (t : Nat) (r : Reading)
  /-- NETWORK_LINK_CHANGE (R64). A NET port's link comes up, after clause 37 auto-negotiation on 1000BASE-X, or goes down, and LINK_STATE changes. -/
  | networkLinkChange (port : Fin 2) (up : Bool)
  /-- ADDRESS_RESOLUTION_REQUEST (R66). A received ARP or IPv6 neighbour discovery request is answered for the port's address. -/
  | addressResolutionRequest (port : Fin 2) (vlan : Option (BitVec 12)) (v6 : Bool) (source target : List Byte)
  /-- ECHO_REQUEST (R66). A received ICMP or ICMPv6 echo request is answered. -/
  | echoRequest (port : Fin 2) (vlan : Option (BitVec 12)) (v6 : Bool) (source target : List Byte) (data : List Byte)
  /-- BLANK_TIME (R406). The chopper's blanking time of a phase runs out and the comparator is read, counting toward a short fault. -/
  | blankTime (axis : Fin 4) (phase : Fin 2) (raw : Nat) (above : Bool)
  /-- FAST_TIME (R406). In mixed decay, FAST_TIME of fast decay runs out and the phase changes to slow decay. -/
  | fastTime (axis : Fin 4) (phase : Fin 2) (raw : Nat)
  /-- SYNC_INTERVAL (R509). As master, the device transmits a one-step Sync at LOG_SYNC_INTERVAL. -/
  | syncInterval (raw : Nat)
  /-- ANNOUNCE_INTERVAL (R509). As master, the device transmits Announce at LOG_ANNOUNCE_INTERVAL. -/
  | announceInterval (raw : Nat)
  /-- DELAY_REQ_RECEIPT (R509). As master, a received Delay_Req is timestamped and answered with Delay_Resp. -/
  | delayReqReceipt (h : Ptp)
  /-- PDELAY_REQ_INTERVAL (R509). With the peer-to-peer profile, the device transmits a timestamped Pdelay_Req at LOG_DELAY_INTERVAL. -/
  | pdelayReqInterval (raw : Nat)
  /-- AER_UNCORRECTABLE (R191). The endpoint detects an uncorrectable error on the link, records it and sends vector 36. -/
  | aerUncorrectable (status header : Word32)
  /-- CONFIGURATION_SPACE_WRITE (R186). The host writes configuration space, enabling or disabling ATS or PRI, setting Device Control or the power state. -/
  | configurationSpaceWrite (w : ConfigWrite)
  deriving DecidableEq, Repr

end Sys2Proof
end

