-- ==== Sys2Proof/Decode.lean ====
section
/-!
DEFINITION. Sys2Proof/Decode.lean: the commands that a table word spells.
The block has no command encoding of a processor's kind (R68 gives COP messages, whose bytes a port delivers): the
table gives no row any bits, so no word spells a command.
-/
namespace Sys2Proof

/-- The command that `w` spells by the table's bits: none, since the table gives its rows no bits. -/
def decodeTableWord (_nbits _w : Nat) : Option Instr := none

end Sys2Proof
end

