-- ==== Sys2Proof/Config.lean ====
section
/-!
DEFINITION. Sys2Proof/Config.lean: what one part fixes and the values that the spec leaves open.
None of these has a body, so nothing proved can rest on a value of it.
-/
namespace Sys2Proof

/-- A fresh value that the spec leaves open, by the model's own counter (log entry 1). -/
opaque Config.freeValue : Nat → Nat

/-- What a CHECKER_TEST finds where the request does not come with what it finds (log entry 1). -/
opaque Config.freeSubarrays : Nat → List SubarrayFault
opaque Config.freeArrays : Nat → List ArrayFault

/-- What a read on the module's I²C bus returns where the request does not come with it (log entry 1). -/
opaque Config.freeBytes : Nat → List Byte

/-- Whether the check of a record in the keeper's storage fails on a read at a time, which nothing in the spec decides (R531). -/
opaque Config.recordFails : Nat → List Byte → Bool

/-- DEVICE_UID, fused at test (0x1003). -/
opaque Config.deviceUid : Nat → Byte

/-- Register addresses of the two waveform banks in the module's control space, which the spec does not state (R323). -/
opaque Config.bankRegister : Nat → Nat

/-- The MAC address of a network port, fused (0x1010:02, 0x1011:02). -/
opaque Config.mac : Nat → Nat → Byte

/-- clockIdentity of the device's own clock as a PTP master, fused with its MAC addresses (R509). -/
opaque Config.clockIdentity : Nat

/-- Vendor ID and Subsystem IDs in configuration space, which the spec does not state (R158). -/
opaque Config.vendorId : Nat
opaque Config.subsystemIds : Nat

/-- The frequency of the keeper's local oscillator, which the spec does not state (R540, CLOCK_HZ of SOURCE 0x0B). -/
opaque Config.keeperHz : Nat

/-- Shots between the loss of a segment's engine and the switch of the live-visits table, which the device chooses
within the bound of R282. -/
opaque Config.rebuildShots : Nat

/-- Shots until a lost table slice is reloaded, which the device chooses within the bound of array 3 in R494. -/
opaque Config.sliceReload : Nat

/-- The trims of a calibration channel fused at test, by channel and byte (R557). -/
opaque Config.fusedTrim : Nat → Nat → Byte

/-- What a trim becomes whose value lies outside its type, which the spec does not state (R549, R550, log entry 1). -/
opaque Config.wideTrim : Int → Nat

/-- VERSION of the firmware image that slot A holds from the factory (0xB021:04). -/
opaque Config.fwVersion : Nat

end Sys2Proof
end

