-- ==== Sys2Proof/Machine/Bits.lean ====
section
/-!
DEFINITION. Sys2Proof/Machine/Bits.lean: byte order, bit fields, two's complement and CRC-32C.
Byte order is R6, fixed-point storage R9, and the check word R613.
-/
namespace Sys2Proof.Machine

/-- The `n` little-endian bytes of `v` (R6). -/
def le : Nat → Nat → List Byte
  | 0, _ => []
  | n + 1, v => BitVec.ofNat 8 v :: le n (v / 256)

/-- The value of little-endian bytes (R6). -/
def ofLe : List Byte → Nat
  | [] => 0
  | b :: bs => b.toNat + 256 * ofLe bs

/-- `n` bytes of `l` from byte `off` on; zero beyond its end. -/
def slice (l : List Byte) (off n : Nat) : List Byte :=
  let t := (l.drop off).take n
  t ++ List.replicate (n - t.length) 0

/-- The `n`-byte unsigned field of `l` at byte `off`. -/
def field (l : List Byte) (off n : Nat) : Nat := ofLe (slice l off n)

/-- Bits [hi:lo] of `v` (R5). -/
def bits (v hi lo : Nat) : Nat := v / 2 ^ lo % 2 ^ (hi + 1 - lo)

/-- Bit [n] of `v` (R5). -/
def bitAt (v n : Nat) : Bool := v / 2 ^ n % 2 = 1

/-- `v` with bit [n] set to `b`. -/
def setBit (v n : Nat) (b : Bool) : Nat :=
  if bitAt v n = b then v else if b then v + 2 ^ n else v - 2 ^ n

/-- One bit as a number. -/
def bit01 (b : Bool) : Nat := if b then 1 else 0

/-- The two's-complement value of the low `w` bits of `v`. -/
def toSigned (w v : Nat) : Int :=
  let u := v % 2 ^ w
  if u < 2 ^ (w - 1) then u else (u : Int) - 2 ^ w

/-- The low `w` bits of an integer in two's complement. -/
def ofSigned (w : Nat) (i : Int) : Nat := (i % 2 ^ w).toNat

/-- The signed `n`-byte field of `l` at byte `off`. -/
def sfield (l : List Byte) (off n : Nat) : Int := toSigned (8 * n) (field l off n)

/-- `l` with the bytes from `off` on replaced by `b`. -/
def patch (l : List Byte) (off : Nat) (b : List Byte) : List Byte :=
  l.take off ++ b ++ l.drop (off + b.length)

/-- Bytes of a zero-padded text or value of `n` bytes (R71). -/
def padTo (n : Nat) (l : List Byte) : List Byte := l.take n ++ List.replicate (n - l.length) 0

/-- Clamps `v` to `lo … hi`. -/
def clampInt (lo hi v : Int) : Int := if v < lo then lo else if hi < v then hi else v

/-- `n` bits of `v` in reversed order. -/
def bitRev : Nat → Nat → Nat
  | 0, _ => 0
  | n + 1, v => (v % 2) * 2 ^ n + bitRev n (v / 2)

/-- The reflected form of the polynomial 0x1EDC6F41 (R613). -/
def crcPoly : Nat := 0x82F63B78

/-- `n` bit steps of a register kept in reflected form, for the reflected polynomial `p`. -/
def crcSteps (p : Nat) : Nat → Nat → Nat
  | 0, c => c
  | n + 1, c => crcSteps p n (if c % 2 = 1 then (c / 2) ^^^ p else c / 2)

/-- The register in reflected form after the bytes of a message. -/
def crcRun (p : Nat) : Nat → List Byte → Nat
  | c, [] => c
  | c, b :: bs => crcRun p (crcSteps p 8 (c ^^^ b.toNat)) bs

/-- CRC-32C from the initial register `init`, written in unreflected form; reflected input and output, final XOR
0xFFFF_FFFF (R613, which also says that a register kept in reflected form loads the bit-reverse). -/
def crc32cFrom (init : Nat) (m : List Byte) : Nat := crcRun crcPoly (bitRev 32 init) m ^^^ 0xFFFFFFFF

/-- The unfolded CRC-32C. -/
def crc32c (m : List Byte) : Nat := crc32cFrom 0xFFFFFFFF m

/-- The frame check sequence of IEEE 802.3 (the polynomial 0x04C11DB7 of that standard, PRESUMED, log entry 28). -/
def etherFcs (m : List Byte) : Nat := crcRun 0xEDB88320 0xFFFFFFFF m ^^^ 0xFFFFFFFF

end Sys2Proof.Machine
end

