-- ==== Sys2Proof/Machine/ObjTable.lean ====
section
/-!
DEFINITION. Sys2Proof/Machine/ObjTable.lean: the object dictionary as the spec's tables give it.
One row per line of the object tables (R2, R61, R104, R116, R157, R192, R234, R256, R291, R340, R375, R402, R424,
R463, R490, R503, R525, R547, R566, R590): its index, subindexes, type, access, default and permitted values.
-/
namespace Sys2Proof.Machine

/-- The types of R9 and the table of 00_scope, *Objects, types and access*: width in bytes. -/
inductive Ty where
  | bool
  | u (bytes : Nat)
  | i (bytes : Nat)
  | octets (bytes : Nat)
  | str (bytes : Nat)
  deriving DecidableEq, Repr

/-- The access classes of 00_scope. -/
inductive Acc where
  | ro | rw | rwS | rwL | wo | cmd
  deriving DecidableEq, Repr

/-- The permitted values of a numeric object (RANGE of R62). -/
inductive Rng where
  | any
  | span (lo hi : Nat)
  | spanOr (lo hi other : Nat)
  | zeroOr (lo hi : Nat)
  | sspan (lo hi : Int)
  | mult (lo hi step : Nat)
  | mask (m : Nat)
  | among (l : List Nat)
  deriving DecidableEq, Repr

/-- One row of an object table: indexes `base` to `base + count − 1`, subindexes `sub` to `sub + subs − 1`,
the default of its n-th subindex (or instance, where it has one subindex each) from `dflts`, `dflt` beyond it. -/
structure ObjRow where
  base : Nat
  count : Nat
  sub : Nat
  subs : Nat
  ty : Ty
  acc : Acc
  dflt : Nat
  dflts : List Nat
  rng : Rng
  deriving DecidableEq, Repr

/-- Width of a type in bytes. -/
def Ty.bytes : Ty → Nat
  | .bool => 1
  | .u n => n
  | .i n => n
  | .octets n => n
  | .str n => n

/-- Whether a value of the type is held as bytes and not as a number. -/
def Ty.isBytes : Ty → Bool
  | .octets _ => true
  | .str _ => true
  | _ => false

/-- Whether a stored value `v` of type `t` is permitted. -/
def Rng.ok (t : Ty) (v : Nat) : Rng → Bool
  | .any => decide (t ≠ .bool ∨ v ≤ 1)
  | .span lo hi => decide (lo ≤ v ∧ v ≤ hi)
  | .spanOr lo hi o => decide (lo ≤ v ∧ v ≤ hi ∨ v = o)
  | .zeroOr lo hi => decide (v = 0 ∨ lo ≤ v ∧ v ≤ hi)
  | .sspan lo hi =>
    let w := 8 * t.bytes
    let s : Int := if v < 2 ^ (w - 1) then v else (v : Int) - 2 ^ w
    decide (lo ≤ s ∧ s ≤ hi)
  | .mult lo hi st => decide (lo ≤ v ∧ v ≤ hi ∧ v % st = 0)
  | .mask m => decide (v &&& m = v)
  | .among l => decide (v ∈ l)

/-- Objects 0x1000 to 0x17FF, part 0. -/
def objectsCommunication0 : List ObjRow :=
  [ ⟨0x1000, 1, 0x00, 1, .str 16, .ro, 0, [], .any⟩, -- DEVICE_NAME
    ⟨0x1001, 1, 0x00, 1, .str 16, .ro, 0, [], .any⟩, -- ORDER_CODE
    ⟨0x1002, 1, 0x00, 1, .u 1, .ro, 177, [], .any⟩, -- STEPPING
    ⟨0x1003, 1, 0x00, 1, .octets 8, .ro, 0, [], .any⟩, -- DEVICE_UID
    ⟨0x1010, 1, 0x00, 1, .u 1, .ro, 8, [], .any⟩, -- NET0_CONFIG
    ⟨0x1010, 1, 0x01, 1, .u 1, .rwS, 0, [], .span 0 2⟩, -- MODE
    ⟨0x1010, 1, 0x02, 1, .octets 6, .ro, 0, [], .any⟩, -- MAC
    ⟨0x1010, 1, 0x03, 1, .octets 4, .rwS, 0, [], .any⟩, -- IPV4_ADDR
    ⟨0x1010, 1, 0x04, 1, .octets 4, .rwS, 0, [], .any⟩, -- IPV4_MASK
    ⟨0x1010, 1, 0x05, 1, .octets 4, .rwS, 0, [], .any⟩, -- IPV4_GATEWAY
    ⟨0x1010, 1, 0x06, 1, .octets 16, .rwS, 0, [], .any⟩, -- IPV6_ADDR
    ⟨0x1010, 1, 0x07, 1, .u 2, .rwS, 0, [], .span 0 4095⟩, -- VLAN (range: log entry 92)
    ⟨0x1010, 1, 0x08, 1, .u 1, .ro, 0, [], .any⟩, -- LINK_STATE
    ⟨0x1011, 1, 0x00, 1, .u 1, .ro, 8, [], .any⟩, -- NET0_CONFIG
    ⟨0x1011, 1, 0x01, 1, .u 1, .rwS, 0, [], .span 0 2⟩, -- MODE
    ⟨0x1011, 1, 0x02, 1, .octets 6, .ro, 0, [], .any⟩, -- MAC
    ⟨0x1011, 1, 0x03, 1, .octets 4, .rwS, 0, [], .any⟩, -- IPV4_ADDR
    ⟨0x1011, 1, 0x04, 1, .octets 4, .rwS, 0, [], .any⟩, -- IPV4_MASK
    ⟨0x1011, 1, 0x05, 1, .octets 4, .rwS, 0, [], .any⟩, -- IPV4_GATEWAY
    ⟨0x1011, 1, 0x06, 1, .octets 16, .rwS, 0, [], .any⟩, -- IPV6_ADDR
    ⟨0x1011, 1, 0x07, 1, .u 2, .rwS, 0, [], .span 0 4095⟩, -- VLAN (range: log entry 92)
    ⟨0x1011, 1, 0x08, 1, .u 1, .ro, 0, [], .any⟩, -- LINK_STATE
    ⟨0x1100, 1, 0x00, 1, .u 4, .cmd, 0, [], .any⟩, -- SESSION_OPEN
    ⟨0x1101, 1, 0x00, 1, .u 1, .cmd, 0, [], .any⟩ ] -- SESSION_CLOSE
/-- Objects 0x1000 to 0x17FF, part 1. -/
def objectsCommunication1 : List ObjRow :=
  [ ⟨0x1102, 1, 0x00, 1, .u 4, .rw, 30000, [], .span 1000 3600000⟩, -- SESSION_IDLE_TIMEOUT
    ⟨0x1103, 1, 0x00, 1, .u 2, .ro, 0, [], .any⟩, -- SESSIONS_OPEN
    ⟨0x1110, 1, 0x00, 1, .u 1, .ro, 5, [], .any⟩, -- COP_COUNTERS
    ⟨0x1110, 1, 0x01, 1, .u 4, .ro, 0, [], .any⟩, -- RX_MESSAGES
    ⟨0x1110, 1, 0x02, 1, .u 4, .ro, 0, [], .any⟩, -- CRC_DROPS
    ⟨0x1110, 1, 0x03, 1, .u 4, .ro, 0, [], .any⟩, -- FORMAT_DROPS
    ⟨0x1110, 1, 0x04, 1, .u 4, .ro, 0, [], .any⟩, -- REPEATS
    ⟨0x1110, 1, 0x05, 1, .u 4, .ro, 0, [], .any⟩ ] -- REFUSALS
/-- The object table of the range 0x1000 to 0x17FF. -/
def objectsCommunication : List ObjRow := objectsCommunication0 ++ objectsCommunication1

/-- Objects 0x2000 to 0x27FF, part 0. -/
def objectsMode0 : List ObjRow :=
  [ ⟨0x2000, 1, 0x00, 1, .u 1, .ro, 2, [], .any⟩, -- MODE
    ⟨0x2001, 1, 0x00, 1, .u 4, .cmd, 0, [], .any⟩, -- MODE_COMMAND
    ⟨0x2002, 1, 0x00, 1, .u 1, .ro, 0, [], .any⟩, -- HOLD_ORIGIN
    ⟨0x2003, 1, 0x00, 1, .bool, .ro, 0, [], .any⟩, -- PAUSE_PENDING
    ⟨0x2010, 1, 0x00, 1, .u 8, .rw, 0, [], .any⟩, -- JOB_PACKAGE_OFFSET
    ⟨0x2011, 1, 0x00, 1, .u 8, .rw, 0, [], .any⟩, -- JOB_PACKAGE_LENGTH
    ⟨0x2012, 1, 0x00, 1, .u 4, .rw, 0x1E8480, [], .span 1000 2000000⟩, -- JOB_SHOT_RATE
    ⟨0x2014, 1, 0x00, 1, .u 4, .cmd, 0, [], .any⟩, -- JOB_ACCEPT
    ⟨0x2015, 1, 0x00, 1, .u 1, .ro, 4, [], .any⟩, -- ACCEPT_STATUS
    ⟨0x2015, 1, 0x01, 1, .u 1, .ro, 0, [], .any⟩, -- ACCEPT_RESULT
    ⟨0x2015, 1, 0x02, 1, .u 4, .ro, 0, [], .any⟩, -- MAX_SHOT_RATE
    ⟨0x2015, 1, 0x03, 1, .u 4, .ro, 0, [], .any⟩, -- FAIL_STRIPE
    ⟨0x2015, 1, 0x04, 1, .u 4, .ro, 0, [], .any⟩, -- FAIL_TILE_ROW
    ⟨0x2016, 1, 0x00, 1, .u 4, .cmd, 0, [], .any⟩, -- JOB_CLOSE
    ⟨0x2020, 1, 0x00, 1, .u 1, .ro, 5, [], .any⟩, -- JOB_STATUS
    ⟨0x2020, 1, 0x01, 1, .u 1, .ro, 0, [], .any⟩, -- JOB_STATE
    ⟨0x2020, 1, 0x02, 1, .u 4, .ro, 0, [], .any⟩, -- JOB_ID
    ⟨0x2020, 1, 0x03, 1, .u 4, .ro, 0, [], .any⟩, -- STRIPES
    ⟨0x2020, 1, 0x04, 1, .u 4, .ro, 0, [], .any⟩, -- STRIPES_DONE
    ⟨0x2020, 1, 0x05, 1, .u 4, .ro, 0, [], .any⟩, -- FIRST_UNOPENED
    ⟨0x2100, 1, 0x00, 1, .u 1, .ro, 4, [], .any⟩, -- (highest subindex)
    ⟨0x2100, 1, 0x01, 4, .u 2, .rw, 0, [], .any⟩, -- PROBE_OWNER
    ⟨0x2101, 1, 0x00, 1, .u 1, .ro, 4, [], .any⟩, -- (highest subindex)
    ⟨0x2101, 1, 0x01, 4, .u 2, .rw, 0, [], .any⟩ ] -- COMPARE_OWNER
/-- Objects 0x2000 to 0x27FF, part 1. -/
def objectsMode1 : List ObjRow :=
  [ ⟨0x2102, 1, 0x00, 1, .u 1, .ro, 8, [], .any⟩, -- (highest subindex)
    ⟨0x2102, 1, 0x01, 8, .u 2, .rw, 0, [], .any⟩, -- ENC_OWNER
    ⟨0x2103, 1, 0x00, 1, .u 1, .ro, 16, [], .any⟩, -- (highest subindex)
    ⟨0x2103, 1, 0x01, 16, .u 2, .rw, 0, [], .any⟩, -- TIMER_OWNER
    ⟨0x2104, 1, 0x00, 1, .u 1, .ro, 32, [], .any⟩, -- (highest subindex)
    ⟨0x2104, 1, 0x01, 32, .u 2, .rw, 0, [], .any⟩, -- CONTEXT_OWNER
    ⟨0x2105, 1, 0x00, 1, .u 1, .ro, 64, [], .any⟩, -- (highest subindex)
    ⟨0x2105, 1, 0x01, 64, .u 2, .rw, 0, [], .any⟩, -- THRESHOLD_OWNER
    ⟨0x2106, 1, 0x00, 1, .u 1, .ro, 4, [], .any⟩, -- (highest subindex)
    ⟨0x2106, 1, 0x01, 4, .u 2, .rw, 0, [], .any⟩ ] -- CAM_OWNER
/-- The object table of the range 0x2000 to 0x27FF. -/
def objectsMode : List ObjRow := objectsMode0 ++ objectsMode1

/-- Objects 0x3000 to 0x37FF, part 0. -/
def objectsGeometry0 : List ObjRow :=
  [ ⟨0x3000, 1, 0x00, 1, .u 1, .ro, 7, [], .any⟩, -- ARRAY_GEOMETRY
    ⟨0x3000, 1, 0x01, 1, .u 2, .ro, 512, [], .any⟩, -- BEAM_ROWS
    ⟨0x3000, 1, 0x02, 1, .u 2, .ro, 512, [], .any⟩, -- BEAM_COLUMNS
    ⟨0x3000, 1, 0x03, 1, .u 1, .ro, 16, [], .any⟩, -- BEAM_PITCH_PX
    ⟨0x3000, 1, 0x04, 1, .u 1, .ro, 32, [], .any⟩, -- VISITS_PER_PIXEL
    ⟨0x3000, 1, 0x05, 1, .u 2, .ro, 8192, [], .any⟩, -- STRIPE_WIDTH_PX
    ⟨0x3000, 1, 0x06, 1, .u 4, .ro, 0x2000000, [], .any⟩, -- MAX_STRIPE_ROWS
    ⟨0x3000, 1, 0x07, 1, .u 2, .ro, 8176, [], .any⟩, -- RUN_SHOTS
    ⟨0x3001, 1, 0x00, 1, .u 1, .ro, 4, [], .any⟩, -- DOSE_CONSTANTS
    ⟨0x3001, 1, 0x01, 1, .u 2, .ro, 2048, [], .any⟩, -- NOMINAL_DOSE
    ⟨0x3001, 1, 0x02, 1, .u 2, .ro, 3840, [], .any⟩, -- MAX_TARGET
    ⟨0x3001, 1, 0x03, 1, .u 1, .ro, 63, [], .any⟩, -- CODE_MAX
    ⟨0x3001, 1, 0x04, 1, .u 1, .ro, 2, [], .any⟩, -- STEP_AT_UNIT_GAIN
    ⟨0x3002, 1, 0x00, 1, .u 1, .rwL, 2, [], .span 1 16⟩, -- DOSE_TOLERANCE
    ⟨0x3003, 1, 0x00, 1, .u 1, .ro, 2, [], .any⟩, -- TOLERANCE_IN_EFFECT
    ⟨0x3010, 1, 0x00, 1, .octets 524288, .rwS, 0, [], .any⟩, -- BEAM_GAIN_TABLE
    ⟨0x3011, 1, 0x00, 1, .u 4, .ro, 0, [], .any⟩, -- BEAM_GAIN_CHECK
    ⟨0x3012, 1, 0x00, 1, .u 4, .ro, 0, [], .any⟩, -- LIVE_BEAMS
    ⟨0x3013, 1, 0x00, 1, .u 2, .ro, 0, [], .any⟩, -- GAIN_MAX_LIVE
    ⟨0x3020, 1, 0x00, 1, .u 1, .ro, 8, [], .any⟩, -- STRIPE_STATUS
    ⟨0x3020, 1, 0x01, 1, .u 4, .ro, 0, [], .any⟩, -- STRIPE_INDEX
    ⟨0x3020, 1, 0x02, 1, .u 1, .ro, 0, [], .any⟩, -- DIRECTION
    ⟨0x3020, 1, 0x03, 1, .u 4, .ro, 0, [], .any⟩, -- LENGTH_ROWS
    ⟨0x3020, 1, 0x04, 1, .u 8, .ro, 0, [], .any⟩ ] -- SSN_BASE
/-- Objects 0x3000 to 0x37FF, part 1. -/
def objectsGeometry1 : List ObjRow :=
  [ ⟨0x3020, 1, 0x05, 1, .u 4, .ro, 0, [], .any⟩, -- SHOT_INDEX
    ⟨0x3020, 1, 0x06, 1, .i 8, .ro, 0, [], .any⟩, -- ORIGIN_COUNTS
    ⟨0x3020, 1, 0x07, 1, .u 1, .ro, 0, [], .any⟩, -- STATE
    ⟨0x3020, 1, 0x08, 1, .u 1, .ro, 0, [], .any⟩, -- KIND
    ⟨0x3021, 1, 0x00, 1, .u 8, .ro, 0, [], .any⟩, -- SSN_NEXT
    ⟨0x3022, 1, 0x00, 1, .u 8, .ro, 0, [], .any⟩ ] -- SSN_LAST_ISSUED
/-- The object table of the range 0x3000 to 0x37FF. -/
def objectsGeometry : List ObjRow := objectsGeometry0 ++ objectsGeometry1

/-- Objects 0x3800 to 0x3FFF, part 0. -/
def objectsFeed0 : List ObjRow :=
  [ ⟨0x3800, 1, 0x00, 1, .u 1, .ro, 4, [], .any⟩, -- LINK_STATUS
    ⟨0x3800, 1, 0x01, 1, .u 1, .ro, 0, [], .any⟩, -- SPEED
    ⟨0x3800, 1, 0x02, 1, .u 1, .ro, 0, [], .any⟩, -- WIDTH
    ⟨0x3800, 1, 0x03, 1, .bool, .ro, 0, [], .any⟩, -- FLIT
    ⟨0x3800, 1, 0x04, 1, .u 4, .ro, 0, [], .any⟩, -- HOST_RESETS
    ⟨0x3801, 1, 0x00, 1, .u 4, .rw, 100, [], .span 10 10000⟩, -- PRI_TIMEOUT
    ⟨0x3802, 1, 0x00, 1, .u 1, .ro, 3, [], .any⟩, -- TRANSLATION
    ⟨0x3802, 1, 0x01, 1, .bool, .ro, 0, [], .any⟩, -- ATS_ENABLED
    ⟨0x3802, 1, 0x02, 1, .bool, .ro, 0, [], .any⟩, -- PRI_ENABLED
    ⟨0x3802, 1, 0x03, 1, .u 4, .ro, 0, [], .any⟩, -- INVALIDATIONS
    ⟨0x3803, 1, 0x00, 1, .u 8, .ro, 0, [], .any⟩, -- FEED_BYTES
    ⟨0x3804, 1, 0x00, 1, .u 4, .ro, 0, [], .any⟩, -- BAR0_DROPS
    ⟨0x3810, 1, 0x00, 1, .u 1, .ro, 32, [], .any⟩, -- (highest subindex)
    ⟨0x3810, 1, 0x01, 32, .u 4, .ro, 0, [], .any⟩, -- CH_ERRORS
    ⟨0x3811, 1, 0x00, 1, .u 1, .ro, 32, [], .any⟩, -- (highest subindex)
    ⟨0x3811, 1, 0x01, 32, .u 4, .ro, 0, [], .any⟩ ] -- CH_XLATE_FAULTS
/-- The object table of the range 0x3800 to 0x3FFF. -/
def objectsFeed : List ObjRow := objectsFeed0

/-- Objects 0x4000 to 0x47FF, part 0. -/
def objectsExpansion0 : List ObjRow :=
  [ ⟨0x4000, 1, 0x00, 1, .u 2, .ro, 256, [], .any⟩, -- KLF_VERSION
    ⟨0x4001, 1, 0x00, 1, .u 1, .ro, 5, [], .any⟩, -- PACKAGE_FAULT
    ⟨0x4001, 1, 0x01, 1, .u 1, .ro, 0, [], .any⟩, -- CODE
    ⟨0x4001, 1, 0x02, 1, .u 1, .ro, 255, [], .any⟩, -- TILE_COLUMN
    ⟨0x4001, 1, 0x03, 1, .u 4, .ro, 0xFFFFFFFF, [], .any⟩, -- CELL
    ⟨0x4001, 1, 0x04, 1, .u 8, .ro, 0, [], .any⟩, -- OFFSET
    ⟨0x4001, 1, 0x05, 1, .u 4, .ro, 0, [], .any⟩, -- JOB_ATTEMPT
    ⟨0x4002, 1, 0x00, 1, .u 1, .ro, 5, [], .any⟩, -- PACKAGE_INFO
    ⟨0x4002, 1, 0x01, 1, .octets 16, .ro, 0, [], .any⟩, -- JOB_TAG
    ⟨0x4002, 1, 0x02, 1, .u 4, .ro, 0, [], .any⟩, -- STRIPE_COUNT
    ⟨0x4002, 1, 0x03, 1, .u 4, .ro, 0, [], .any⟩, -- CELL_COUNT
    ⟨0x4002, 1, 0x04, 1, .u 2, .ro, 0, [], .any⟩, -- JOB_DOSE_SCALE
    ⟨0x4002, 1, 0x05, 1, .u 4, .ro, 0, [], .any⟩, -- HEADER_CRC
    ⟨0x4010, 1, 0x00, 1, .u 1, .ro, 2, [], .any⟩, -- EXPANSION_CONFIG
    ⟨0x4010, 1, 0x01, 1, .u 1, .rwS, 90, [], .span 50 100⟩, -- ADMISSION_SHARE
    ⟨0x4010, 1, 0x02, 1, .u 2, .rwS, 2000, [], .span 500 20000⟩, -- STALL_RELEASE
    ⟨0x4011, 1, 0x00, 1, .u 1, .ro, 7, [], .any⟩, -- ENGINES
    ⟨0x4011, 1, 0x01, 1, .u 1, .ro, 16, [], .any⟩, -- DECODERS
    ⟨0x4011, 1, 0x02, 1, .u 8, .ro, 0x47868C00, [], .any⟩, -- DECODER_RATE
    ⟨0x4011, 1, 0x03, 1, .u 1, .ro, 8, [], .any⟩, -- RASTERIZERS
    ⟨0x4011, 1, 0x04, 1, .u 8, .ro, 0x11E1A3000, [], .any⟩, -- RASTERIZER_RATE
    ⟨0x4011, 1, 0x05, 1, .u 1, .ro, 4, [], .any⟩, -- PLACERS
    ⟨0x4011, 1, 0x06, 1, .u 8, .ro, 0x11E1A3000, [], .any⟩, -- PLACER_RATE
    ⟨0x4011, 1, 0x07, 1, .u 8, .ro, 0x47868C00, [], .any⟩ ] -- COMPRESSOR_RATE
/-- Objects 0x4000 to 0x47FF, part 1. -/
def objectsExpansion1 : List ObjRow :=
  [ ⟨0x4012, 1, 0x00, 1, .u 1, .ro, 4, [], .any⟩, -- EXPANSION_STATUS
    ⟨0x4012, 1, 0x01, 1, .u 2, .ro, 0, [], .any⟩, -- LEAD_ROWS
    ⟨0x4012, 1, 0x02, 1, .u 2, .ro, 0, [], .any⟩, -- LEAD_MIN
    ⟨0x4012, 1, 0x03, 1, .bool, .ro, 0, [], .any⟩, -- FIRST_ROWS_READY
    ⟨0x4012, 1, 0x04, 1, .u 4, .ro, 0, [], .any⟩, -- ENTRY_ROW
    ⟨0x4013, 1, 0x00, 1, .u 1, .ro, 12, [], .any⟩, -- (highest subindex)
    ⟨0x4013, 1, 0x01, 12, .u 4, .ro, 0, [], .any⟩, -- BLANKED_PARTS
    ⟨0x4014, 1, 0x00, 1, .u 1, .ro, 6, [], .any⟩, -- LAST_FAILURE
    ⟨0x4014, 1, 0x01, 1, .u 4, .ro, 0, [], .any⟩, -- STRIPE
    ⟨0x4014, 1, 0x02, 1, .u 4, .ro, 0, [], .any⟩, -- TILE_ROW
    ⟨0x4014, 1, 0x03, 1, .u 1, .ro, 0, [], .any⟩, -- TILE_COLUMN
    ⟨0x4014, 1, 0x04, 1, .u 1, .ro, 0, [], .any⟩, -- REASON
    ⟨0x4014, 1, 0x05, 1, .u 1, .ro, 0, [], .any⟩, -- CONTEXT
    ⟨0x4014, 1, 0x06, 1, .u 4, .ro, 0, [], .any⟩, -- BLOCK_SEQ
    ⟨0x4020, 1, 0x00, 1, .u 1, .ro, 5, [], .any⟩, -- CELL_CACHE
    ⟨0x4020, 1, 0x01, 1, .u 4, .ro, 0x1800000, [], .any⟩, -- CAPACITY
    ⟨0x4020, 1, 0x02, 1, .u 4, .ro, 0, [], .any⟩, -- BYTES_USED
    ⟨0x4020, 1, 0x03, 1, .u 4, .ro, 0, [], .any⟩, -- CELLS_RESIDENT
    ⟨0x4020, 1, 0x04, 1, .u 4, .ro, 0, [], .any⟩, -- CELLS_FAILED
    ⟨0x4020, 1, 0x05, 1, .u 4, .ro, 0, [], .any⟩, -- REFILLS
    ⟨0x4030, 1, 0x00, 1, .u 1, .ro, 5, [], .any⟩, -- MEASURE_CONFIG
    ⟨0x4030, 1, 0x01, 1, .u 8, .rw, 0, [], .mult 0 (2 ^ 64 - 1) 64⟩, -- MEASURE_STRIPE_ADDR
    ⟨0x4030, 1, 0x02, 1, .u 4, .rw, 0, [], .any⟩, -- MEASURE_COLUMNS
    ⟨0x4030, 1, 0x03, 1, .u 2, .ro, 0, [], .any⟩ ] -- MEASURE_SEQUENCE
/-- Objects 0x4000 to 0x47FF, part 2. -/
def objectsExpansion2 : List ObjRow :=
  [ ⟨0x4030, 1, 0x04, 1, .u 4, .ro, 0, [], .any⟩, -- MEASURE_SHORT_PIXELS
    ⟨0x4030, 1, 0x05, 1, .u 4, .ro, 0, [], .any⟩, -- MEASURE_BLANKED_PARTS
    ⟨0x4100, 160, 0x00, 1, .u 1, .ro, 12, [], .any⟩, -- CONTEXT_q
    ⟨0x4100, 160, 0x01, 1, .u 1, .ro, 0, [], .any⟩, -- STATE
    ⟨0x4100, 160, 0x02, 1, .u 4, .ro, 0, [], .any⟩, -- SOURCE
    ⟨0x4100, 160, 0x03, 1, .u 4, .ro, 0, [], .any⟩, -- TILE_ROW
    ⟨0x4100, 160, 0x04, 1, .u 4, .ro, 0, [], .any⟩, -- BLOCK_SEQ
    ⟨0x4100, 160, 0x05, 1, .u 8, .rw, 0x1EDC6F41, [], .any⟩, -- POLY
    ⟨0x4100, 160, 0x06, 1, .u 1, .rw, 32, [], .span 1 64⟩, -- WIDTH
    ⟨0x4100, 160, 0x07, 1, .u 8, .rw, 0xFFFFFFFF, [], .any⟩, -- INIT
    ⟨0x4100, 160, 0x08, 1, .u 8, .rw, 0xFFFFFFFF, [], .any⟩, -- XOROUT
    ⟨0x4100, 160, 0x09, 1, .u 1, .rw, 3, [], .mask 7⟩, -- FLAGS
    ⟨0x4100, 160, 0x0A, 1, .u 4, .rw, 0, [], .any⟩, -- FOLD
    ⟨0x4100, 160, 0x0B, 1, .u 8, .rw, 0, [], .any⟩, -- RUNNING
    ⟨0x4100, 160, 0x0C, 1, .u 1, .ro, 255, [], .any⟩, -- ROLE
    ⟨0x4200, 32, 0x00, 1, .u 1, .ro, 6, [], .any⟩, -- CHECK_JOB_j
    ⟨0x4200, 32, 0x01, 1, .u 8, .rw, 0, [], .any⟩, -- ADDR
    ⟨0x4200, 32, 0x02, 1, .u 8, .rw, 0, [], .any⟩, -- LENGTH
    ⟨0x4200, 32, 0x03, 1, .u 8, .rw, 0, [], .any⟩, -- EXPECT
    ⟨0x4200, 32, 0x04, 1, .u 1, .cmd, 0, [], .any⟩, -- COMMAND
    ⟨0x4200, 32, 0x05, 1, .u 1, .ro, 0, [], .any⟩, -- RESULT
    ⟨0x4200, 32, 0x06, 1, .u 8, .ro, 0, [], .any⟩ ] -- DONE_BYTES
/-- The object table of the range 0x4000 to 0x47FF. -/
def objectsExpansion : List ObjRow := objectsExpansion0 ++ objectsExpansion1 ++ objectsExpansion2

/-- Objects 0x4800 to 0x4FFF, part 0. -/
def objectsPress0 : List ObjRow :=
  [ ⟨0x4800, 1, 0x00, 1, .u 1, .ro, 6, [], .any⟩, -- PRESS_CONFIG
    ⟨0x4800, 1, 0x01, 1, .bool, .rwL, 0, [], .any⟩, -- DENSITY_ON
    ⟨0x4800, 1, 0x02, 1, .bool, .rwS, 0, [], .any⟩, -- MAP_ON
    ⟨0x4800, 1, 0x03, 1, .u 8, .rwS, 0, [], .any⟩, -- MAP_BASE
    ⟨0x4800, 1, 0x04, 1, .u 1, .rwL, 0, [], .span 0 2⟩, -- SEAM_MODE
    ⟨0x4800, 1, 0x05, 1, .u 2, .rwL, 0, [], .span 0 256⟩, -- SEAM_OVERLAP
    ⟨0x4800, 1, 0x06, 1, .u 1, .rwL, 0, [], .span 0 1⟩, -- GAP_POLICY
    ⟨0x4801, 1, 0x00, 1, .octets 2048, .rwL, 0, [], .any⟩, -- FACTOR_TABLE
    ⟨0x4802, 1, 0x00, 1, .octets 128, .rwL, 0, [], .any⟩, -- RAMP_TABLE
    ⟨0x4803, 1, 0x00, 1, .u 1, .ro, 4, [], .any⟩, -- PRESS_IN_EFFECT
    ⟨0x4803, 1, 0x01, 1, .u 4, .ro, 0, [], .any⟩, -- FACTOR_CHECK
    ⟨0x4803, 1, 0x02, 1, .u 4, .ro, 0, [], .any⟩, -- RAMP_CHECK
    ⟨0x4803, 1, 0x03, 1, .u 4, .ro, 0xFFFFFFFF, [], .any⟩, -- NEIGHBOUR_MINUS_X
    ⟨0x4803, 1, 0x04, 1, .u 4, .ro, 0xFFFFFFFF, [], .any⟩, -- NEIGHBOUR_PLUS_X
    ⟨0x4804, 1, 0x00, 1, .u 8, .ro, 0, [], .any⟩, -- MAP_LENGTH
    ⟨0x4810, 1, 0x00, 1, .u 1, .ro, 3, [], .any⟩, -- PRESS_STATUS
    ⟨0x4810, 1, 0x01, 1, .u 4, .ro, 0, [], .any⟩, -- NEXT_ROW
    ⟨0x4810, 1, 0x02, 1, .u 1, .ro, 0, [], .any⟩, -- QUEUE_ROWS
    ⟨0x4810, 1, 0x03, 1, .u 1, .ro, 0, [], .any⟩, -- QUEUE_MIN
    ⟨0x4811, 1, 0x00, 1, .u 1, .ro, 6, [], .any⟩, -- PRESS_COUNTERS
    ⟨0x4811, 1, 0x01, 1, .u 8, .ro, 0, [], .any⟩, -- CLIPPED_PIXELS
    ⟨0x4811, 1, 0x02, 1, .u 4, .ro, 0, [], .any⟩, -- CLIPPED_ROWS
    ⟨0x4811, 1, 0x03, 1, .u 4, .ro, 0, [], .any⟩, -- MAX_BEFORE_CLIP
    ⟨0x4811, 1, 0x04, 1, .u 4, .ro, 0, [], .any⟩ ] -- LATE_ROWS
/-- Objects 0x4800 to 0x4FFF, part 1. -/
def objectsPress1 : List ObjRow :=
  [ ⟨0x4811, 1, 0x05, 1, .u 4, .ro, 0, [], .any⟩, -- MAP_FAILURES
    ⟨0x4811, 1, 0x06, 1, .u 4, .ro, 0, [], .any⟩ ] -- GAP_PARTS
/-- The object table of the range 0x4800 to 0x4FFF. -/
def objectsPress : List ObjRow := objectsPress0 ++ objectsPress1

/-- Objects 0x5000 to 0x57FF, part 0. -/
def objectsConveyor0 : List ObjRow :=
  [ ⟨0x5000, 1, 0x00, 1, .u 1, .ro, 5, [], .any⟩, -- CONVEYOR_CONSTANTS
    ⟨0x5000, 1, 0x01, 1, .u 1, .ro, 64, [], .any⟩, -- SEGMENTS
    ⟨0x5000, 1, 0x02, 1, .u 1, .ro, 128, [], .any⟩, -- ROWS_PER_SEGMENT
    ⟨0x5000, 1, 0x03, 1, .u 1, .ro, 68, [], .any⟩, -- ENGINES
    ⟨0x5000, 1, 0x04, 1, .u 4, .ro, 0x100000, [], .any⟩, -- RETIRE_WINDOW
    ⟨0x5000, 1, 0x05, 1, .u 2, .ro, 4000, [], .any⟩, -- ACK_DEADLINE
    ⟨0x5010, 1, 0x00, 1, .u 1, .ro, 64, [], .any⟩, -- (highest subindex)
    ⟨0x5010, 1, 0x01, 64, .u 1, .ro, 0, List.range 64, .any⟩, -- ENGINE_MAP
    ⟨0x5011, 1, 0x00, 1, .u 1, .ro, 68, [], .any⟩, -- (highest subindex)
    ⟨0x5011, 1, 0x01, 68, .u 1, .ro, 0, List.replicate 64 0 ++ List.replicate 4 1, .any⟩, -- ENGINE_STATE
    ⟨0x5012, 1, 0x00, 1, .u 1, .ro, 68, [], .any⟩, -- (highest subindex)
    ⟨0x5012, 1, 0x01, 68, .u 4, .ro, 0, [], .any⟩, -- ENGINE_MISMATCHES
    ⟨0x5013, 1, 0x00, 1, .u 4, .cmd, 0, [], .any⟩, -- ENGINE_COMMAND
    ⟨0x5014, 1, 0x00, 1, .u 1, .ro, 4, [], .any⟩, -- SPARES_FREE
    ⟨0x5015, 1, 0x00, 1, .u 8, .ro, 0, [], .any⟩, -- SEGMENTS_BLANKED
    ⟨0x5020, 1, 0x00, 1, .u 1, .ro, 4, [], .any⟩, -- LVT_STATUS
    ⟨0x5020, 1, 0x01, 1, .u 8, .ro, 0, [], .any⟩, -- SWITCH_SSN
    ⟨0x5020, 1, 0x02, 1, .u 4, .ro, 0, [], .any⟩, -- LIVE_BEAMS
    ⟨0x5020, 1, 0x03, 1, .u 1, .ro, 0, [], .any⟩, -- CAUSE
    ⟨0x5020, 1, 0x04, 1, .u 4, .ro, 0, [], .any⟩, -- LVT_CHECK
    ⟨0x5021, 1, 0x00, 1, .octets 262144, .ro, 0, [], .any⟩, -- LIVE_VISITS_TABLE
    ⟨0x5030, 1, 0x00, 1, .u 1, .ro, 64, [], .any⟩, -- (highest subindex)
    ⟨0x5030, 1, 0x01, 64, .u 2, .ro, 255, [], .any⟩, -- SEGMENT_MEMORY
    ⟨0x5031, 1, 0x00, 1, .u 1, .ro, 64, [], .any⟩ ] -- (highest subindex)
/-- Objects 0x5000 to 0x57FF, part 1. -/
def objectsConveyor1 : List ObjRow :=
  [ ⟨0x5031, 1, 0x01, 64, .u 4, .ro, 0, [], .any⟩, -- CORRECTED_WORDS
    ⟨0x5032, 1, 0x00, 1, .u 1, .ro, 64, [], .any⟩, -- (highest subindex)
    ⟨0x5032, 1, 0x01, 64, .u 4, .ro, 0, [], .any⟩, -- UNCORRECTABLE_WORDS
    ⟨0x5033, 1, 0x00, 1, .u 2, .rw, 64, [], .span 1 65535⟩, -- REPAIR_THRESHOLD
    ⟨0x5034, 1, 0x00, 1, .u 2, .cmd, 0, [], .any⟩, -- SUBARRAY_COMMAND
    ⟨0x5040, 1, 0x00, 1, .u 1, .ro, 3, [], .any⟩, -- CONVEYOR_STATUS
    ⟨0x5040, 1, 0x01, 1, .u 1, .ro, 0, [], .any⟩, -- STATE
    ⟨0x5040, 1, 0x02, 1, .u 2, .ro, 0, [], .any⟩, -- ROWS_RESIDENT
    ⟨0x5040, 1, 0x03, 1, .u 1, .ro, 0, [], .any⟩, -- COMMIT_PENDING
    ⟨0x5041, 1, 0x00, 1, .u 1, .ro, 6, [], .any⟩, -- CONVEYOR_COUNTERS
    ⟨0x5041, 1, 0x01, 1, .u 8, .ro, 0, [], .any⟩, -- MISMATCHES
    ⟨0x5041, 1, 0x02, 1, .u 4, .ro, 0, [], .any⟩, -- COMPUTE_LATE
    ⟨0x5041, 1, 0x03, 1, .u 4, .ro, 0, [], .any⟩, -- NACKS
    ⟨0x5041, 1, 0x04, 1, .u 4, .ro, 0, [], .any⟩, -- ACKS_MISSING
    ⟨0x5041, 1, 0x05, 1, .u 8, .ro, 0, [], .any⟩, -- LOST_WORDS
    ⟨0x5041, 1, 0x06, 1, .u 4, .ro, 0, [], .any⟩, -- HANDOFF_RETRIES
    ⟨0x5042, 1, 0x00, 1, .u 1, .ro, 4, [], .any⟩, -- LAST_MISMATCH
    ⟨0x5042, 1, 0x01, 1, .u 1, .ro, 0, [], .any⟩, -- ENGINE
    ⟨0x5042, 1, 0x02, 1, .u 1, .ro, 0, [], .any⟩, -- SEGMENT
    ⟨0x5042, 1, 0x03, 1, .u 8, .ro, 0, [], .any⟩, -- SSN
    ⟨0x5042, 1, 0x04, 1, .u 4, .ro, 0, [], .any⟩ ] -- BEAM
/-- The object table of the range 0x5000 to 0x57FF. -/
def objectsConveyor : List ObjRow := objectsConveyor0 ++ objectsConveyor1

/-- Objects 0x5800 to 0x5FFF, part 0. -/
def objectsLink0 : List ObjRow :=
  [ ⟨0x5800, 1, 0x00, 1, .u 1, .ro, 6, [], .any⟩, -- LINK_CONFIG
    ⟨0x5800, 1, 0x01, 1, .u 1, .rwS, 2, [], .span 0 2⟩, -- LANE_RATE
    ⟨0x5800, 1, 0x02, 1, .u 2, .rwS, 100, [], .span 40 160⟩, -- LAND_TIME
    ⟨0x5800, 1, 0x03, 1, .bool, .rwS, 1, [], .any⟩, -- SHOTB_ENABLE
    ⟨0x5800, 1, 0x04, 1, .bool, .rw, 1, [], .any⟩, -- SPARE_AUTO
    ⟨0x5800, 1, 0x05, 1, .u 2, .rw, 4, [], .span 1 1000⟩, -- SPARE_THRESHOLD
    ⟨0x5800, 1, 0x06, 1, .u 1, .rwS, 8, [], .span 4 64⟩, -- STROBE_WIDTH
    ⟨0x5801, 1, 0x00, 1, .u 1, .ro, 2, [], .any⟩, -- LINK_LIMITS
    ⟨0x5801, 1, 0x01, 1, .u 4, .ro, 0x1E8480, [], .any⟩, -- LINK_SHOT_RATE
    ⟨0x5801, 1, 0x02, 1, .u 4, .ro, 0x7B13D, [], .any⟩, -- LEAD
    ⟨0x5802, 1, 0x00, 1, .u 1, .ro, 2, [], .any⟩, -- LINK_STATUS
    ⟨0x5802, 1, 0x01, 1, .octets 17, .ro, 0, [], .any⟩, -- TX_LOCKED
    ⟨0x5802, 1, 0x02, 1, .u 1, .ro, 0, [], .any⟩, -- RX_IN_SERVICE
    ⟨0x5810, 1, 0x00, 1, .u 1, .ro, 128, [], .any⟩, -- (highest subindex)
    ⟨0x5810, 1, 0x01, 128, .u 1, .ro, 0, List.range 128, .any⟩, -- LANE_MAP
    ⟨0x5811, 1, 0x00, 1, .u 1, .ro, 136, [], .any⟩, -- (highest subindex)
    ⟨0x5811, 1, 0x01, 136, .u 1, .ro, 0, List.replicate 128 0 ++ List.replicate 8 1, .any⟩, -- LANE_STATE
    ⟨0x5812, 1, 0x00, 1, .u 4, .cmd, 0, [], .any⟩, -- LANE_COMMAND
    ⟨0x5813, 1, 0x00, 1, .u 1, .ro, 128, [], .any⟩, -- (highest subindex)
    ⟨0x5813, 1, 0x01, 128, .u 4, .ro, 0, [], .any⟩, -- LANE_NACKS
    ⟨0x5818, 1, 0x00, 1, .u 1, .ro, 64, [], .any⟩, -- (highest subindex)
    ⟨0x5818, 1, 0x01, 64, .u 8, .ro, 0, [], .any⟩, -- ECHO_SSN
    ⟨0x5819, 1, 0x00, 1, .u 1, .ro, 8, [], .any⟩, -- (highest subindex)
    ⟨0x5819, 1, 0x01, 8, .u 4, .ro, 0, [], .any⟩ ] -- RETURN_ERRORS
/-- Objects 0x5800 to 0x5FFF, part 1. -/
def objectsLink1 : List ObjRow :=
  [ ⟨0x581A, 1, 0x00, 1, .u 2, .cmd, 0, [], .any⟩, -- RETURN_COMMAND
    ⟨0x5820, 1, 0x00, 1, .u 1, .ro, 3, [], .any⟩, -- TUMBLE
    ⟨0x5820, 1, 0x01, 1, .bool, .rwL, 1, [], .any⟩, -- TUMBLE_ON
    ⟨0x5820, 1, 0x02, 1, .u 2, .rwL, 16384, [], .span 1 16384⟩, -- GROUP_LIMIT
    ⟨0x5820, 1, 0x03, 1, .u 1, .rw, 0, [], .span 0 2⟩, -- TUMBLE_ACTION
    ⟨0x5821, 1, 0x00, 1, .u 1, .ro, 16, [], .any⟩, -- (highest subindex)
    ⟨0x5821, 1, 0x01, 16, .u 2, .ro, 0, [], .any⟩, -- GROUP_PEAK
    ⟨0x5822, 1, 0x00, 1, .u 1, .ro, 16, [], .any⟩, -- (highest subindex)
    ⟨0x5822, 1, 0x01, 16, .u 4, .ro, 0, [], .any⟩, -- GROUP_OVER
    ⟨0x5830, 1, 0x00, 1, .octets 96, .rw, 0, [], .any⟩, -- WAVE_BANK_0
    ⟨0x5831, 1, 0x00, 1, .octets 96, .rw, 0, [], .any⟩, -- WAVE_BANK_1
    ⟨0x5832, 1, 0x00, 1, .u 1, .rwL, 0, [], .span 0 1⟩, -- WAVE_SELECT
    ⟨0x5833, 1, 0x00, 1, .u 1, .ro, 0, [], .any⟩, -- WAVE_IN_EFFECT
    ⟨0x5834, 1, 0x00, 1, .u 1, .ro, 2, [], .any⟩, -- (highest subindex)
    ⟨0x5834, 1, 0x01, 2, .u 4, .ro, 0, [], .any⟩, -- WAVE_CHECK
    ⟨0x5840, 1, 0x00, 1, .u 1, .ro, 7, [], .any⟩, -- MODULE_IDENTITY
    ⟨0x5840, 1, 0x01, 1, .u 1, .ro, 0, [], .any⟩, -- STATE
    ⟨0x5840, 1, 0x02, 1, .str 16, .ro, 0, [], .any⟩, -- SERIAL
    ⟨0x5840, 1, 0x03, 1, .u 1, .ro, 0, [], .any⟩, -- MAX_LANE_RATE
    ⟨0x5840, 1, 0x04, 1, .u 4, .ro, 0, [], .any⟩, -- MAX_SHOT_RATE
    ⟨0x5840, 1, 0x05, 1, .u 4, .ro, 0, [], .any⟩, -- DEAD_BEAMS
    ⟨0x5840, 1, 0x06, 1, .u 2, .ro, 0, [], .any⟩, -- SETUP_NS
    ⟨0x5840, 1, 0x07, 1, .u 2, .ro, 0, [], .any⟩, -- SKEW_SPREAD
    ⟨0x5841, 1, 0x00, 1, .u 1, .cmd, 0, [], .any⟩ ] -- MODULE_COMMAND
/-- Objects 0x5800 to 0x5FFF, part 2. -/
def objectsLink2 : List ObjRow :=
  [ ⟨0x5842, 1, 0x00, 1, .octets 32768, .ro, 0, [], .any⟩, -- DEAD_BEAM_MAP
    ⟨0x5843, 1, 0x00, 1, .octets 272, .ro, 0, [], .any⟩, -- LANE_SKEW
    ⟨0x5844, 1, 0x00, 1, .u 1, .ro, 3, [], .any⟩, -- I2C_CONFIG
    ⟨0x5844, 1, 0x01, 1, .u 1, .rwS, 1, [], .span 0 1⟩, -- SPEED
    ⟨0x5844, 1, 0x02, 1, .u 1, .rwS, 80, [], .span 0 127⟩, -- ID_ADDRESS
    ⟨0x5844, 1, 0x03, 1, .u 1, .rwS, 81, [], .span 0 127⟩, -- CTRL_ADDRESS
    ⟨0x5850, 1, 0x00, 1, .u 1, .ro, 4, [], .any⟩, -- (highest subindex)
    ⟨0x5850, 1, 0x01, 4, .u 1, .rwS, 0, [1, 0, 0, 0], .any⟩, -- ILK_ROLE
    ⟨0x5851, 1, 0x00, 1, .u 2, .rw, 10, [], .span 1 1000⟩, -- ILK_STABLE
    ⟨0x5852, 1, 0x00, 1, .u 1, .ro, 0, [], .any⟩, -- ILK_STATE
    ⟨0x5853, 1, 0x00, 1, .u 1, .ro, 4, [], .any⟩, -- (highest subindex)
    ⟨0x5853, 1, 0x01, 4, .u 4, .ro, 0, [], .any⟩, -- ILK_TRIPS
    ⟨0x5880, 1, 0x00, 1, .u 1, .ro, 8, [], .any⟩, -- EYE_SCAN
    ⟨0x5880, 1, 0x01, 1, .u 1, .rw, 0, [], .span 0 7⟩, -- LANE
    ⟨0x5880, 1, 0x02, 1, .i 2, .rw, 0, [], .sspan (-32) 31⟩, -- PHASE
    ⟨0x5880, 1, 0x03, 1, .i 2, .rw, 0, [], .sspan (-127) 127⟩, -- OFFSET
    ⟨0x5880, 1, 0x04, 1, .u 4, .rw, 0x100000, [], .span 65536 (2 ^ 32 - 1)⟩, -- BITS
    ⟨0x5880, 1, 0x05, 1, .u 1, .cmd, 0, [], .any⟩, -- COMMAND
    ⟨0x5880, 1, 0x06, 1, .u 4, .ro, 0, [], .any⟩, -- ERRORS
    ⟨0x5880, 1, 0x07, 1, .u 4, .ro, 0, [], .any⟩, -- BITS_DONE
    ⟨0x5880, 1, 0x08, 1, .u 1, .ro, 0, [], .any⟩, -- SCAN_STATE
    ⟨0x5900, 144, 0x00, 1, .u 1, .ro, 6, [], .any⟩, -- PATTERN_l
    ⟨0x5900, 144, 0x01, 1, .u 1, .rw, 0, [], .span 0 3⟩, -- MODE
    ⟨0x5900, 144, 0x02, 1, .bool, .rw, 0, [], .any⟩ ] -- LOOPBACK
/-- Objects 0x5800 to 0x5FFF, part 3. -/
def objectsLink3 : List ObjRow :=
  [ ⟨0x5900, 144, 0x03, 1, .u 1, .cmd, 0, [], .any⟩, -- INJECT
    ⟨0x5900, 144, 0x04, 1, .u 1, .rw, 0, [], .zeroOr 10 40⟩, -- INJECT_RATE
    ⟨0x5900, 144, 0x05, 1, .u 8, .ro, 0, [], .any⟩, -- BITS
    ⟨0x5900, 144, 0x06, 1, .u 8, .ro, 0, [], .any⟩ ] -- ERRORS
/-- The object table of the range 0x5800 to 0x5FFF. -/
def objectsLink : List ObjRow := objectsLink0 ++ objectsLink1 ++ objectsLink2 ++ objectsLink3

/-- Objects 0x6000 to 0x67FF, part 0. -/
def objectsStage0 : List ObjRow :=
  [ ⟨0x6000, 1, 0x00, 1, .u 1, .ro, 3, [], .any⟩, -- STAGE_CONSTANTS
    ⟨0x6000, 1, 0x01, 1, .u 2, .ro, 16384, [], .any⟩, -- COUNTS_PER_PERIOD
    ⟨0x6000, 1, 0x02, 1, .u 4, .ro, 0x1312D00, [], .any⟩, -- SC_SAMPLE_RATE
    ⟨0x6000, 1, 0x03, 1, .u 2, .ro, 125, [], .any⟩, -- STROBE_STEP
    ⟨0x6001, 1, 0x00, 1, .u 1, .ro, 9, [], .any⟩, -- SCAN_CONFIG
    ⟨0x6001, 1, 0x01, 1, .u 8, .rwS, 0x500000, [], .span 0x10000 0xFFFFFFFF⟩, -- PIXEL_PITCH
    ⟨0x6001, 1, 0x02, 1, .u 1, .rwS, 0, [], .span 0 1⟩, -- SCAN_SENSE
    ⟨0x6001, 1, 0x03, 1, .u 1, .rwS, 4, [], .span 0 15⟩, -- DIR_BAND
    ⟨0x6001, 1, 0x04, 1, .u 2, .rwL, 3277, [], .span 1 0x8000⟩, -- STROBE_TOLERANCE
    ⟨0x6001, 1, 0x05, 1, .u 1, .rwS, 2, [], .span 1 64⟩, -- SPEED_WINDOW
    ⟨0x6001, 1, 0x06, 1, .u 1, .rw, 98, [], .span 50 100⟩, -- PACE_ON
    ⟨0x6001, 1, 0x07, 1, .u 1, .rw, 96, [], .span 40 100⟩, -- PACE_OFF
    ⟨0x6001, 1, 0x08, 1, .u 1, .rw, 0, [], .span 0 2⟩, -- INDEX_ACTION
    ⟨0x6001, 1, 0x09, 1, .u 2, .rw, 10, [], .span 1 1000⟩, -- STANDSTILL_TIME
    ⟨0x6002, 1, 0x00, 1, .u 1, .ro, 8, [], .any⟩, -- SHOT_STATUS
    ⟨0x6002, 1, 0x01, 1, .u 1, .ro, 0, [], .any⟩, -- SOURCE
    ⟨0x6002, 1, 0x02, 1, .u 1, .ro, 0, [], .any⟩, -- TRIGGER_STATE
    ⟨0x6002, 1, 0x03, 1, .i 8, .ro, 0, [], .any⟩, -- PROGRESS
    ⟨0x6002, 1, 0x04, 1, .u 4, .ro, 0, [], .any⟩, -- NEXT_SHOT
    ⟨0x6002, 1, 0x05, 1, .i 4, .ro, 0, [], .any⟩, -- LAST_ERROR
    ⟨0x6002, 1, 0x06, 1, .u 4, .ro, 0, [], .any⟩, -- MAX_ERROR
    ⟨0x6002, 1, 0x07, 1, .bool, .ro, 0, [], .any⟩, -- OVERSPEED
    ⟨0x6002, 1, 0x08, 1, .bool, .ro, 0, [], .any⟩, -- PACE_SLOW
    ⟨0x6003, 1, 0x00, 1, .u 1, .ro, 5, [], .any⟩ ] -- SHOT_COUNTERS
/-- Objects 0x6000 to 0x67FF, part 1. -/
def objectsStage1 : List ObjRow :=
  [ ⟨0x6003, 1, 0x01, 1, .u 8, .ro, 0, [], .any⟩, -- OVERSPEED_SHOTS
    ⟨0x6003, 1, 0x02, 1, .u 4, .ro, 0, [], .any⟩, -- OVERSPEED_RUNS
    ⟨0x6003, 1, 0x03, 1, .u 4, .ro, 0, [], .any⟩, -- STROBES_OFF
    ⟨0x6003, 1, 0x04, 1, .u 4, .ro, 0, [], .any⟩, -- REVERSALS
    ⟨0x6003, 1, 0x05, 1, .u 4, .ro, 0, [], .any⟩, -- ORIGINS_PASSED
    ⟨0x6010, 10, 0x00, 1, .u 1, .ro, 13, [], .any⟩, -- CHANNEL_ch
    ⟨0x6010, 10, 0x01, 1, .u 1, .rwS, 0, [1, 0, 0, 0, 0, 0, 0, 0, 0, 0], .span 0 2⟩, -- MODE
    ⟨0x6010, 10, 0x02, 1, .bool, .rwS, 0, [], .any⟩, -- INVERT
    ⟨0x6010, 10, 0x03, 1, .u 1, .rwS, 0, [], .span 0 15⟩, -- FILTER
    ⟨0x6010, 10, 0x04, 1, .i 8, .ro, 0, [], .any⟩, -- POSITION
    ⟨0x6010, 10, 0x05, 1, .i 4, .ro, 0, [], .any⟩, -- SPEED
    ⟨0x6010, 10, 0x06, 1, .u 1, .ro, 0, [], .any⟩, -- DIRECTION
    ⟨0x6010, 10, 0x07, 1, .u 2, .ro, 0, [], .any⟩, -- STATUS
    ⟨0x6010, 10, 0x08, 1, .u 1, .cmd, 0, [], .any⟩, -- REF_COMMAND
    ⟨0x6010, 10, 0x09, 1, .i 8, .rw, 0, [], .any⟩, -- REF_VALUE
    ⟨0x6010, 10, 0x0A, 1, .u 8, .rw, 0, [], .any⟩, -- REF_SPACING
    ⟨0x6010, 10, 0x0B, 1, .u 2, .rw, 64, [], .any⟩, -- INDEX_TOLERANCE
    ⟨0x6010, 10, 0x0C, 1, .i 8, .ro, 0, [], .any⟩, -- LAST_INDEX
    ⟨0x6010, 10, 0x0D, 1, .u 4, .ro, 0, [], .any⟩, -- ERRORS
    ⟨0x6030, 1, 0x00, 1, .u 1, .ro, 7, [], .any⟩, -- CROSS_CHECK
    ⟨0x6030, 1, 0x01, 1, .u 1, .rwS, 255, [], .spanOr 0 7 0xFF⟩, -- CHANNEL
    ⟨0x6030, 1, 0x02, 1, .u 8, .rwS, 65536, [], .span 0 (2 ^ 48 - 1)⟩, -- RATIO
    ⟨0x6030, 1, 0x03, 1, .u 4, .rwS, 64, [], .any⟩, -- LIMIT
    ⟨0x6030, 1, 0x04, 1, .u 1, .rwS, 4, [], .span 1 255⟩ ] -- SAMPLES
/-- Objects 0x6000 to 0x67FF, part 2. -/
def objectsStage2 : List ObjRow :=
  [ ⟨0x6030, 1, 0x05, 1, .u 1, .ro, 0, [], .any⟩, -- STATE
    ⟨0x6030, 1, 0x06, 1, .i 4, .ro, 0, [], .any⟩, -- DIFFERENCE
    ⟨0x6030, 1, 0x07, 1, .u 1, .cmd, 0, [], .any⟩, -- COMMAND
    ⟨0x6040, 4, 0x00, 1, .u 1, .ro, 8, [], .any⟩, -- PROBE_n
    ⟨0x6040, 4, 0x01, 1, .u 1, .rw, 0, [], .span 0 9⟩, -- SOURCE
    ⟨0x6040, 4, 0x02, 1, .u 1, .rw, 0, [], .span 0 3⟩, -- EDGE
    ⟨0x6040, 4, 0x03, 1, .u 1, .rw, 0, [], .span 0 15⟩, -- FILTER
    ⟨0x6040, 4, 0x04, 1, .u 1, .ro, 0, [], .any⟩, -- PENDING
    ⟨0x6040, 4, 0x05, 1, .i 8, .ro, 0, [], .any⟩, -- LATCH
    ⟨0x6040, 4, 0x06, 1, .u 4, .ro, 0, [], .any⟩, -- LATCH_SEQ
    ⟨0x6040, 4, 0x07, 1, .u 1, .cmd, 0, [], .any⟩, -- NEXT
    ⟨0x6040, 4, 0x08, 1, .u 4, .ro, 0, [], .any⟩, -- OVERFLOWS
    ⟨0x6050, 4, 0x00, 1, .u 1, .ro, 10, [], .any⟩, -- COMPARE_n
    ⟨0x6050, 4, 0x01, 1, .u 1, .rw, 0, [], .span 0 9⟩, -- SOURCE
    ⟨0x6050, 4, 0x02, 1, .i 8, .rw, 0, [], .any⟩, -- TARGET
    ⟨0x6050, 4, 0x03, 1, .i 8, .rw, 0, [], .any⟩, -- INCREMENT
    ⟨0x6050, 4, 0x04, 1, .u 1, .rw, 0, [], .span 0 2⟩, -- QUALIFIER
    ⟨0x6050, 4, 0x05, 1, .u 1, .rw, 0, [], .span 0 4⟩, -- ACTION
    ⟨0x6050, 4, 0x06, 1, .u 2, .rw, 100, [], .mult 4 65532 4⟩, -- PULSE_WIDTH
    ⟨0x6050, 4, 0x07, 1, .bool, .rw, 0, [], .any⟩, -- IMMEDIATE
    ⟨0x6050, 4, 0x08, 1, .u 1, .ro, 0, [], .any⟩, -- STATE
    ⟨0x6050, 4, 0x09, 1, .u 4, .ro, 0, [], .any⟩, -- HITS
    ⟨0x6050, 4, 0x0A, 1, .u 4, .ro, 0, [], .any⟩, -- MISSED
    ⟨0x6060, 16, 0x00, 1, .u 1, .ro, 8, [], .any⟩ ] -- TIMER_t
/-- Objects 0x6000 to 0x67FF, part 3. -/
def objectsStage3 : List ObjRow :=
  [ ⟨0x6060, 16, 0x01, 1, .u 4, .rw, 0x3D090, [], .span 1 (2 ^ 32 - 1)⟩, -- RELOAD
    ⟨0x6060, 16, 0x02, 1, .bool, .rw, 0, [], .any⟩, -- PERIODIC
    ⟨0x6060, 16, 0x03, 1, .u 1, .rw, 0, [], .span 0 2⟩, -- ACTION
    ⟨0x6060, 16, 0x04, 1, .u 2, .rw, 0, [], .any⟩, -- ARG
    ⟨0x6060, 16, 0x05, 1, .bool, .rw, 0, [], .any⟩, -- ENABLE
    ⟨0x6060, 16, 0x06, 1, .u 4, .ro, 0, [], .any⟩, -- COUNT
    ⟨0x6060, 16, 0x07, 1, .u 4, .ro, 0, [], .any⟩, -- EXPIRIES
    ⟨0x6060, 16, 0x08, 1, .u 1, .ro, 0, [], .any⟩ ] -- STATE
/-- The object table of the range 0x6000 to 0x67FF. -/
def objectsStage : List ObjRow := objectsStage0 ++ objectsStage1 ++ objectsStage2 ++ objectsStage3

/-- Objects 0x6800 to 0x6FFF, part 0. -/
def objectsServo0 : List ObjRow :=
  [ ⟨0x6800, 1, 0x00, 1, .u 1, .ro, 4, [], .any⟩, -- SERVO_CONSTANTS
    ⟨0x6800, 1, 0x01, 1, .u 1, .ro, 2, [], .any⟩, -- AXES
    ⟨0x6800, 1, 0x02, 1, .u 2, .ro, 8192, [], .any⟩, -- RC_MAX_PERIOD
    ⟨0x6800, 1, 0x03, 1, .u 2, .ro, 320, [], .any⟩, -- FRAME_DELAY
    ⟨0x6800, 1, 0x04, 1, .u 4, .ro, 0x4A817C80, [], .any⟩, -- DEFL_RATE
    ⟨0x6801, 1, 0x00, 1, .u 1, .ro, 4, [], .any⟩, -- SERVO_CONFIG
    ⟨0x6801, 1, 0x01, 1, .u 1, .rwL, 1, [], .among [1, 2, 4]⟩, -- UPDATE_DIVISOR
    ⟨0x6801, 1, 0x02, 1, .u 4, .rwL, 256, [], .any⟩, -- VBAND_HYST
    ⟨0x6801, 1, 0x03, 1, .u 2, .rw, 16, [], .span 1 4096⟩, -- RECOVER
    ⟨0x6801, 1, 0x04, 1, .u 4, .rw, 2000, [], .span 0 10000000⟩, -- OOR_PAUSE
    ⟨0x6802, 1, 0x00, 1, .octets 28, .rwL, 0, [], .any⟩, -- VBAND
    ⟨0x6810, 2, 0x00, 1, .u 1, .ro, 9, [], .any⟩, -- AXIS_a
    ⟨0x6810, 2, 0x01, 1, .bool, .rwL, 0, [], .any⟩, -- ENABLE
    ⟨0x6810, 2, 0x02, 1, .u 1, .rwS, 0, [0, 1], .span 0 9⟩, -- SOURCE
    ⟨0x6810, 2, 0x03, 1, .i 4, .rwL, 0, [], .sspan (-8388608) 8388607⟩, -- SETPOINT
    ⟨0x6810, 2, 0x04, 1, .u 4, .rwL, 256, [], .span 1 8388607⟩, -- SLEW
    ⟨0x6810, 2, 0x05, 1, .i 2, .rwL, 8192, [], .any⟩, -- MODEL_GAIN
    ⟨0x6810, 2, 0x06, 1, .i 1, .rwL, 0, [], .sspan (-16) 15⟩, -- MODEL_EXP
    ⟨0x6810, 2, 0x07, 1, .i 4, .rwS, 0xFF800000, [], .sspan (-8388608) 8388607⟩, -- LIMIT_LO
    ⟨0x6810, 2, 0x08, 1, .i 4, .rwS, 0x7FFFFF, [], .sspan (-8388608) 8388607⟩, -- LIMIT_HI
    ⟨0x6810, 2, 0x09, 1, .u 4, .rwS, 65536, [], .any⟩, -- GUARD
    ⟨0x6820, 2, 0x00, 1, .u 1, .ro, 8, [], .any⟩, -- (highest subindex)
    ⟨0x6820, 2, 0x01, 8, .octets 10, .rwL, 0, [], .any⟩, -- REGION_GAINS_a
    ⟨0x6830, 2, 0x00, 1, .u 1, .ro, 4, [], .any⟩ ] -- (highest subindex)
/-- Objects 0x6800 to 0x6FFF, part 1. -/
def objectsServo1 : List ObjRow :=
  [ ⟨0x6830, 2, 0x01, 4, .octets 12, .rwL, 0, [], .any⟩, -- BIQUAD_a
    ⟨0x6840, 2, 0x00, 1, .u 1, .ro, 7, [], .any⟩, -- RC_a
    ⟨0x6840, 2, 0x01, 1, .u 1, .rw, 0, [], .span 0 2⟩, -- RC_MODE
    ⟨0x6840, 2, 0x02, 1, .u 2, .rwL, 1024, [], .span 2 8192⟩, -- PERIOD
    ⟨0x6840, 2, 0x03, 1, .u 1, .rwL, 0, [], .span 0 64⟩, -- PHASE_LEAD
    ⟨0x6840, 2, 0x04, 1, .u 8, .rwL, 0x100070000800, [], .span 0 (2 ^ 56 - 1)⟩, -- COEFFS
    ⟨0x6840, 2, 0x05, 1, .u 1, .rwL, 8, [], .span 0 16⟩, -- EXPONENT
    ⟨0x6840, 2, 0x06, 1, .u 1, .cmd, 0, [], .any⟩, -- COMMAND
    ⟨0x6840, 2, 0x07, 1, .u 8, .ro, 0, [], .any⟩, -- LEARN_UPDATES
    ⟨0x6848, 4, 0x00, 1, .octets 32768, .rwS, 0, [], .any⟩, -- RC_MEMORY
    ⟨0x6850, 2, 0x00, 1, .u 1, .ro, 8, [], .any⟩, -- AXIS_STATUS_a
    ⟨0x6850, 2, 0x01, 1, .u 1, .ro, 0, [], .any⟩, -- STATE
    ⟨0x6850, 2, 0x02, 1, .u 1, .ro, 0, [], .any⟩, -- REGION
    ⟨0x6850, 2, 0x03, 1, .i 4, .ro, 0, [], .any⟩, -- ERROR
    ⟨0x6850, 2, 0x04, 1, .i 4, .ro, 0, [], .any⟩, -- CODE
    ⟨0x6850, 2, 0x05, 1, .u 4, .ro, 0, [], .any⟩, -- MAX_ERROR
    ⟨0x6850, 2, 0x06, 1, .u 4, .ro, 0x1084210, [], .any⟩, -- EXPONENTS
    ⟨0x6850, 2, 0x07, 1, .u 2, .ro, 0, [], .any⟩, -- RC_INDEX
    ⟨0x6850, 2, 0x08, 1, .i 4, .ro, 0, [], .any⟩, -- SETPOINT_NOW
    ⟨0x6860, 1, 0x00, 1, .u 1, .ro, 5, [], .any⟩, -- SERVO_COUNTERS
    ⟨0x6860, 1, 0x01, 1, .u 4, .ro, 0, [], .any⟩, -- OOR_UPDATES
    ⟨0x6860, 1, 0x02, 1, .u 8, .ro, 0, [], .any⟩, -- SHOTS_BLANKED
    ⟨0x6860, 1, 0x03, 1, .u 4, .ro, 0, [], .any⟩, -- SHOTS_UNCERTAIN
    ⟨0x6860, 1, 0x04, 1, .u 4, .ro, 0, [], .any⟩ ] -- REGION_SWITCHES
/-- Objects 0x6800 to 0x6FFF, part 2. -/
def objectsServo2 : List ObjRow :=
  [ ⟨0x6860, 1, 0x05, 1, .u 4, .ro, 0, [], .any⟩ ] -- SATURATIONS
/-- The object table of the range 0x6800 to 0x6FFF. -/
def objectsServo : List ObjRow := objectsServo0 ++ objectsServo1 ++ objectsServo2

/-- Objects 0x7000 to 0x77FF, part 0. -/
def objectsAxis0 : List ObjRow :=
  [ ⟨0x7000, 1, 0x00, 1, .u 1, .ro, 3, [], .any⟩, -- (highest subindex)
    ⟨0x7000, 1, 0x01, 1, .u 1, .ro, 4, [], .any⟩, -- AXES
    ⟨0x7000, 1, 0x02, 1, .u 2, .ro, 1000, [], .any⟩, -- TICK_NS
    ⟨0x7000, 1, 0x03, 1, .u 2, .ro, 1024, [], .any⟩, -- CAM_POINTS
    ⟨0x7010, 4, 0x00, 1, .u 1, .ro, 14, [], .any⟩, -- (highest subindex)
    ⟨0x7010, 4, 0x01, 1, .u 4, .rw, 0x186A0, [], .span 1 10000000⟩, -- VMAX
    ⟨0x7010, 4, 0x02, 1, .u 4, .rw, 0, [], .span 0 10000000⟩, -- VSTART
    ⟨0x7010, 4, 0x03, 1, .u 4, .rw, 0xF4240, [], .span 1000 1000000000⟩, -- ACCEL
    ⟨0x7010, 4, 0x04, 1, .u 4, .rw, 0xF4240, [], .span 1000 1000000000⟩, -- DECEL
    ⟨0x7010, 4, 0x05, 1, .u 8, .rw, 0, [], .zeroOr 1000000 (10 ^ 15)⟩, -- JERK
    ⟨0x7010, 4, 0x06, 1, .u 4, .rw, 0x989680, [], .span 1000 1000000000⟩, -- STOP_DECEL
    ⟨0x7010, 4, 0x07, 1, .u 2, .rw, 0, [], .any⟩, -- I_RUN
    ⟨0x7010, 4, 0x08, 1, .u 2, .rw, 0, [], .any⟩, -- I_HOLD
    ⟨0x7010, 4, 0x09, 1, .u 2, .rw, 200, [], .span 0 10000⟩, -- HOLD_DELAY
    ⟨0x7010, 4, 0x0A, 1, .u 1, .rwS, 255, [], .spanOr 0 7 0xFF⟩, -- SWITCH_CHANNEL
    ⟨0x7010, 4, 0x0B, 1, .u 1, .rwS, 0, [], .mask 7⟩, -- SWITCH_POLARITY
    ⟨0x7010, 4, 0x0C, 1, .u 2, .rw, 20, [], .span 0 1000⟩, -- SWITCH_FILTER
    ⟨0x7010, 4, 0x0D, 1, .u 4, .rw, 256, [], .span 0 1000000⟩, -- RELEASE
    ⟨0x7010, 4, 0x0E, 1, .bool, .rwS, 0, [], .any⟩, -- INVERT
    ⟨0x7020, 4, 0x00, 1, .u 1, .ro, 8, [], .any⟩, -- (highest subindex)
    ⟨0x7020, 4, 0x01, 1, .u 2, .rwS, 100, [], .span 10 1000⟩, -- SENSE_MOHM
    ⟨0x7020, 4, 0x02, 1, .u 2, .rw, 100, [], .span 2 2000⟩, -- HYSTERESIS
    ⟨0x7020, 4, 0x03, 1, .u 2, .rw, 250, [], .span 0 2000⟩, -- COMP_DELAY
    ⟨0x7020, 4, 0x04, 1, .u 2, .rw, 500, [], .mult 100 5000 4⟩ ] -- BLANK_TIME
/-- Objects 0x7000 to 0x77FF, part 1. -/
def objectsAxis1 : List ObjRow :=
  [ ⟨0x7020, 4, 0x05, 1, .u 1, .rw, 0, [], .span 0 2⟩, -- DECAY
    ⟨0x7020, 4, 0x06, 1, .u 2, .rw, 1000, [], .any⟩, -- FAST_TIME
    ⟨0x7020, 4, 0x07, 1, .u 2, .rw, 100, [], .span 5 1000⟩, -- MAX_ON
    ⟨0x7020, 4, 0x08, 1, .bool, .rw, 1, [], .any⟩, -- ADAPT
    ⟨0x7030, 4, 0x00, 1, .u 1, .ro, 4, [], .any⟩, -- (highest subindex)
    ⟨0x7030, 4, 0x01, 1, .u 1, .rw, 1, [], .span 0 1⟩, -- HOME_DIR
    ⟨0x7030, 4, 0x02, 1, .u 4, .rw, 10000, [], .span 1 10000000⟩, -- HOME_SPEED
    ⟨0x7030, 4, 0x03, 1, .i 4, .rw, 0, [], .any⟩, -- HOME_VALUE
    ⟨0x7030, 4, 0x04, 1, .u 1, .rw, 8, [], .any⟩, -- CHATTER_LIMIT
    ⟨0x7040, 4, 0x00, 1, .u 1, .ro, 9, [], .any⟩, -- (highest subindex)
    ⟨0x7040, 4, 0x01, 1, .u 1, .rw, 255, [], .spanOr 0 3 0xFF⟩, -- TABLE
    ⟨0x7040, 4, 0x02, 1, .u 1, .rw, 4, [], .span 0 4⟩, -- MASTER
    ⟨0x7040, 4, 0x03, 1, .i 8, .rw, 0, [], .any⟩, -- MASTER_ORIGIN
    ⟨0x7040, 4, 0x04, 1, .u 4, .rw, 1, [], .any⟩, -- INTERVAL
    ⟨0x7040, 4, 0x05, 1, .bool, .rw, 0, [], .any⟩, -- PERIODIC
    ⟨0x7040, 4, 0x06, 1, .i 4, .rw, 0, [], .any⟩, -- RISE
    ⟨0x7040, 4, 0x07, 1, .i 4, .rw, 0, [], .any⟩, -- SLAVE_OFFSET
    ⟨0x7040, 4, 0x08, 1, .u 4, .rw, 256, [], .any⟩, -- ENGAGE_WINDOW
    ⟨0x7040, 4, 0x09, 1, .u 4, .rw, 25600, [], .any⟩, -- LAG_LIMIT
    ⟨0x7050, 4, 0x00, 1, .u 1, .ro, 10, [], .any⟩, -- (highest subindex)
    ⟨0x7050, 4, 0x01, 1, .u 1, .ro, 0, [], .any⟩, -- STATE
    ⟨0x7050, 4, 0x02, 1, .i 4, .ro, 0, [], .any⟩, -- POSITION
    ⟨0x7050, 4, 0x03, 1, .i 4, .ro, 0, [], .any⟩, -- VELOCITY
    ⟨0x7050, 4, 0x04, 1, .i 2, .ro, 0, [], .any⟩ ] -- CURRENT_A
/-- Objects 0x7000 to 0x77FF, part 2. -/
def objectsAxis2 : List ObjRow :=
  [ ⟨0x7050, 4, 0x05, 1, .i 2, .ro, 0, [], .any⟩, -- CURRENT_B
    ⟨0x7050, 4, 0x06, 1, .u 1, .ro, 0, [], .any⟩, -- SWITCHES
    ⟨0x7050, 4, 0x07, 1, .bool, .ro, 0, [], .any⟩, -- REFERENCED
    ⟨0x7050, 4, 0x08, 1, .u 1, .ro, 0, [], .any⟩, -- FAULT
    ⟨0x7050, 4, 0x09, 1, .i 4, .ro, 0, [], .any⟩, -- LAG
    ⟨0x7050, 4, 0x0A, 1, .u 4, .ro, 0, [], .any⟩, -- CHATTERS
    ⟨0x7060, 4, 0x00, 1, .u 1, .ro, 2, [], .any⟩, -- (highest subindex)
    ⟨0x7060, 4, 0x01, 1, .i 4, .rw, 0, [], .any⟩, -- TARGET
    ⟨0x7060, 4, 0x02, 1, .u 1, .cmd, 0, [], .any⟩, -- COMMAND
    ⟨0x7100, 4, 0x00, 1, .octets 4096, .rw, 0, [], .any⟩ ] -- CAM_TABLE_t
/-- The object table of the range 0x7000 to 0x77FF. -/
def objectsAxis : List ObjRow := objectsAxis0 ++ objectsAxis1 ++ objectsAxis2

/-- Objects 0x7800 to 0x7FFF, part 0. -/
def objectsLedger0 : List ObjRow :=
  [ ⟨0x7800, 1, 0x00, 1, .u 1, .ro, 5, [], .any⟩, -- LEDGER_CONFIG
    ⟨0x7800, 1, 0x01, 1, .bool, .rw, 0, [], .any⟩, -- AUTO_MEND
    ⟨0x7800, 1, 0x02, 1, .u 1, .rw, 3, [], .span 1 15⟩, -- MEND_PASS_LIMIT
    ⟨0x7800, 1, 0x03, 1, .u 4, .rw, 65536, [], .span 256 33554432⟩, -- MEND_GAP
    ⟨0x7800, 1, 0x04, 1, .u 4, .rw, 16384, [], .span 2048 131072⟩, -- JOURNAL_RESERVE
    ⟨0x7800, 1, 0x05, 1, .u 2, .rw, 100, [], .span 10 10000⟩, -- ECHO_WAIT
    ⟨0x7801, 1, 0x00, 1, .u 1, .ro, 5, [], .any⟩, -- LEDGER_STATUS
    ⟨0x7801, 1, 0x01, 1, .u 4, .ro, 0, [], .any⟩, -- RECORDS
    ⟨0x7801, 1, 0x02, 1, .u 4, .ro, 0, [], .any⟩, -- PENDING
    ⟨0x7801, 1, 0x03, 1, .u 4, .ro, 0, [], .any⟩, -- HELD
    ⟨0x7801, 1, 0x04, 1, .u 4, .ro, 0, [], .any⟩, -- OVERDOSES
    ⟨0x7801, 1, 0x05, 1, .u 1, .ro, 0, [], .any⟩, -- PASSES
    ⟨0x7802, 1, 0x00, 1, .u 1, .ro, 2, [], .any⟩, -- LEDGER_WINDOW
    ⟨0x7802, 1, 0x01, 1, .u 4, .rw, 0, [], .any⟩, -- FIRST
    ⟨0x7802, 1, 0x02, 1, .octets 8192, .ro, 0, [], .any⟩, -- RECORDS
    ⟨0x7803, 1, 0x00, 1, .u 8, .cmd, 0, [], .any⟩, -- DECISION
    ⟨0x7810, 1, 0x00, 1, .u 1, .ro, 6, [], .any⟩, -- MEND
    ⟨0x7810, 1, 0x01, 1, .u 8, .rwS, 0, [], .mult 0 (2 ^ 64 - 1) 64⟩, -- AREA_BASE
    ⟨0x7810, 1, 0x02, 1, .u 8, .rwS, 0, [], .any⟩, -- AREA_LENGTH
    ⟨0x7810, 1, 0x03, 1, .u 4, .ro, 0x1E8480, [], .any⟩, -- MEND_SHOT_RATE
    ⟨0x7810, 1, 0x04, 1, .u 4, .ro, 0, [], .any⟩, -- STRIPES
    ⟨0x7810, 1, 0x05, 1, .u 1, .ro, 0, [], .any⟩, -- BUILD_STATE
    ⟨0x7810, 1, 0x06, 1, .u 4, .ro, 0, [], .any⟩, -- NEXT_NUMBER
    ⟨0x7820, 1, 0x00, 1, .u 1, .ro, 5, [], .any⟩ ] -- JOURNAL
/-- Objects 0x7800 to 0x7FFF, part 1. -/
def objectsLedger1 : List ObjRow :=
  [ ⟨0x7820, 1, 0x01, 1, .u 4, .ro, 0, [], .any⟩, -- ENTRIES
    ⟨0x7820, 1, 0x02, 1, .u 4, .ro, 0x40000, [], .any⟩, -- FREE
    ⟨0x7820, 1, 0x03, 1, .u 8, .ro, 0, [], .any⟩, -- LAST_CHECKPOINT
    ⟨0x7820, 1, 0x04, 1, .u 8, .ro, 0, [], .any⟩, -- DISPOSED_SSN
    ⟨0x7820, 1, 0x05, 1, .u 2, .ro, 0, [], .any⟩, -- SETS
    ⟨0x7821, 1, 0x00, 1, .octets 16777216, .ro, 0, [], .any⟩, -- JOURNAL_DATA
    ⟨0x7830, 1, 0x00, 1, .u 1, .ro, 6, [], .any⟩, -- RECOVERY
    ⟨0x7830, 1, 0x01, 1, .u 1, .ro, 0, [], .any⟩, -- RECOVERY_STATE
    ⟨0x7830, 1, 0x02, 1, .u 8, .ro, 0, [], .any⟩, -- RESTART_SSN
    ⟨0x7830, 1, 0x03, 1, .u 4, .ro, 0xFFFFFFFF, [], .any⟩, -- CUT_STRIPE
    ⟨0x7830, 1, 0x04, 1, .u 4, .ro, 0, [], .any⟩, -- CUT_SHOT
    ⟨0x7830, 1, 0x05, 1, .u 8, .ro, 0, [], .any⟩, -- NO_ECHO
    ⟨0x7830, 1, 0x06, 1, .u 1, .cmd, 0, [], .any⟩, -- COMMAND
    ⟨0x7840, 1, 0x00, 1, .u 1, .ro, 7, [], .any⟩, -- DEFICIT_MAP
    ⟨0x7840, 1, 0x01, 1, .u 8, .rw, 0, [], .mult 0 (2 ^ 64 - 1) 64⟩, -- ADDR
    ⟨0x7840, 1, 0x02, 1, .u 8, .rw, 0, [], .any⟩, -- LENGTH
    ⟨0x7840, 1, 0x03, 1, .u 4, .rw, 0, [], .any⟩, -- STRIPE
    ⟨0x7840, 1, 0x04, 1, .u 1, .rw, 0, [], .span 0 1⟩, -- SELECT
    ⟨0x7840, 1, 0x05, 1, .u 1, .cmd, 0, [], .any⟩, -- COMMAND
    ⟨0x7840, 1, 0x06, 1, .u 1, .ro, 0, [], .any⟩, -- STATE
    ⟨0x7840, 1, 0x07, 1, .u 8, .ro, 0, [], .any⟩ ] -- BYTES
/-- The object table of the range 0x7800 to 0x7FFF. -/
def objectsLedger : List ObjRow := objectsLedger0 ++ objectsLedger1

/-- Objects 0x8000 to 0x87FF, part 0. -/
def objectsStore0 : List ObjRow :=
  [ ⟨0x8000, 1, 0x00, 1, .u 1, .ro, 6, [], .any⟩, -- STORE_CONFIG
    ⟨0x8000, 1, 0x01, 1, .u 1, .rwS, 0, [], .span 0 4⟩, -- RANKS_PER_CHANNEL
    ⟨0x8000, 1, 0x02, 1, .u 1, .rwS, 0, [], .span 0 2⟩, -- DENSITY
    ⟨0x8000, 1, 0x03, 1, .u 2, .rw, 200, [], .zeroOr 16 65535⟩, -- IDLE_PD
    ⟨0x8000, 1, 0x04, 1, .u 1, .rwS, 4, [], .span 0 4⟩, -- POSTPONE_LIMIT
    ⟨0x8000, 1, 0x05, 1, .u 2, .rw, 0, [], .any⟩, -- RETIRE_CORRECTED
    ⟨0x8000, 1, 0x06, 1, .u 1, .rw, 24, [], .span 0 168⟩, -- PATROL_HOURS
    ⟨0x8001, 1, 0x00, 1, .u 1, .ro, 13, [], .any⟩, -- STORE_TIMING
    ⟨0x8001, 1, 0x01, 13, .u 2, .rwS, 0, [], .any⟩, -- CL, tRCD, tRP, tRAS, tRFC, tREFI, tWR, tWTR_L, tRTP, tFAW, tRRD_L, tCCD_L, tXP
    ⟨0x8002, 1, 0x00, 1, .u 1, .ro, 9, [], .any⟩, -- STORE_STATUS
    ⟨0x8002, 1, 0x01, 1, .u 1, .ro, 0, [], .any⟩, -- STATE
    ⟨0x8002, 1, 0x02, 1, .bool, .ro, 0, [], .any⟩, -- TIMING_VALID
    ⟨0x8002, 1, 0x03, 1, .u 4, .ro, 0, [], .any⟩, -- PAGES_MAPPED
    ⟨0x8002, 1, 0x04, 1, .u 4, .ro, 0, [], .any⟩, -- PAGES_FREE
    ⟨0x8002, 1, 0x05, 1, .bool, .ro, 0, [], .any⟩, -- CONTENTS_KEPT
    ⟨0x8002, 1, 0x06, 1, .u 4, .ro, 0, [], .any⟩, -- REMAP_ENTRIES
    ⟨0x8002, 1, 0x07, 1, .u 4, .ro, 0, [], .any⟩, -- MIGRATING
    ⟨0x8002, 1, 0x08, 1, .u 4, .ro, 0, [], .any⟩, -- REFETCH_PENDING
    ⟨0x8002, 1, 0x09, 1, .u 4, .ro, 0, [], .any⟩, -- FORCED_REFRESHES
    ⟨0x8003, 1, 0x00, 1, .u 4, .cmd, 0, [], .any⟩, -- STORE_COMMAND
    ⟨0x8004, 1, 0x00, 1, .u 4, .ro, 0, [], .any⟩, -- RT_BOUND
    ⟨0x8010, 12, 0x00, 1, .u 1, .ro, 4, [], .any⟩, -- (highest subindex)
    ⟨0x8010, 12, 0x01, 4, .u 1, .rwS, 0, [], .any⟩, -- RANK_ROLE
    ⟨0x8020, 12, 0x00, 1, .u 1, .ro, 4, [], .any⟩ ] -- (highest subindex)
/-- Objects 0x8000 to 0x87FF, part 1. -/
def objectsStore1 : List ObjRow :=
  [ ⟨0x8020, 12, 0x01, 4, .u 4, .ro, 0, [], .any⟩, -- CORRECTED
    ⟨0x8030, 12, 0x00, 1, .u 1, .ro, 4, [], .any⟩, -- (highest subindex)
    ⟨0x8030, 12, 0x01, 4, .u 4, .ro, 0, [], .any⟩, -- UNCORRECTABLE
    ⟨0x8040, 1, 0x00, 1, .u 1, .ro, 5, [], .any⟩, -- REFETCH
    ⟨0x8040, 1, 0x01, 1, .u 4, .ro, 0, [], .any⟩, -- COUNT
    ⟨0x8040, 1, 0x02, 1, .u 4, .ro, 0, [], .any⟩, -- PAGE
    ⟨0x8040, 1, 0x03, 1, .i 8, .ro, 0, [], .any⟩, -- PKG_OFFSET
    ⟨0x8040, 1, 0x04, 1, .i 8, .ro, 0, [], .any⟩, -- MAP_OFFSET
    ⟨0x8040, 1, 0x05, 1, .u 4, .cmd, 0, [], .any⟩, -- DONE
    ⟨0x8050, 1, 0x00, 1, .octets 64, .rwS, 0, [], .any⟩, -- RCD_WORDS
    ⟨0x8100, 48, 0x00, 1, .octets 128, .rwS, 0, [], .any⟩, -- STORE_DELAYS_c_r
    ⟨0x8200, 1, 0x00, 1, .octets 8388608, .ro, 0, [], .any⟩ ] -- STORE_TRANSLATION
/-- The object table of the range 0x8000 to 0x87FF. -/
def objectsStore : List ObjRow := objectsStore0 ++ objectsStore1

/-- Objects 0x8800 to 0x8FFF, part 0. -/
def objectsOnChip0 : List ObjRow :=
  [ ⟨0x8800, 1, 0x00, 1, .u 1, .ro, 2, [], .any⟩, -- MEMORY_CONSTANTS
    ⟨0x8800, 1, 0x01, 1, .u 4, .ro, 0xC000000, [], .any⟩, -- SRAM_BYTES
    ⟨0x8800, 1, 0x02, 1, .u 1, .ro, 15, [], .any⟩, -- ARRAYS
    ⟨0x8801, 1, 0x00, 1, .u 1, .ro, 2, [], .any⟩, -- RINSE
    ⟨0x8801, 1, 0x01, 1, .bool, .rw, 1, [], .any⟩, -- RINSE_ON
    ⟨0x8801, 1, 0x02, 1, .u 2, .rw, 256, [], .span 16 65535⟩, -- RINSE_INTERVAL
    ⟨0x8810, 15, 0x00, 1, .u 1, .ro, 5, [], .any⟩, -- ARRAY_id
    ⟨0x8810, 15, 0x01, 1, .u 4, .ro, 0, [], .any⟩, -- CORRECTED
    ⟨0x8810, 15, 0x02, 1, .u 4, .ro, 0, [], .any⟩, -- UNCORRECTABLE
    ⟨0x8810, 15, 0x03, 1, .u 2, .ro, 0, [], .any⟩, -- LAST_INSTANCE
    ⟨0x8810, 15, 0x04, 1, .u 4, .ro, 0, [], .any⟩, -- LAST_ADDRESS
    ⟨0x8810, 15, 0x05, 1, .u 4, .ro, 0, [], .any⟩, -- PASS_TIME
    ⟨0x8830, 1, 0x00, 1, .u 1, .cmd, 0, [], .any⟩, -- CHECKER_TEST
    ⟨0x8831, 1, 0x00, 1, .u 1, .ro, 3, [], .any⟩, -- CHECKER_RESULT
    ⟨0x8831, 1, 0x01, 1, .u 1, .ro, 0, [], .any⟩, -- RESULT
    ⟨0x8831, 1, 0x02, 1, .u 1, .ro, 255, [], .any⟩, -- ARRAY
    ⟨0x8831, 1, 0x03, 1, .u 2, .ro, 0, [], .any⟩ ] -- INSTANCE
/-- The object table of the range 0x8800 to 0x8FFF. -/
def objectsOnChip : List ObjRow := objectsOnChip0

/-- Objects 0x9000 to 0x97FF, part 0. -/
def objectsTime0 : List ObjRow :=
  [ ⟨0x9000, 1, 0x00, 1, .u 1, .ro, 3, [], .any⟩, -- (highest subindex)
    ⟨0x9000, 1, 0x01, 1, .u 4, .ro, 0x3B9ACA00, [], .any⟩, -- RAW_HZ
    ⟨0x9000, 1, 0x02, 1, .u 1, .ro, 64, [], .any⟩, -- LAUNCH_ENTRIES
    ⟨0x9000, 1, 0x03, 1, .u 2, .ro, 256, [], .any⟩, -- CAPTURE_DEPTH
    ⟨0x9001, 1, 0x00, 1, .u 1, .ro, 4, [], .any⟩, -- (highest subindex)
    ⟨0x9001, 1, 0x01, 1, .i 8, .ro, 0, [], .any⟩, -- RATE
    ⟨0x9001, 1, 0x02, 1, .i 8, .ro, 0, [], .any⟩, -- OFFSET_NS
    ⟨0x9001, 1, 0x03, 1, .u 2, .ro, 0, [], .any⟩, -- OFFSET_FRAC
    ⟨0x9001, 1, 0x04, 1, .bool, .ro, 0, [], .any⟩, -- STEPPED
    ⟨0x9002, 1, 0x00, 1, .octets 24, .ro, 0, [], .any⟩, -- TIME_NOW
    ⟨0x9003, 1, 0x00, 1, .u 1, .cmd, 0, [], .any⟩, -- CLOCK_COMMAND
    ⟨0x9010, 1, 0x00, 1, .u 1, .ro, 11, [], .any⟩, -- (highest subindex)
    ⟨0x9010, 1, 0x01, 1, .u 1, .rwS, 0, [], .span 0 127⟩, -- DOMAIN
    ⟨0x9010, 1, 0x02, 1, .u 1, .rwS, 0, [], .span 0 2⟩, -- TRANSPORT
    ⟨0x9010, 1, 0x03, 1, .u 1, .rwS, 1, [], .span 1 2⟩, -- DELAY_MECHANISM
    ⟨0x9010, 1, 0x04, 1, .bool, .rwS, 1, [], .any⟩, -- SLAVE_ONLY
    ⟨0x9010, 1, 0x05, 1, .u 1, .rwS, 128, [], .any⟩, -- PRIORITY1
    ⟨0x9010, 1, 0x06, 1, .u 1, .rwS, 128, [], .any⟩, -- PRIORITY2
    ⟨0x9010, 1, 0x07, 1, .i 1, .rwS, 253, [], .sspan (-7) 1⟩, -- LOG_SYNC_INTERVAL
    ⟨0x9010, 1, 0x08, 1, .i 1, .rwS, 0, [], .sspan (-3) 3⟩, -- LOG_ANNOUNCE_INTERVAL
    ⟨0x9010, 1, 0x09, 1, .u 1, .rwS, 3, [], .span 2 10⟩, -- ANNOUNCE_TIMEOUT
    ⟨0x9010, 1, 0x0A, 1, .i 1, .rwS, 253, [], .sspan (-7) 5⟩, -- LOG_DELAY_INTERVAL
    ⟨0x9010, 1, 0x0B, 1, .u 1, .rwS, 0, [], .span 0 1⟩, -- PORT_PREFERENCE
    ⟨0x9011, 1, 0x00, 1, .u 1, .ro, 5, [], .any⟩ ] -- (highest subindex)
/-- Objects 0x9000 to 0x97FF, part 1. -/
def objectsTime1 : List ObjRow :=
  [ ⟨0x9011, 1, 0x01, 1, .u 2, .rw, 8192, [], .any⟩, -- KP
    ⟨0x9011, 1, 0x02, 1, .u 2, .rw, 256, [], .any⟩, -- KI
    ⟨0x9011, 1, 0x03, 1, .u 4, .rw, 100, [], .any⟩, -- LOCK_THRESHOLD
    ⟨0x9011, 1, 0x04, 1, .u 1, .rw, 16, [], .span 1 255⟩, -- LOCK_SAMPLES
    ⟨0x9011, 1, 0x05, 1, .u 4, .rw, 0x186A0, [], .span 1 500000⟩, -- SLEW_LIMIT
    ⟨0x9012, 1, 0x00, 1, .u 1, .ro, 5, [], .any⟩, -- (highest subindex)
    ⟨0x9012, 1, 0x01, 1, .u 4, .rw, 200, [], .span 10 1000000⟩, -- CHANGE_THRESHOLD
    ⟨0x9012, 1, 0x02, 1, .u 4, .rw, 30000, [], .span 1000 3600000⟩, -- HOLD_TIME
    ⟨0x9012, 1, 0x03, 1, .i 8, .rw, 0, [], .any⟩, -- ASYMMETRY
    ⟨0x9012, 1, 0x04, 1, .i 8, .ro, 0, [], .any⟩, -- MEAN_PATH_DELAY
    ⟨0x9012, 1, 0x05, 1, .i 8, .ro, 0, [], .any⟩, -- BASELINE
    ⟨0x9014, 2, 0x00, 1, .u 1, .ro, 2, [], .any⟩, -- (highest subindex)
    ⟨0x9014, 2, 0x01, 1, .i 4, .rwS, 0, [], .any⟩, -- INGRESS_LATENCY
    ⟨0x9014, 2, 0x02, 1, .i 4, .rwS, 0, [], .any⟩, -- EGRESS_LATENCY
    ⟨0x9020, 1, 0x00, 1, .u 1, .ro, 8, [], .any⟩, -- (highest subindex)
    ⟨0x9020, 1, 0x01, 1, .u 1, .ro, 1, [], .any⟩, -- PORT_STATE
    ⟨0x9020, 1, 0x02, 1, .u 1, .ro, 0, [], .any⟩, -- ACTIVE_PORT
    ⟨0x9020, 1, 0x03, 1, .octets 8, .ro, 0, [], .any⟩, -- GM_IDENTITY
    ⟨0x9020, 1, 0x04, 1, .i 8, .ro, 0, [], .any⟩, -- OFFSET_FROM_MASTER
    ⟨0x9020, 1, 0x05, 1, .i 2, .ro, 0, [], .any⟩, -- UTC_OFFSET
    ⟨0x9020, 1, 0x06, 1, .u 1, .ro, 0, [], .any⟩, -- SERVO_STATE
    ⟨0x9020, 1, 0x07, 1, .u 4, .ro, 0, [], .any⟩, -- HOLD_REMAINING
    ⟨0x9020, 1, 0x08, 1, .u 4, .ro, 0, [], .any⟩, -- PATH_CHANGES
    ⟨0x9030, 1, 0x00, 1, .u 1, .ro, 6, [], .any⟩ ] -- (highest subindex)
/-- Objects 0x9000 to 0x97FF, part 2. -/
def objectsTime2 : List ObjRow :=
  [ ⟨0x9030, 1, 0x01, 1, .u 1, .rw, 0, [], .mask 15⟩, -- PROBE_SELECT
    ⟨0x9030, 1, 0x02, 1, .u 1, .rw, 0, [], .mask 15⟩, -- ILK_SELECT
    ⟨0x9030, 1, 0x03, 1, .bool, .rw, 0, [], .any⟩, -- STRIPE_START
    ⟨0x9030, 1, 0x04, 1, .u 4, .rw, 0, [], .any⟩, -- MARKER_INTERVAL
    ⟨0x9030, 1, 0x05, 1, .u 2, .ro, 0, [], .any⟩, -- PENDING
    ⟨0x9030, 1, 0x06, 1, .u 4, .ro, 0, [], .any⟩, -- OVERFLOWS
    ⟨0x9031, 1, 0x00, 1, .octets 32, .ro, 0, [], .any⟩, -- CAPTURE_RECORD
    ⟨0x9032, 1, 0x00, 1, .u 1, .cmd, 0, [], .any⟩, -- CAPTURE_NEXT
    ⟨0x9040, 64, 0x00, 1, .u 1, .ro, 9, [], .any⟩, -- (highest subindex)
    ⟨0x9040, 64, 0x01, 1, .u 8, .rw, 0, [], .any⟩, -- TIME_NS
    ⟨0x9040, 64, 0x02, 1, .u 1, .rw, 0, [], .span 0 1⟩, -- PORT
    ⟨0x9040, 64, 0x03, 1, .u 1, .rw, 0, [], .mask 7⟩, -- FLAGS
    ⟨0x9040, 64, 0x04, 1, .u 2, .rw, 0, [], .any⟩, -- TS_OFFSET
    ⟨0x9040, 64, 0x05, 1, .u 2, .rw, 0, [], .span 60 1536⟩, -- LENGTH
    ⟨0x9040, 64, 0x06, 1, .octets 1536, .rw, 0, [], .any⟩, -- FRAME
    ⟨0x9040, 64, 0x07, 1, .u 1, .cmd, 0, [], .any⟩, -- COMMAND
    ⟨0x9040, 64, 0x08, 1, .u 1, .ro, 0, [], .any⟩, -- STATUS
    ⟨0x9040, 64, 0x09, 1, .u 8, .ro, 0, [], .any⟩ ] -- SENT_AT
/-- The object table of the range 0x9000 to 0x97FF. -/
def objectsTime : List ObjRow := objectsTime0 ++ objectsTime1 ++ objectsTime2

/-- Objects 0xA000 to 0xA7FF, part 0. -/
def objectsRecorder0 : List ObjRow :=
  [ ⟨0xA000, 1, 0x00, 1, .u 1, .ro, 5, [], .any⟩, -- (highest subindex)
    ⟨0xA000, 1, 0x01, 1, .u 1, .ro, 32, [], .any⟩, -- RECORD_BYTES
    ⟨0xA000, 1, 0x02, 1, .u 2, .ro, 8192, [], .any⟩, -- FIRST_RECORDS
    ⟨0xA000, 1, 0x03, 1, .u 2, .ro, 49152, [], .any⟩, -- RING_RECORDS
    ⟨0xA000, 1, 0x04, 1, .u 2, .ro, 8192, [], .any⟩, -- START_RECORDS
    ⟨0xA000, 1, 0x05, 1, .u 2, .ro, 1024, [], .any⟩, -- QUEUE_DEPTH
    ⟨0xA001, 1, 0x00, 1, .u 1, .ro, 10, [], .any⟩, -- (highest subindex)
    ⟨0xA001, 1, 0x01, 1, .u 4, .ro, 0, [], .any⟩, -- NEXT_SEQ
    ⟨0xA001, 1, 0x02, 1, .u 2, .ro, 0, [], .any⟩, -- FIRST_COUNT
    ⟨0xA001, 1, 0x03, 1, .u 2, .ro, 0, [], .any⟩, -- START_COUNT
    ⟨0xA001, 1, 0x04, 1, .bool, .ro, 0, [], .any⟩, -- START_FULL
    ⟨0xA001, 1, 0x05, 1, .u 4, .ro, 0, [], .any⟩, -- RING_OLDEST_SEQ
    ⟨0xA001, 1, 0x06, 1, .u 2, .ro, 0, [], .any⟩, -- RING_COUNT
    ⟨0xA001, 1, 0x07, 1, .u 4, .ro, 0, [], .any⟩, -- RING_OVERWRITTEN
    ⟨0xA001, 1, 0x08, 1, .u 4, .ro, 0, [], .any⟩, -- DROPPED
    ⟨0xA001, 1, 0x09, 1, .bool, .ro, 0, [], .any⟩, -- START_ACTIVE
    ⟨0xA001, 1, 0x0A, 1, .u 8, .ro, 0, [], .any⟩, -- CLEARED_AT
    ⟨0xA002, 1, 0x00, 1, .u 1, .cmd, 0, [], .any⟩, -- RECORDER_COMMAND
    ⟨0xA003, 1, 0x00, 1, .u 4, .rw, 0x1FFFF, [], .mask 0x1FFFF⟩, -- RECORDER_READ
    ⟨0xA010, 1, 0x00, 1, .u 1, .ro, 16, [], .any⟩, -- (highest subindex)
    ⟨0xA010, 1, 0x01, 16, .u 8, .rw, 0x400000000, [], .any⟩, -- READ_CURSOR
    ⟨0xA011, 1, 0x00, 1, .u 1, .ro, 16, [], .any⟩, -- (highest subindex)
    ⟨0xA011, 1, 0x01, 16, .octets 8192, .ro, 0, [], .any⟩ ] -- READ_WINDOW
/-- The object table of the range 0xA000 to 0xA7FF. -/
def objectsRecorder : List ObjRow := objectsRecorder0

/-- Objects 0xA800 to 0xAFFF, part 0. -/
def objectsCounter0 : List ObjRow :=
  [ ⟨0xA800, 1, 0x00, 1, .u 1, .ro, 3, [], .any⟩, -- (highest subindex)
    ⟨0xA800, 1, 0x01, 1, .u 2, .ro, 512, [], .any⟩, -- EVENT_COUNTERS
    ⟨0xA800, 1, 0x02, 1, .u 1, .ro, 64, [], .any⟩, -- THRESHOLD_COUNTERS
    ⟨0xA800, 1, 0x03, 1, .u 1, .ro, 64, [], .any⟩, -- TAG_RECORDS
    ⟨0xA801, 1, 0x00, 1, .octets 4608, .ro, 0, [], .any⟩, -- EVENT_COUNTS
    ⟨0xA802, 1, 0x00, 1, .u 4, .rw, 0x1FFFF, [], .mask 0x1FFFF⟩, -- COUNTER_READ
    ⟨0xA810, 64, 0x00, 1, .u 1, .ro, 7, [], .any⟩, -- (highest subindex)
    ⟨0xA810, 64, 0x01, 1, .u 1, .rw, 0, [], .span 0 13⟩, -- SOURCE
    ⟨0xA810, 64, 0x02, 1, .u 2, .rw, 0, [], .any⟩, -- INSTANCE
    ⟨0xA810, 64, 0x03, 1, .u 4, .rw, 0, [], .any⟩, -- N
    ⟨0xA810, 64, 0x04, 1, .bool, .rw, 0, [], .any⟩, -- ENABLE
    ⟨0xA810, 64, 0x05, 1, .u 8, .ro, 0, [], .any⟩, -- COUNT
    ⟨0xA810, 64, 0x06, 1, .u 8, .ro, 0, [], .any⟩, -- ELAPSED
    ⟨0xA810, 64, 0x07, 1, .u 4, .ro, 0, [], .any⟩, -- CLOCK_HZ
    ⟨0xA850, 1, 0x00, 1, .octets 1024, .ro, 0, [], .any⟩, -- THRESHOLD_SNAPSHOT
    ⟨0xA860, 1, 0x00, 1, .u 1, .ro, 5, [], .any⟩, -- (highest subindex)
    ⟨0xA860, 1, 0x01, 1, .u 1, .rw, 1, [], .mask 7⟩, -- KINDS
    ⟨0xA860, 1, 0x02, 1, .u 1, .rw, 12, [], .span 0 20⟩, -- K
    ⟨0xA860, 1, 0x03, 1, .u 4, .rw, 1, [], .span 1 (2 ^ 32 - 1)⟩, -- SEED
    ⟨0xA860, 1, 0x04, 1, .bool, .rw, 0, [], .any⟩, -- ON
    ⟨0xA860, 1, 0x05, 1, .u 4, .ro, 0, [], .any⟩, -- MISSED
    ⟨0xA861, 1, 0x00, 1, .octets 8192, .ro, 0, [], .any⟩, -- TAG_RECORDS
    ⟨0xA862, 1, 0x00, 1, .u 8, .wo, 0, [], .any⟩ ] -- TAG_RELEASE
/-- The object table of the range 0xA800 to 0xAFFF. -/
def objectsCounter : List ObjRow := objectsCounter0

/-- Objects 0xB000 to 0xB7FF, part 0. -/
def objectsService0 : List ObjRow :=
  [ ⟨0xB000, 1, 0x00, 1, .u 1, .ro, 2, [], .any⟩, -- (highest subindex)
    ⟨0xB000, 1, 0x01, 1, .u 1, .ro, 12, [], .any⟩, -- CAL_CHANNELS
    ⟨0xB000, 1, 0x02, 1, .u 4, .ro, 0x400000, [], .any⟩, -- FW_SLOT_BYTES
    ⟨0xB001, 1, 0x00, 1, .u 1, .ro, 4, [], .any⟩, -- (highest subindex)
    ⟨0xB001, 1, 0x01, 1, .bool, .rw, 1, [], .any⟩, -- AUTO
    ⟨0xB001, 1, 0x02, 1, .u 1, .rw, 8, [], .span 2 40⟩, -- TEMP_THRESHOLD
    ⟨0xB001, 1, 0x03, 1, .u 2, .rw, 4096, [], .span 256 65535⟩, -- SC_PERIODS
    ⟨0xB001, 1, 0x04, 1, .u 2, .rw, 600, [], .span 10 3600⟩, -- RUN_LIMIT
    ⟨0xB002, 1, 0x00, 1, .u 2, .cmd, 0, [], .any⟩, -- CAL_COMMAND
    ⟨0xB010, 12, 0x00, 1, .u 1, .ro, 7, [], .any⟩, -- (highest subindex)
    ⟨0xB010, 12, 0x01, 1, .u 1, .ro, 0, [], .any⟩, -- STATE
    ⟨0xB010, 12, 0x02, 1, .u 1, .ro, 0, [], .any⟩, -- RESULT
    ⟨0xB010, 12, 0x03, 1, .i 2, .ro, 0, [], .any⟩, -- TEMP_AT_RUN
    ⟨0xB010, 12, 0x04, 1, .u 4, .ro, 0, [], .any⟩, -- RUNS
    ⟨0xB010, 12, 0x05, 1, .u 8, .ro, 0, [], .any⟩, -- LAST_TIME
    ⟨0xB010, 12, 0x06, 1, .u 1, .ro, 0, [], .any⟩, -- SLOT
    ⟨0xB010, 12, 0x07, 1, .octets 32, .ro, 0, [], .any⟩, -- TRIMS
    ⟨0xB020, 1, 0x00, 1, .u 1, .ro, 4, [], .any⟩, -- (highest subindex)
    ⟨0xB020, 1, 0x01, 4, .octets 1048576, .wo, 0, [], .any⟩, -- FW_IMAGE_PART
    ⟨0xB021, 1, 0x00, 1, .u 1, .ro, 5, [], .any⟩, -- (highest subindex)
    ⟨0xB021, 1, 0x01, 1, .u 1, .ro, 0, [], .any⟩, -- ACTIVE_SLOT
    ⟨0xB021, 1, 0x02, 1, .u 1, .ro, 1, [], .any⟩, -- SLOT_A_STATE
    ⟨0xB021, 1, 0x03, 1, .u 1, .ro, 0, [], .any⟩, -- SLOT_B_STATE
    ⟨0xB021, 1, 0x04, 1, .u 4, .ro, 0, [], .any⟩ ] -- SLOT_A_VERSION
/-- Objects 0xB000 to 0xB7FF, part 1. -/
def objectsService1 : List ObjRow :=
  [ ⟨0xB021, 1, 0x05, 1, .u 4, .ro, 0, [], .any⟩, -- SLOT_B_VERSION
    ⟨0xB022, 1, 0x00, 1, .u 1, .cmd, 0, [], .any⟩ ] -- FW_COMMAND
/-- The object table of the range 0xB000 to 0xB7FF. -/
def objectsService : List ObjRow := objectsService0 ++ objectsService1

/-- Objects 0xB800 to 0xBFFF, part 0. -/
def objectsPower0 : List ObjRow :=
  [ ⟨0xB800, 1, 0x00, 1, .u 1, .ro, 2, [], .any⟩, -- (highest subindex)
    ⟨0xB800, 1, 0x01, 1, .u 1, .ro, 10, [], .any⟩, -- RAILS
    ⟨0xB800, 1, 0x02, 1, .u 1, .ro, 8, [], .any⟩, -- SENTINEL_HZ
    ⟨0xB801, 1, 0x00, 1, .u 1, .ro, 7, [], .any⟩, -- (highest subindex)
    ⟨0xB801, 1, 0x01, 1, .u 1, .rwS, 0, [], .span 0 1⟩, -- WAKE_POLICY
    ⟨0xB801, 1, 0x02, 1, .u 2, .rwS, 500, [], .span 100 10000⟩, -- WARN_FILTER
    ⟨0xB801, 1, 0x03, 1, .u 2, .rwS, 200, [], .span 100 10000⟩, -- RESET_FILTER
    ⟨0xB801, 1, 0x04, 1, .u 1, .rwS, 1, [], .span 0 1⟩, -- PWR_FAIL_ACTION
    ⟨0xB801, 1, 0x05, 1, .u 2, .rwS, 20, [], .span 1 10000⟩, -- PWR_FAIL_DELAY
    ⟨0xB801, 1, 0x06, 1, .u 2, .rwS, 20, [], .span 1 10000⟩, -- WAKE_STABLE
    ⟨0xB801, 1, 0x07, 1, .u 1, .rwS, 115, [], .span 100 125⟩, -- TEMP_SHUTDOWN
    ⟨0xB802, 1, 0x00, 1, .u 1, .ro, 10, [], .any⟩, -- (highest subindex)
    ⟨0xB802, 1, 0x01, 1, .u 1, .ro, 1, [], .any⟩, -- LAST_SOURCE
    ⟨0xB802, 1, 0x02, 1, .u 1, .ro, 0, [], .any⟩, -- LAST_CAUSE
    ⟨0xB802, 1, 0x03, 1, .u 8, .ro, 0, [], .any⟩, -- LAST_TIME
    ⟨0xB802, 1, 0x04, 7, .u 4, .ro, 0, [], .any⟩, -- RESET_COUNTS
    ⟨0xB803, 1, 0x00, 1, .u 4, .cmd, 0, [], .any⟩, -- RESET_COMMAND
    ⟨0xB810, 10, 0x00, 1, .u 1, .ro, 7, [], .any⟩, -- (highest subindex)
    ⟨0xB810, 10, 0x01, 1, .u 2, .ro, 0, [720, 800, 850, 1200, 850, 1200, 1100, 1800, 1800, 0], .any⟩, -- NOMINAL_MV
    ⟨0xB810, 10, 0x02, 1, .u 2, .rwS, 0, [691, 768, 816, 1152, 816, 1152, 1056, 1728, 1728, 1750], .any⟩, -- WARN_MV
    ⟨0xB810, 10, 0x03, 1, .u 2, .rwS, 0, [662, 736, 782, 1104, 782, 1104, 1012, 1656, 1656, 1650], .any⟩, -- RESET_MV
    ⟨0xB810, 10, 0x04, 1, .u 2, .ro, 0, [], .any⟩, -- VOLTAGE_MV
    ⟨0xB810, 10, 0x05, 1, .u 2, .ro, 0, [], .any⟩, -- MIN_MV
    ⟨0xB810, 10, 0x06, 1, .u 1, .ro, 0, [], .any⟩ ] -- STATE
/-- Objects 0xB800 to 0xBFFF, part 1. -/
def objectsPower1 : List ObjRow :=
  [ ⟨0xB810, 10, 0x07, 1, .u 4, .ro, 0, [], .any⟩, -- WARNS
    ⟨0xB820, 1, 0x00, 1, .u 1, .ro, 3, [], .any⟩, -- (highest subindex)
    ⟨0xB820, 1, 0x01, 1, .i 2, .ro, 0, [], .any⟩, -- DIE_TEMP
    ⟨0xB820, 1, 0x02, 1, .i 2, .ro, 0, [], .any⟩, -- DIE_TEMP_MAX
    ⟨0xB820, 1, 0x03, 1, .i 2, .ro, 0, [], .any⟩, -- KEEPER_TEMP
    ⟨0xB830, 1, 0x00, 1, .u 1, .ro, 4, [], .any⟩, -- (highest subindex)
    ⟨0xB830, 1, 0x01, 1, .u 8, .ro, 0, [], .any⟩, -- TICKS
    ⟨0xB830, 1, 0x02, 1, .i 8, .ro, 0, [], .any⟩, -- BASE
    ⟨0xB830, 1, 0x03, 1, .u 8, .ro, 0, [], .any⟩, -- BACKUP_NS
    ⟨0xB830, 1, 0x04, 1, .u 1, .ro, 1, [], .any⟩, -- CRYSTAL
    ⟨0xB831, 1, 0x00, 1, .bool, .ro, 0, [], .any⟩ ] -- PWR_FAIL_LEVEL
/-- The object table of the range 0xB800 to 0xBFFF. -/
def objectsPower : List ObjRow := objectsPower0 ++ objectsPower1

/-- Objects 0xF000 to 0xF7FF, part 0. -/
def objectsDiag0 : List ObjRow :=
  [ ⟨0xF000, 1, 0x00, 1, .u 1, .cmd, 0, [], .any⟩, -- DIAG_COMMAND
    ⟨0xF001, 1, 0x00, 1, .u 1, .ro, 7, [], .any⟩, -- DIAG_STATUS
    ⟨0xF001, 1, 0x01, 1, .u 1, .ro, 0, [], .any⟩, -- STATE
    ⟨0xF001, 1, 0x02, 1, .u 1, .ro, 1, [], .any⟩, -- LAST
    ⟨0xF001, 1, 0x03, 1, .u 1, .ro, 0, [], .any⟩, -- RESULT
    ⟨0xF001, 1, 0x04, 1, .u 1, .ro, 0, [], .any⟩, -- FAILED_STEP
    ⟨0xF001, 1, 0x05, 1, .octets 9, .ro, 0, [], .any⟩, -- ENGINES_FAILED
    ⟨0xF001, 1, 0x06, 1, .octets 18, .ro, 0, [], .any⟩, -- LANES_FAILED
    ⟨0xF001, 1, 0x07, 1, .u 4, .ro, 0, [], .any⟩, -- DURATION
    ⟨0xF003, 1, 0x00, 1, .u 8, .rw, 0x100000, [], .span 65536 (2 ^ 40)⟩, -- LANE_BITS
    ⟨0xF004, 1, 0x00, 1, .u 1, .ro, 5, [], .any⟩, -- STORE_TEST
    ⟨0xF004, 1, 0x01, 1, .u 8, .rw, 0, [], .mult 0 (2 ^ 64 - 1) 64⟩, -- ADDR
    ⟨0xF004, 1, 0x02, 1, .u 8, .rw, 0, [], .mult 0 (2 ^ 64 - 1) 64⟩, -- LENGTH
    ⟨0xF004, 1, 0x03, 1, .u 8, .ro, 0, [], .any⟩, -- ERRORS
    ⟨0xF004, 1, 0x04, 1, .u 8, .ro, 0, [], .any⟩, -- FIRST_ERROR
    ⟨0xF004, 1, 0x05, 1, .u 8, .ro, 0, [], .any⟩, -- DONE_BYTES
    ⟨0xF005, 1, 0x00, 1, .u 1, .ro, 2, [], .any⟩, -- KEEPER_SCAN
    ⟨0xF005, 1, 0x01, 1, .u 2, .ro, 0, [], .any⟩, -- AREAS_FAILED
    ⟨0xF005, 1, 0x02, 1, .u 4, .ro, 0, [], .any⟩ ] -- RECORDS_FAILED
/-- The object table of the range 0xF000 to 0xF7FF. -/
def objectsDiag : List ObjRow := objectsDiag0

/-- The object rows of the range that owns an index (the ranges of 00_scope, *Objects, types and access*). -/
def objectsAt (index : Nat) : List ObjRow :=
  match index / 0x800 with
  | 2 => objectsCommunication
  | 4 => objectsMode
  | 6 => objectsGeometry
  | 7 => objectsFeed
  | 8 => objectsExpansion
  | 9 => objectsPress
  | 10 => objectsConveyor
  | 11 => objectsLink
  | 12 => objectsStage
  | 13 => objectsServo
  | 14 => objectsAxis
  | 15 => objectsLedger
  | 16 => objectsStore
  | 17 => objectsOnChip
  | 18 => objectsTime
  | 20 => objectsRecorder
  | 21 => objectsCounter
  | 22 => objectsService
  | 23 => objectsPower
  | 30 => objectsDiag
  | _ => []

/-- The key of an object or subindex. -/
def key (index sub : Nat) : Nat := 256 * index + sub

/-- Whether a row covers an index. -/
def ObjRow.hasIndex (r : ObjRow) (index : Nat) : Bool := decide (r.base ≤ index ∧ index < r.base + r.count)

/-- Whether a row covers an index and subindex. -/
def ObjRow.covers (r : ObjRow) (index sub : Nat) : Bool :=
  r.hasIndex index && decide (r.sub ≤ sub ∧ sub < r.sub + r.subs)

/-- The row of an object or subindex. -/
def findRow (index sub : Nat) : Option ObjRow := (objectsAt index).find? fun r => r.covers index sub

/-- Whether the device implements an index (R15). -/
def hasObject (index : Nat) : Bool := (objectsAt index).any fun r => r.hasIndex index

/-- The default of an object or subindex. -/
def ObjRow.dfltAt (r : ObjRow) (index sub : Nat) : Nat :=
  r.dflts.getD (if r.subs = 1 then index - r.base else sub - r.sub) r.dflt

/-- The default of the object with key `k`; 0 where no row covers it. -/
def dfltOf (k : Nat) : Nat :=
  match findRow (k / 256) (k % 256) with
  | some r => r.dfltAt (k / 256) (k % 256)
  | none => 0

end Sys2Proof.Machine
end

