-- ==== Sys2Proof/Machine/Obj.lean ====
section
/-!
DEFINITION. Sys2Proof/Machine/Obj.lean: the names of the dictionary's objects, as keys 256 · index + subindex.
A name that the tables use in several objects carries the record's name before it.
-/
namespace Sys2Proof.Machine

abbrev Obj.DEVICE_NAME : Nat := 0x100000
abbrev Obj.ORDER_CODE : Nat := 0x100100
abbrev Obj.STEPPING : Nat := 0x100200
abbrev Obj.DEVICE_UID : Nat := 0x100300
abbrev Obj.NET_MODE (i : Nat) : Nat := 0x101001 + 256 * i
abbrev Obj.NET_MAC (i : Nat) : Nat := 0x101002 + 256 * i
abbrev Obj.NET_IPV4_ADDR (i : Nat) : Nat := 0x101003 + 256 * i
abbrev Obj.NET_IPV4_MASK (i : Nat) : Nat := 0x101004 + 256 * i
abbrev Obj.NET_IPV4_GATEWAY (i : Nat) : Nat := 0x101005 + 256 * i
abbrev Obj.NET_IPV6_ADDR (i : Nat) : Nat := 0x101006 + 256 * i
abbrev Obj.NET_VLAN (i : Nat) : Nat := 0x101007 + 256 * i
abbrev Obj.NET_LINK_STATE (i : Nat) : Nat := 0x101008 + 256 * i
abbrev Obj.SESSION_OPEN : Nat := 0x110000
abbrev Obj.SESSION_CLOSE : Nat := 0x110100
abbrev Obj.SESSION_IDLE_TIMEOUT : Nat := 0x110200
abbrev Obj.SESSIONS_OPEN : Nat := 0x110300
abbrev Obj.RX_MESSAGES : Nat := 0x111001
abbrev Obj.CRC_DROPS : Nat := 0x111002
abbrev Obj.FORMAT_DROPS : Nat := 0x111003
abbrev Obj.REPEATS : Nat := 0x111004
abbrev Obj.REFUSALS : Nat := 0x111005
abbrev Obj.MODE : Nat := 0x200000
abbrev Obj.MODE_COMMAND : Nat := 0x200100
abbrev Obj.HOLD_ORIGIN : Nat := 0x200200
abbrev Obj.PAUSE_PENDING : Nat := 0x200300
abbrev Obj.JOB_PACKAGE_OFFSET : Nat := 0x201000
abbrev Obj.JOB_PACKAGE_LENGTH : Nat := 0x201100
abbrev Obj.JOB_SHOT_RATE : Nat := 0x201200
abbrev Obj.JOB_ACCEPT : Nat := 0x201400
abbrev Obj.ACCEPT_RESULT : Nat := 0x201501
abbrev Obj.ACCEPT_MAX_SHOT_RATE : Nat := 0x201502
abbrev Obj.FAIL_STRIPE : Nat := 0x201503
abbrev Obj.FAIL_TILE_ROW : Nat := 0x201504
abbrev Obj.JOB_CLOSE : Nat := 0x201600
abbrev Obj.JOB_STATE : Nat := 0x202001
abbrev Obj.JOB_ID : Nat := 0x202002
abbrev Obj.JOB_STRIPES : Nat := 0x202003
abbrev Obj.STRIPES_DONE : Nat := 0x202004
abbrev Obj.FIRST_UNOPENED : Nat := 0x202005
abbrev Obj.PROBE_OWNER (j : Nat) : Nat := 0x210001 + j
abbrev Obj.COMPARE_OWNER (j : Nat) : Nat := 0x210101 + j
abbrev Obj.ENC_OWNER (j : Nat) : Nat := 0x210201 + j
abbrev Obj.TIMER_OWNER (j : Nat) : Nat := 0x210301 + j
abbrev Obj.CONTEXT_OWNER (j : Nat) : Nat := 0x210401 + j
abbrev Obj.THRESHOLD_OWNER (j : Nat) : Nat := 0x210501 + j
abbrev Obj.CAM_OWNER (j : Nat) : Nat := 0x210601 + j
abbrev Obj.BEAM_ROWS : Nat := 0x300001
abbrev Obj.BEAM_COLUMNS : Nat := 0x300002
abbrev Obj.BEAM_PITCH_PX : Nat := 0x300003
abbrev Obj.VISITS_PER_PIXEL : Nat := 0x300004
abbrev Obj.STRIPE_WIDTH_PX : Nat := 0x300005
abbrev Obj.MAX_STRIPE_ROWS : Nat := 0x300006
abbrev Obj.RUN_SHOTS : Nat := 0x300007
abbrev Obj.NOMINAL_DOSE : Nat := 0x300101
abbrev Obj.MAX_TARGET : Nat := 0x300102
abbrev Obj.CODE_MAX : Nat := 0x300103
abbrev Obj.STEP_AT_UNIT_GAIN : Nat := 0x300104
abbrev Obj.DOSE_TOLERANCE : Nat := 0x300200
abbrev Obj.TOLERANCE_IN_EFFECT : Nat := 0x300300
abbrev Obj.BEAM_GAIN_TABLE : Nat := 0x301000
abbrev Obj.BEAM_GAIN_CHECK : Nat := 0x301100
abbrev Obj.LIVE_BEAMS : Nat := 0x301200
abbrev Obj.GAIN_MAX_LIVE : Nat := 0x301300
abbrev Obj.STRIPE_INDEX : Nat := 0x302001
abbrev Obj.STRIPE_DIRECTION : Nat := 0x302002
abbrev Obj.LENGTH_ROWS : Nat := 0x302003
abbrev Obj.SSN_BASE : Nat := 0x302004
abbrev Obj.SHOT_INDEX : Nat := 0x302005
abbrev Obj.ORIGIN_COUNTS : Nat := 0x302006
abbrev Obj.STRIPE_STATE : Nat := 0x302007
abbrev Obj.KIND : Nat := 0x302008
abbrev Obj.SSN_NEXT : Nat := 0x302100
abbrev Obj.SSN_LAST_ISSUED : Nat := 0x302200
abbrev Obj.HOST_SPEED : Nat := 0x380001
abbrev Obj.HOST_WIDTH : Nat := 0x380002
abbrev Obj.FLIT : Nat := 0x380003
abbrev Obj.HOST_RESETS : Nat := 0x380004
abbrev Obj.PRI_TIMEOUT : Nat := 0x380100
abbrev Obj.ATS_ENABLED : Nat := 0x380201
abbrev Obj.PRI_ENABLED : Nat := 0x380202
abbrev Obj.INVALIDATIONS : Nat := 0x380203
abbrev Obj.FEED_BYTES : Nat := 0x380300
abbrev Obj.BAR0_DROPS : Nat := 0x380400
abbrev Obj.CH_ERRORS (j : Nat) : Nat := 0x381001 + j
abbrev Obj.CH_XLATE_FAULTS (j : Nat) : Nat := 0x381101 + j
abbrev Obj.KLF_VERSION : Nat := 0x400000
abbrev Obj.FAULT_CODE : Nat := 0x400101
abbrev Obj.FAULT_TILE_COLUMN : Nat := 0x400102
abbrev Obj.CELL : Nat := 0x400103
abbrev Obj.FAULT_OFFSET : Nat := 0x400104
abbrev Obj.JOB_ATTEMPT : Nat := 0x400105
abbrev Obj.JOB_TAG : Nat := 0x400201
abbrev Obj.STRIPE_COUNT : Nat := 0x400202
abbrev Obj.CELL_COUNT : Nat := 0x400203
abbrev Obj.JOB_DOSE_SCALE : Nat := 0x400204
abbrev Obj.HEADER_CRC : Nat := 0x400205
abbrev Obj.ADMISSION_SHARE : Nat := 0x401001
abbrev Obj.STALL_RELEASE : Nat := 0x401002
abbrev Obj.DECODERS : Nat := 0x401101
abbrev Obj.DECODER_RATE : Nat := 0x401102
abbrev Obj.RASTERIZERS : Nat := 0x401103
abbrev Obj.RASTERIZER_RATE : Nat := 0x401104
abbrev Obj.PLACERS : Nat := 0x401105
abbrev Obj.PLACER_RATE : Nat := 0x401106
abbrev Obj.COMPRESSOR_RATE : Nat := 0x401107
abbrev Obj.LEAD_ROWS : Nat := 0x401201
abbrev Obj.LEAD_MIN : Nat := 0x401202
abbrev Obj.FIRST_ROWS_READY : Nat := 0x401203
abbrev Obj.ENTRY_ROW : Nat := 0x401204
abbrev Obj.BLANKED_PARTS (j : Nat) : Nat := 0x401301 + j
abbrev Obj.LASTFAIL_STRIPE : Nat := 0x401401
abbrev Obj.LASTFAIL_TILE_ROW : Nat := 0x401402
abbrev Obj.LASTFAIL_TILE_COLUMN : Nat := 0x401403
abbrev Obj.REASON : Nat := 0x401404
abbrev Obj.CONTEXT : Nat := 0x401405
abbrev Obj.LASTFAIL_BLOCK_SEQ : Nat := 0x401406
abbrev Obj.CAPACITY : Nat := 0x402001
abbrev Obj.BYTES_USED : Nat := 0x402002
abbrev Obj.CELLS_RESIDENT : Nat := 0x402003
abbrev Obj.CELLS_FAILED : Nat := 0x402004
abbrev Obj.REFILLS : Nat := 0x402005
abbrev Obj.MEASURE_STRIPE_ADDR : Nat := 0x403001
abbrev Obj.MEASURE_COLUMNS : Nat := 0x403002
abbrev Obj.MEASURE_SEQUENCE : Nat := 0x403003
abbrev Obj.MEASURE_SHORT_PIXELS : Nat := 0x403004
abbrev Obj.MEASURE_BLANKED_PARTS : Nat := 0x403005
abbrev Obj.CTX_STATE (i : Nat) : Nat := 0x410001 + 256 * i
abbrev Obj.CTX_SOURCE (i : Nat) : Nat := 0x410002 + 256 * i
abbrev Obj.CTX_TILE_ROW (i : Nat) : Nat := 0x410003 + 256 * i
abbrev Obj.CTX_BLOCK_SEQ (i : Nat) : Nat := 0x410004 + 256 * i
abbrev Obj.POLY (i : Nat) : Nat := 0x410005 + 256 * i
abbrev Obj.CTX_WIDTH (i : Nat) : Nat := 0x410006 + 256 * i
abbrev Obj.INIT (i : Nat) : Nat := 0x410007 + 256 * i
abbrev Obj.XOROUT (i : Nat) : Nat := 0x410008 + 256 * i
abbrev Obj.CTX_FLAGS (i : Nat) : Nat := 0x410009 + 256 * i
abbrev Obj.FOLD (i : Nat) : Nat := 0x41000A + 256 * i
abbrev Obj.RUNNING (i : Nat) : Nat := 0x41000B + 256 * i
abbrev Obj.ROLE (i : Nat) : Nat := 0x41000C + 256 * i
abbrev Obj.CHECK_ADDR (i : Nat) : Nat := 0x420001 + 256 * i
abbrev Obj.CHECK_LENGTH (i : Nat) : Nat := 0x420002 + 256 * i
abbrev Obj.EXPECT (i : Nat) : Nat := 0x420003 + 256 * i
abbrev Obj.CHECK_COMMAND (i : Nat) : Nat := 0x420004 + 256 * i
abbrev Obj.CHECK_RESULT (i : Nat) : Nat := 0x420005 + 256 * i
abbrev Obj.CHECK_DONE_BYTES (i : Nat) : Nat := 0x420006 + 256 * i
abbrev Obj.DENSITY_ON : Nat := 0x480001
abbrev Obj.MAP_ON : Nat := 0x480002
abbrev Obj.MAP_BASE : Nat := 0x480003
abbrev Obj.SEAM_MODE : Nat := 0x480004
abbrev Obj.SEAM_OVERLAP : Nat := 0x480005
abbrev Obj.GAP_POLICY : Nat := 0x480006
abbrev Obj.FACTOR_TABLE : Nat := 0x480100
abbrev Obj.RAMP_TABLE : Nat := 0x480200
abbrev Obj.FACTOR_CHECK : Nat := 0x480301
abbrev Obj.RAMP_CHECK : Nat := 0x480302
abbrev Obj.NEIGHBOUR_MINUS_X : Nat := 0x480303
abbrev Obj.NEIGHBOUR_PLUS_X : Nat := 0x480304
abbrev Obj.MAP_LENGTH : Nat := 0x480400
abbrev Obj.NEXT_ROW : Nat := 0x481001
abbrev Obj.QUEUE_ROWS : Nat := 0x481002
abbrev Obj.QUEUE_MIN : Nat := 0x481003
abbrev Obj.CLIPPED_PIXELS : Nat := 0x481101
abbrev Obj.CLIPPED_ROWS : Nat := 0x481102
abbrev Obj.MAX_BEFORE_CLIP : Nat := 0x481103
abbrev Obj.LATE_ROWS : Nat := 0x481104
abbrev Obj.MAP_FAILURES : Nat := 0x481105
abbrev Obj.GAP_PARTS : Nat := 0x481106
abbrev Obj.SEGMENTS : Nat := 0x500001
abbrev Obj.ROWS_PER_SEGMENT : Nat := 0x500002
abbrev Obj.CONV_ENGINES : Nat := 0x500003
abbrev Obj.RETIRE_WINDOW : Nat := 0x500004
abbrev Obj.ACK_DEADLINE : Nat := 0x500005
abbrev Obj.ENGINE_MAP (j : Nat) : Nat := 0x501001 + j
abbrev Obj.ENGINE_STATE (j : Nat) : Nat := 0x501101 + j
abbrev Obj.ENGINE_MISMATCHES (j : Nat) : Nat := 0x501201 + j
abbrev Obj.ENGINE_COMMAND : Nat := 0x501300
abbrev Obj.SPARES_FREE : Nat := 0x501400
abbrev Obj.SEGMENTS_BLANKED : Nat := 0x501500
abbrev Obj.SWITCH_SSN : Nat := 0x502001
abbrev Obj.LVT_LIVE_BEAMS : Nat := 0x502002
abbrev Obj.CAUSE : Nat := 0x502003
abbrev Obj.LVT_CHECK : Nat := 0x502004
abbrev Obj.LIVE_VISITS_TABLE : Nat := 0x502100
abbrev Obj.SEGMENT_MEMORY (j : Nat) : Nat := 0x503001 + j
abbrev Obj.CORRECTED_WORDS (j : Nat) : Nat := 0x503101 + j
abbrev Obj.UNCORRECTABLE_WORDS (j : Nat) : Nat := 0x503201 + j
abbrev Obj.REPAIR_THRESHOLD : Nat := 0x503300
abbrev Obj.SUBARRAY_COMMAND : Nat := 0x503400
abbrev Obj.CONV_STATE : Nat := 0x504001
abbrev Obj.ROWS_RESIDENT : Nat := 0x504002
abbrev Obj.COMMIT_PENDING : Nat := 0x504003
abbrev Obj.MISMATCHES : Nat := 0x504101
abbrev Obj.COMPUTE_LATE : Nat := 0x504102
abbrev Obj.NACKS : Nat := 0x504103
abbrev Obj.ACKS_MISSING : Nat := 0x504104
abbrev Obj.LOST_WORDS : Nat := 0x504105
abbrev Obj.HANDOFF_RETRIES : Nat := 0x504106
abbrev Obj.ENGINE : Nat := 0x504201
abbrev Obj.SEGMENT : Nat := 0x504202
abbrev Obj.SSN : Nat := 0x504203
abbrev Obj.BEAM : Nat := 0x504204
abbrev Obj.LANE_RATE : Nat := 0x580001
abbrev Obj.LAND_TIME : Nat := 0x580002
abbrev Obj.SHOTB_ENABLE : Nat := 0x580003
abbrev Obj.SPARE_AUTO : Nat := 0x580004
abbrev Obj.SPARE_THRESHOLD : Nat := 0x580005
abbrev Obj.STROBE_WIDTH : Nat := 0x580006
abbrev Obj.LINK_SHOT_RATE : Nat := 0x580101
abbrev Obj.LEAD : Nat := 0x580102
abbrev Obj.TX_LOCKED : Nat := 0x580201
abbrev Obj.RX_IN_SERVICE : Nat := 0x580202
abbrev Obj.LANE_MAP (j : Nat) : Nat := 0x581001 + j
abbrev Obj.LANE_STATE (j : Nat) : Nat := 0x581101 + j
abbrev Obj.LANE_COMMAND : Nat := 0x581200
abbrev Obj.LANE_NACKS (j : Nat) : Nat := 0x581301 + j
abbrev Obj.ECHO_SSN (j : Nat) : Nat := 0x581801 + j
abbrev Obj.RETURN_ERRORS (j : Nat) : Nat := 0x581901 + j
abbrev Obj.RETURN_COMMAND : Nat := 0x581A00
abbrev Obj.TUMBLE_ON : Nat := 0x582001
abbrev Obj.GROUP_LIMIT : Nat := 0x582002
abbrev Obj.TUMBLE_ACTION : Nat := 0x582003
abbrev Obj.GROUP_PEAK (j : Nat) : Nat := 0x582101 + j
abbrev Obj.GROUP_OVER (j : Nat) : Nat := 0x582201 + j
abbrev Obj.WAVE_BANK_0 : Nat := 0x583000
abbrev Obj.WAVE_BANK_1 : Nat := 0x583100
abbrev Obj.WAVE_SELECT : Nat := 0x583200
abbrev Obj.WAVE_IN_EFFECT : Nat := 0x583300
abbrev Obj.WAVE_CHECK (j : Nat) : Nat := 0x583401 + j
abbrev Obj.ID_STATE : Nat := 0x584001
abbrev Obj.SERIAL : Nat := 0x584002
abbrev Obj.MAX_LANE_RATE : Nat := 0x584003
abbrev Obj.ID_MAX_SHOT_RATE : Nat := 0x584004
abbrev Obj.DEAD_BEAMS : Nat := 0x584005
abbrev Obj.SETUP_NS : Nat := 0x584006
abbrev Obj.SKEW_SPREAD : Nat := 0x584007
abbrev Obj.MODULE_COMMAND : Nat := 0x584100
abbrev Obj.DEAD_BEAM_MAP : Nat := 0x584200
abbrev Obj.LANE_SKEW : Nat := 0x584300
abbrev Obj.I2C_SPEED : Nat := 0x584401
abbrev Obj.ID_ADDRESS : Nat := 0x584402
abbrev Obj.CTRL_ADDRESS : Nat := 0x584403
abbrev Obj.ILK_ROLE (j : Nat) : Nat := 0x585001 + j
abbrev Obj.ILK_STABLE : Nat := 0x585100
abbrev Obj.ILK_STATE : Nat := 0x585200
abbrev Obj.ILK_TRIPS (j : Nat) : Nat := 0x585301 + j
abbrev Obj.LANE : Nat := 0x588001
abbrev Obj.PHASE : Nat := 0x588002
abbrev Obj.EYE_OFFSET : Nat := 0x588003
abbrev Obj.EYE_BITS : Nat := 0x588004
abbrev Obj.EYE_COMMAND : Nat := 0x588005
abbrev Obj.EYE_ERRORS : Nat := 0x588006
abbrev Obj.BITS_DONE : Nat := 0x588007
abbrev Obj.SCAN_STATE : Nat := 0x588008
abbrev Obj.PAT_MODE (i : Nat) : Nat := 0x590001 + 256 * i
abbrev Obj.LOOPBACK (i : Nat) : Nat := 0x590002 + 256 * i
abbrev Obj.INJECT (i : Nat) : Nat := 0x590003 + 256 * i
abbrev Obj.INJECT_RATE (i : Nat) : Nat := 0x590004 + 256 * i
abbrev Obj.PAT_BITS (i : Nat) : Nat := 0x590005 + 256 * i
abbrev Obj.PAT_ERRORS (i : Nat) : Nat := 0x590006 + 256 * i
abbrev Obj.COUNTS_PER_PERIOD : Nat := 0x600001
abbrev Obj.SC_SAMPLE_RATE : Nat := 0x600002
abbrev Obj.STROBE_STEP : Nat := 0x600003
abbrev Obj.PIXEL_PITCH : Nat := 0x600101
abbrev Obj.SCAN_SENSE : Nat := 0x600102
abbrev Obj.DIR_BAND : Nat := 0x600103
abbrev Obj.STROBE_TOLERANCE : Nat := 0x600104
abbrev Obj.SPEED_WINDOW : Nat := 0x600105
abbrev Obj.PACE_ON : Nat := 0x600106
abbrev Obj.PACE_OFF : Nat := 0x600107
abbrev Obj.INDEX_ACTION : Nat := 0x600108
abbrev Obj.STANDSTILL_TIME : Nat := 0x600109
abbrev Obj.SHOT_SOURCE : Nat := 0x600201
abbrev Obj.TRIGGER_STATE : Nat := 0x600202
abbrev Obj.PROGRESS : Nat := 0x600203
abbrev Obj.NEXT_SHOT : Nat := 0x600204
abbrev Obj.LAST_ERROR : Nat := 0x600205
abbrev Obj.SHOT_MAX_ERROR : Nat := 0x600206
abbrev Obj.OVERSPEED : Nat := 0x600207
abbrev Obj.PACE_SLOW : Nat := 0x600208
abbrev Obj.OVERSPEED_SHOTS : Nat := 0x600301
abbrev Obj.OVERSPEED_RUNS : Nat := 0x600302
abbrev Obj.STROBES_OFF : Nat := 0x600303
abbrev Obj.REVERSALS : Nat := 0x600304
abbrev Obj.ORIGINS_PASSED : Nat := 0x600305
abbrev Obj.CHAN_MODE (i : Nat) : Nat := 0x601001 + 256 * i
abbrev Obj.CHAN_INVERT (i : Nat) : Nat := 0x601002 + 256 * i
abbrev Obj.CHAN_FILTER (i : Nat) : Nat := 0x601003 + 256 * i
abbrev Obj.CHAN_POSITION (i : Nat) : Nat := 0x601004 + 256 * i
abbrev Obj.CHAN_SPEED (i : Nat) : Nat := 0x601005 + 256 * i
abbrev Obj.CHAN_DIRECTION (i : Nat) : Nat := 0x601006 + 256 * i
abbrev Obj.CHAN_STATUS (i : Nat) : Nat := 0x601007 + 256 * i
abbrev Obj.REF_COMMAND (i : Nat) : Nat := 0x601008 + 256 * i
abbrev Obj.REF_VALUE (i : Nat) : Nat := 0x601009 + 256 * i
abbrev Obj.REF_SPACING (i : Nat) : Nat := 0x60100A + 256 * i
abbrev Obj.INDEX_TOLERANCE (i : Nat) : Nat := 0x60100B + 256 * i
abbrev Obj.LAST_INDEX (i : Nat) : Nat := 0x60100C + 256 * i
abbrev Obj.CHAN_ERRORS (i : Nat) : Nat := 0x60100D + 256 * i
abbrev Obj.CHANNEL : Nat := 0x603001
abbrev Obj.RATIO : Nat := 0x603002
abbrev Obj.LIMIT : Nat := 0x603003
abbrev Obj.SAMPLES : Nat := 0x603004
abbrev Obj.CROSS_STATE : Nat := 0x603005
abbrev Obj.DIFFERENCE : Nat := 0x603006
abbrev Obj.CROSS_COMMAND : Nat := 0x603007
abbrev Obj.PROBE_SOURCE (i : Nat) : Nat := 0x604001 + 256 * i
abbrev Obj.EDGE (i : Nat) : Nat := 0x604002 + 256 * i
abbrev Obj.PROBE_FILTER (i : Nat) : Nat := 0x604003 + 256 * i
abbrev Obj.PROBE_PENDING (i : Nat) : Nat := 0x604004 + 256 * i
abbrev Obj.LATCH (i : Nat) : Nat := 0x604005 + 256 * i
abbrev Obj.LATCH_SEQ (i : Nat) : Nat := 0x604006 + 256 * i
abbrev Obj.NEXT (i : Nat) : Nat := 0x604007 + 256 * i
abbrev Obj.PROBE_OVERFLOWS (i : Nat) : Nat := 0x604008 + 256 * i
abbrev Obj.COMPARE_SOURCE (i : Nat) : Nat := 0x605001 + 256 * i
abbrev Obj.COMPARE_TARGET (i : Nat) : Nat := 0x605002 + 256 * i
abbrev Obj.INCREMENT (i : Nat) : Nat := 0x605003 + 256 * i
abbrev Obj.QUALIFIER (i : Nat) : Nat := 0x605004 + 256 * i
abbrev Obj.COMPARE_ACTION (i : Nat) : Nat := 0x605005 + 256 * i
abbrev Obj.PULSE_WIDTH (i : Nat) : Nat := 0x605006 + 256 * i
abbrev Obj.IMMEDIATE (i : Nat) : Nat := 0x605007 + 256 * i
abbrev Obj.COMPARE_STATE (i : Nat) : Nat := 0x605008 + 256 * i
abbrev Obj.HITS (i : Nat) : Nat := 0x605009 + 256 * i
abbrev Obj.COMPARE_MISSED (i : Nat) : Nat := 0x60500A + 256 * i
abbrev Obj.RELOAD (i : Nat) : Nat := 0x606001 + 256 * i
abbrev Obj.TIMER_PERIODIC (i : Nat) : Nat := 0x606002 + 256 * i
abbrev Obj.TIMER_ACTION (i : Nat) : Nat := 0x606003 + 256 * i
abbrev Obj.ARG (i : Nat) : Nat := 0x606004 + 256 * i
abbrev Obj.TIMER_ENABLE (i : Nat) : Nat := 0x606005 + 256 * i
abbrev Obj.TIMER_COUNT (i : Nat) : Nat := 0x606006 + 256 * i
abbrev Obj.EXPIRIES (i : Nat) : Nat := 0x606007 + 256 * i
abbrev Obj.TIMER_STATE (i : Nat) : Nat := 0x606008 + 256 * i
abbrev Obj.SERVO_AXES : Nat := 0x680001
abbrev Obj.RC_MAX_PERIOD : Nat := 0x680002
abbrev Obj.FRAME_DELAY : Nat := 0x680003
abbrev Obj.DEFL_RATE : Nat := 0x680004
abbrev Obj.UPDATE_DIVISOR : Nat := 0x680101
abbrev Obj.VBAND_HYST : Nat := 0x680102
abbrev Obj.RECOVER : Nat := 0x680103
abbrev Obj.OOR_PAUSE : Nat := 0x680104
abbrev Obj.VBAND : Nat := 0x680200
abbrev Obj.SERVO_ENABLE (i : Nat) : Nat := 0x681001 + 256 * i
abbrev Obj.SERVO_SOURCE (i : Nat) : Nat := 0x681002 + 256 * i
abbrev Obj.SETPOINT (i : Nat) : Nat := 0x681003 + 256 * i
abbrev Obj.SLEW (i : Nat) : Nat := 0x681004 + 256 * i
abbrev Obj.MODEL_GAIN (i : Nat) : Nat := 0x681005 + 256 * i
abbrev Obj.MODEL_EXP (i : Nat) : Nat := 0x681006 + 256 * i
abbrev Obj.LIMIT_LO (i : Nat) : Nat := 0x681007 + 256 * i
abbrev Obj.LIMIT_HI (i : Nat) : Nat := 0x681008 + 256 * i
abbrev Obj.GUARD (i : Nat) : Nat := 0x681009 + 256 * i
abbrev Obj.REGION_GAINS (i j : Nat) : Nat := 0x682001 + 256 * i + j
abbrev Obj.BIQUAD (i j : Nat) : Nat := 0x683001 + 256 * i + j
abbrev Obj.RC_MODE (i : Nat) : Nat := 0x684001 + 256 * i
abbrev Obj.PERIOD (i : Nat) : Nat := 0x684002 + 256 * i
abbrev Obj.PHASE_LEAD (i : Nat) : Nat := 0x684003 + 256 * i
abbrev Obj.COEFFS (i : Nat) : Nat := 0x684004 + 256 * i
abbrev Obj.EXPONENT (i : Nat) : Nat := 0x684005 + 256 * i
abbrev Obj.RC_COMMAND (i : Nat) : Nat := 0x684006 + 256 * i
abbrev Obj.LEARN_UPDATES (i : Nat) : Nat := 0x684007 + 256 * i
abbrev Obj.RC_MEMORY (i : Nat) : Nat := 0x684800 + 256 * i
abbrev Obj.SVSTAT_STATE (i : Nat) : Nat := 0x685001 + 256 * i
abbrev Obj.REGION (i : Nat) : Nat := 0x685002 + 256 * i
abbrev Obj.ERROR (i : Nat) : Nat := 0x685003 + 256 * i
abbrev Obj.SVSTAT_CODE (i : Nat) : Nat := 0x685004 + 256 * i
abbrev Obj.SVSTAT_MAX_ERROR (i : Nat) : Nat := 0x685005 + 256 * i
abbrev Obj.EXPONENTS (i : Nat) : Nat := 0x685006 + 256 * i
abbrev Obj.RC_INDEX (i : Nat) : Nat := 0x685007 + 256 * i
abbrev Obj.SETPOINT_NOW (i : Nat) : Nat := 0x685008 + 256 * i
abbrev Obj.OOR_UPDATES : Nat := 0x686001
abbrev Obj.SHOTS_BLANKED : Nat := 0x686002
abbrev Obj.SHOTS_UNCERTAIN : Nat := 0x686003
abbrev Obj.REGION_SWITCHES : Nat := 0x686004
abbrev Obj.SATURATIONS : Nat := 0x686005
abbrev Obj.AXIS_AXES : Nat := 0x700001
abbrev Obj.TICK_NS : Nat := 0x700002
abbrev Obj.CAM_POINTS : Nat := 0x700003
abbrev Obj.VMAX (i : Nat) : Nat := 0x701001 + 256 * i
abbrev Obj.VSTART (i : Nat) : Nat := 0x701002 + 256 * i
abbrev Obj.ACCEL (i : Nat) : Nat := 0x701003 + 256 * i
abbrev Obj.DECEL (i : Nat) : Nat := 0x701004 + 256 * i
abbrev Obj.JERK (i : Nat) : Nat := 0x701005 + 256 * i
abbrev Obj.STOP_DECEL (i : Nat) : Nat := 0x701006 + 256 * i
abbrev Obj.I_RUN (i : Nat) : Nat := 0x701007 + 256 * i
abbrev Obj.I_HOLD (i : Nat) : Nat := 0x701008 + 256 * i
abbrev Obj.HOLD_DELAY (i : Nat) : Nat := 0x701009 + 256 * i
abbrev Obj.SWITCH_CHANNEL (i : Nat) : Nat := 0x70100A + 256 * i
abbrev Obj.SWITCH_POLARITY (i : Nat) : Nat := 0x70100B + 256 * i
abbrev Obj.SWITCH_FILTER (i : Nat) : Nat := 0x70100C + 256 * i
abbrev Obj.RELEASE (i : Nat) : Nat := 0x70100D + 256 * i
abbrev Obj.AXIS_INVERT (i : Nat) : Nat := 0x70100E + 256 * i
abbrev Obj.SENSE_MOHM (i : Nat) : Nat := 0x702001 + 256 * i
abbrev Obj.HYSTERESIS (i : Nat) : Nat := 0x702002 + 256 * i
abbrev Obj.COMP_DELAY (i : Nat) : Nat := 0x702003 + 256 * i
abbrev Obj.BLANK_TIME (i : Nat) : Nat := 0x702004 + 256 * i
abbrev Obj.DECAY (i : Nat) : Nat := 0x702005 + 256 * i
abbrev Obj.FAST_TIME (i : Nat) : Nat := 0x702006 + 256 * i
abbrev Obj.MAX_ON (i : Nat) : Nat := 0x702007 + 256 * i
abbrev Obj.ADAPT (i : Nat) : Nat := 0x702008 + 256 * i
abbrev Obj.HOME_DIR (i : Nat) : Nat := 0x703001 + 256 * i
abbrev Obj.HOME_SPEED (i : Nat) : Nat := 0x703002 + 256 * i
abbrev Obj.HOME_VALUE (i : Nat) : Nat := 0x703003 + 256 * i
abbrev Obj.CHATTER_LIMIT (i : Nat) : Nat := 0x703004 + 256 * i
abbrev Obj.TABLE (i : Nat) : Nat := 0x704001 + 256 * i
abbrev Obj.MASTER (i : Nat) : Nat := 0x704002 + 256 * i
abbrev Obj.MASTER_ORIGIN (i : Nat) : Nat := 0x704003 + 256 * i
abbrev Obj.INTERVAL (i : Nat) : Nat := 0x704004 + 256 * i
abbrev Obj.CAM_PERIODIC (i : Nat) : Nat := 0x704005 + 256 * i
abbrev Obj.RISE (i : Nat) : Nat := 0x704006 + 256 * i
abbrev Obj.SLAVE_OFFSET (i : Nat) : Nat := 0x704007 + 256 * i
abbrev Obj.ENGAGE_WINDOW (i : Nat) : Nat := 0x704008 + 256 * i
abbrev Obj.LAG_LIMIT (i : Nat) : Nat := 0x704009 + 256 * i
abbrev Obj.AXIS_STATE (i : Nat) : Nat := 0x705001 + 256 * i
abbrev Obj.AXIS_POSITION (i : Nat) : Nat := 0x705002 + 256 * i
abbrev Obj.VELOCITY (i : Nat) : Nat := 0x705003 + 256 * i
abbrev Obj.CURRENT_A (i : Nat) : Nat := 0x705004 + 256 * i
abbrev Obj.CURRENT_B (i : Nat) : Nat := 0x705005 + 256 * i
abbrev Obj.SWITCHES (i : Nat) : Nat := 0x705006 + 256 * i
abbrev Obj.REFERENCED (i : Nat) : Nat := 0x705007 + 256 * i
abbrev Obj.FAULT (i : Nat) : Nat := 0x705008 + 256 * i
abbrev Obj.LAG (i : Nat) : Nat := 0x705009 + 256 * i
abbrev Obj.CHATTERS (i : Nat) : Nat := 0x70500A + 256 * i
abbrev Obj.AXIS_TARGET (i : Nat) : Nat := 0x706001 + 256 * i
abbrev Obj.AXIS_COMMAND (i : Nat) : Nat := 0x706002 + 256 * i
abbrev Obj.CAM_TABLE (i : Nat) : Nat := 0x710000 + 256 * i
abbrev Obj.AUTO_MEND : Nat := 0x780001
abbrev Obj.MEND_PASS_LIMIT : Nat := 0x780002
abbrev Obj.MEND_GAP : Nat := 0x780003
abbrev Obj.JOURNAL_RESERVE : Nat := 0x780004
abbrev Obj.ECHO_WAIT : Nat := 0x780005
abbrev Obj.LEDGER_RECORDS : Nat := 0x780101
abbrev Obj.LEDGER_PENDING : Nat := 0x780102
abbrev Obj.HELD : Nat := 0x780103
abbrev Obj.OVERDOSES : Nat := 0x780104
abbrev Obj.PASSES : Nat := 0x780105
abbrev Obj.FIRST : Nat := 0x780201
abbrev Obj.WINDOW_RECORDS : Nat := 0x780202
abbrev Obj.DECISION : Nat := 0x780300
abbrev Obj.AREA_BASE : Nat := 0x781001
abbrev Obj.AREA_LENGTH : Nat := 0x781002
abbrev Obj.MEND_SHOT_RATE : Nat := 0x781003
abbrev Obj.MEND_STRIPES : Nat := 0x781004
abbrev Obj.BUILD_STATE : Nat := 0x781005
abbrev Obj.NEXT_NUMBER : Nat := 0x781006
abbrev Obj.ENTRIES : Nat := 0x782001
abbrev Obj.FREE : Nat := 0x782002
abbrev Obj.LAST_CHECKPOINT : Nat := 0x782003
abbrev Obj.DISPOSED_SSN : Nat := 0x782004
abbrev Obj.SETS : Nat := 0x782005
abbrev Obj.JOURNAL_DATA : Nat := 0x782100
abbrev Obj.RECOVERY_STATE : Nat := 0x783001
abbrev Obj.RESTART_SSN : Nat := 0x783002
abbrev Obj.CUT_STRIPE : Nat := 0x783003
abbrev Obj.CUT_SHOT : Nat := 0x783004
abbrev Obj.NO_ECHO : Nat := 0x783005
abbrev Obj.RECOVERY_COMMAND : Nat := 0x783006
abbrev Obj.DMAP_ADDR : Nat := 0x784001
abbrev Obj.DMAP_LENGTH : Nat := 0x784002
abbrev Obj.DMAP_STRIPE : Nat := 0x784003
abbrev Obj.SELECT : Nat := 0x784004
abbrev Obj.DMAP_COMMAND : Nat := 0x784005
abbrev Obj.DMAP_STATE : Nat := 0x784006
abbrev Obj.BYTES : Nat := 0x784007
abbrev Obj.RANKS_PER_CHANNEL : Nat := 0x800001
abbrev Obj.DENSITY : Nat := 0x800002
abbrev Obj.IDLE_PD : Nat := 0x800003
abbrev Obj.POSTPONE_LIMIT : Nat := 0x800004
abbrev Obj.RETIRE_CORRECTED : Nat := 0x800005
abbrev Obj.PATROL_HOURS : Nat := 0x800006
abbrev Obj.TIMING_VALUE (j : Nat) : Nat := 0x800101 + j
abbrev Obj.STORE_STATE : Nat := 0x800201
abbrev Obj.TIMING_VALID : Nat := 0x800202
abbrev Obj.PAGES_MAPPED : Nat := 0x800203
abbrev Obj.PAGES_FREE : Nat := 0x800204
abbrev Obj.CONTENTS_KEPT : Nat := 0x800205
abbrev Obj.REMAP_ENTRIES : Nat := 0x800206
abbrev Obj.MIGRATING : Nat := 0x800207
abbrev Obj.REFETCH_PENDING : Nat := 0x800208
abbrev Obj.FORCED_REFRESHES : Nat := 0x800209
abbrev Obj.STORE_COMMAND : Nat := 0x800300
abbrev Obj.RT_BOUND : Nat := 0x800400
abbrev Obj.RANK_ROLE (i j : Nat) : Nat := 0x801001 + 256 * i + j
abbrev Obj.RANK_CORRECTED (i j : Nat) : Nat := 0x802001 + 256 * i + j
abbrev Obj.RANK_UNCORRECTABLE (i j : Nat) : Nat := 0x803001 + 256 * i + j
abbrev Obj.REFETCH_COUNT : Nat := 0x804001
abbrev Obj.PAGE : Nat := 0x804002
abbrev Obj.PKG_OFFSET : Nat := 0x804003
abbrev Obj.MAP_OFFSET : Nat := 0x804004
abbrev Obj.DONE : Nat := 0x804005
abbrev Obj.RCD_WORDS : Nat := 0x805000
abbrev Obj.STORE_DELAYS (i : Nat) : Nat := 0x810000 + 256 * i
abbrev Obj.STORE_TRANSLATION : Nat := 0x820000
abbrev Obj.SRAM_BYTES : Nat := 0x880001
abbrev Obj.ARRAYS : Nat := 0x880002
abbrev Obj.RINSE_ON : Nat := 0x880101
abbrev Obj.RINSE_INTERVAL : Nat := 0x880102
abbrev Obj.ARRAY_CORRECTED (i : Nat) : Nat := 0x881001 + 256 * i
abbrev Obj.ARRAY_UNCORRECTABLE (i : Nat) : Nat := 0x881002 + 256 * i
abbrev Obj.LAST_INSTANCE (i : Nat) : Nat := 0x881003 + 256 * i
abbrev Obj.LAST_ADDRESS (i : Nat) : Nat := 0x881004 + 256 * i
abbrev Obj.PASS_TIME (i : Nat) : Nat := 0x881005 + 256 * i
abbrev Obj.CHECKER_TEST : Nat := 0x883000
abbrev Obj.CHKRES_RESULT : Nat := 0x883101
abbrev Obj.ARRAY : Nat := 0x883102
abbrev Obj.CHKRES_INSTANCE : Nat := 0x883103
abbrev Obj.RAW_HZ : Nat := 0x900001
abbrev Obj.LAUNCH_ENTRIES : Nat := 0x900002
abbrev Obj.CAPTURE_DEPTH : Nat := 0x900003
abbrev Obj.RATE : Nat := 0x900101
abbrev Obj.OFFSET_NS : Nat := 0x900102
abbrev Obj.OFFSET_FRAC : Nat := 0x900103
abbrev Obj.STEPPED : Nat := 0x900104
abbrev Obj.TIME_NOW : Nat := 0x900200
abbrev Obj.CLOCK_COMMAND : Nat := 0x900300
abbrev Obj.DOMAIN : Nat := 0x901001
abbrev Obj.TRANSPORT : Nat := 0x901002
abbrev Obj.DELAY_MECHANISM : Nat := 0x901003
abbrev Obj.SLAVE_ONLY : Nat := 0x901004
abbrev Obj.PRIORITY1 : Nat := 0x901005
abbrev Obj.PRIORITY2 : Nat := 0x901006
abbrev Obj.LOG_SYNC_INTERVAL : Nat := 0x901007
abbrev Obj.LOG_ANNOUNCE_INTERVAL : Nat := 0x901008
abbrev Obj.ANNOUNCE_TIMEOUT : Nat := 0x901009
abbrev Obj.LOG_DELAY_INTERVAL : Nat := 0x90100A
abbrev Obj.PORT_PREFERENCE : Nat := 0x90100B
abbrev Obj.KP : Nat := 0x901101
abbrev Obj.KI : Nat := 0x901102
abbrev Obj.LOCK_THRESHOLD : Nat := 0x901103
abbrev Obj.LOCK_SAMPLES : Nat := 0x901104
abbrev Obj.SLEW_LIMIT : Nat := 0x901105
abbrev Obj.CHANGE_THRESHOLD : Nat := 0x901201
abbrev Obj.HOLD_TIME : Nat := 0x901202
abbrev Obj.ASYMMETRY : Nat := 0x901203
abbrev Obj.MEAN_PATH_DELAY : Nat := 0x901204
abbrev Obj.BASELINE : Nat := 0x901205
abbrev Obj.INGRESS_LATENCY (i : Nat) : Nat := 0x901401 + 256 * i
abbrev Obj.EGRESS_LATENCY (i : Nat) : Nat := 0x901402 + 256 * i
abbrev Obj.PORT_STATE : Nat := 0x902001
abbrev Obj.ACTIVE_PORT : Nat := 0x902002
abbrev Obj.GM_IDENTITY : Nat := 0x902003
abbrev Obj.OFFSET_FROM_MASTER : Nat := 0x902004
abbrev Obj.UTC_OFFSET : Nat := 0x902005
abbrev Obj.SERVO_STATE : Nat := 0x902006
abbrev Obj.HOLD_REMAINING : Nat := 0x902007
abbrev Obj.PATH_CHANGES : Nat := 0x902008
abbrev Obj.PROBE_SELECT : Nat := 0x903001
abbrev Obj.ILK_SELECT : Nat := 0x903002
abbrev Obj.STRIPE_START : Nat := 0x903003
abbrev Obj.MARKER_INTERVAL : Nat := 0x903004
abbrev Obj.CAPTURE_PENDING : Nat := 0x903005
abbrev Obj.CAPTURE_OVERFLOWS : Nat := 0x903006
abbrev Obj.CAPTURE_RECORD : Nat := 0x903100
abbrev Obj.CAPTURE_NEXT : Nat := 0x903200
abbrev Obj.TIME_NS (i : Nat) : Nat := 0x904001 + 256 * i
abbrev Obj.LAUNCH_PORT (i : Nat) : Nat := 0x904002 + 256 * i
abbrev Obj.LAUNCH_FLAGS (i : Nat) : Nat := 0x904003 + 256 * i
abbrev Obj.TS_OFFSET (i : Nat) : Nat := 0x904004 + 256 * i
abbrev Obj.LAUNCH_LENGTH (i : Nat) : Nat := 0x904005 + 256 * i
abbrev Obj.FRAME (i : Nat) : Nat := 0x904006 + 256 * i
abbrev Obj.LAUNCH_COMMAND (i : Nat) : Nat := 0x904007 + 256 * i
abbrev Obj.LAUNCH_STATUS (i : Nat) : Nat := 0x904008 + 256 * i
abbrev Obj.SENT_AT (i : Nat) : Nat := 0x904009 + 256 * i
abbrev Obj.RECORD_BYTES : Nat := 0xA00001
abbrev Obj.FIRST_RECORDS : Nat := 0xA00002
abbrev Obj.RING_RECORDS : Nat := 0xA00003
abbrev Obj.START_RECORDS : Nat := 0xA00004
abbrev Obj.QUEUE_DEPTH : Nat := 0xA00005
abbrev Obj.NEXT_SEQ : Nat := 0xA00101
abbrev Obj.FIRST_COUNT : Nat := 0xA00102
abbrev Obj.START_COUNT : Nat := 0xA00103
abbrev Obj.START_FULL : Nat := 0xA00104
abbrev Obj.RING_OLDEST_SEQ : Nat := 0xA00105
abbrev Obj.RING_COUNT : Nat := 0xA00106
abbrev Obj.RING_OVERWRITTEN : Nat := 0xA00107
abbrev Obj.DROPPED : Nat := 0xA00108
abbrev Obj.START_ACTIVE : Nat := 0xA00109
abbrev Obj.CLEARED_AT : Nat := 0xA0010A
abbrev Obj.RECORDER_COMMAND : Nat := 0xA00200
abbrev Obj.RECORDER_READ : Nat := 0xA00300
abbrev Obj.READ_CURSOR (j : Nat) : Nat := 0xA01001 + j
abbrev Obj.READ_WINDOW (j : Nat) : Nat := 0xA01101 + j
abbrev Obj.EVENT_COUNTERS : Nat := 0xA80001
abbrev Obj.THRESHOLD_COUNTERS : Nat := 0xA80002
abbrev Obj.REC_TAG_RECORDS : Nat := 0xA80003
abbrev Obj.EVENT_COUNTS : Nat := 0xA80100
abbrev Obj.COUNTER_READ : Nat := 0xA80200
abbrev Obj.THR_SOURCE (i : Nat) : Nat := 0xA81001 + 256 * i
abbrev Obj.THR_INSTANCE (i : Nat) : Nat := 0xA81002 + 256 * i
abbrev Obj.N (i : Nat) : Nat := 0xA81003 + 256 * i
abbrev Obj.THR_ENABLE (i : Nat) : Nat := 0xA81004 + 256 * i
abbrev Obj.THR_COUNT (i : Nat) : Nat := 0xA81005 + 256 * i
abbrev Obj.ELAPSED (i : Nat) : Nat := 0xA81006 + 256 * i
abbrev Obj.CLOCK_HZ (i : Nat) : Nat := 0xA81007 + 256 * i
abbrev Obj.THRESHOLD_SNAPSHOT : Nat := 0xA85000
abbrev Obj.KINDS : Nat := 0xA86001
abbrev Obj.K : Nat := 0xA86002
abbrev Obj.SEED : Nat := 0xA86003
abbrev Obj.ON : Nat := 0xA86004
abbrev Obj.TAG_MISSED : Nat := 0xA86005
abbrev Obj.TAG_RECORDS : Nat := 0xA86100
abbrev Obj.TAG_RELEASE : Nat := 0xA86200
abbrev Obj.CAL_CHANNELS : Nat := 0xB00001
abbrev Obj.FW_SLOT_BYTES : Nat := 0xB00002
abbrev Obj.AUTO : Nat := 0xB00101
abbrev Obj.TEMP_THRESHOLD : Nat := 0xB00102
abbrev Obj.SC_PERIODS : Nat := 0xB00103
abbrev Obj.RUN_LIMIT : Nat := 0xB00104
abbrev Obj.CAL_COMMAND : Nat := 0xB00200
abbrev Obj.CAL_STATE (i : Nat) : Nat := 0xB01001 + 256 * i
abbrev Obj.CAL_RESULT (i : Nat) : Nat := 0xB01002 + 256 * i
abbrev Obj.TEMP_AT_RUN (i : Nat) : Nat := 0xB01003 + 256 * i
abbrev Obj.RUNS (i : Nat) : Nat := 0xB01004 + 256 * i
abbrev Obj.CAL_LAST_TIME (i : Nat) : Nat := 0xB01005 + 256 * i
abbrev Obj.SLOT (i : Nat) : Nat := 0xB01006 + 256 * i
abbrev Obj.TRIMS (i : Nat) : Nat := 0xB01007 + 256 * i
abbrev Obj.FW_IMAGE_PART (j : Nat) : Nat := 0xB02001 + j
abbrev Obj.ACTIVE_SLOT : Nat := 0xB02101
abbrev Obj.SLOT_A_STATE : Nat := 0xB02102
abbrev Obj.SLOT_B_STATE : Nat := 0xB02103
abbrev Obj.SLOT_A_VERSION : Nat := 0xB02104
abbrev Obj.SLOT_B_VERSION : Nat := 0xB02105
abbrev Obj.FW_COMMAND : Nat := 0xB02200
abbrev Obj.RAILS : Nat := 0xB80001
abbrev Obj.SENTINEL_HZ : Nat := 0xB80002
abbrev Obj.WAKE_POLICY : Nat := 0xB80101
abbrev Obj.WARN_FILTER : Nat := 0xB80102
abbrev Obj.RESET_FILTER : Nat := 0xB80103
abbrev Obj.PWR_FAIL_ACTION : Nat := 0xB80104
abbrev Obj.PWR_FAIL_DELAY : Nat := 0xB80105
abbrev Obj.WAKE_STABLE : Nat := 0xB80106
abbrev Obj.TEMP_SHUTDOWN : Nat := 0xB80107
abbrev Obj.LAST_SOURCE : Nat := 0xB80201
abbrev Obj.LAST_CAUSE : Nat := 0xB80202
abbrev Obj.RESET_LAST_TIME : Nat := 0xB80203
abbrev Obj.RESET_COUNTS (j : Nat) : Nat := 0xB80204 + j
abbrev Obj.RESET_COMMAND : Nat := 0xB80300
abbrev Obj.NOMINAL_MV (i : Nat) : Nat := 0xB81001 + 256 * i
abbrev Obj.WARN_MV (i : Nat) : Nat := 0xB81002 + 256 * i
abbrev Obj.RESET_MV (i : Nat) : Nat := 0xB81003 + 256 * i
abbrev Obj.VOLTAGE_MV (i : Nat) : Nat := 0xB81004 + 256 * i
abbrev Obj.MIN_MV (i : Nat) : Nat := 0xB81005 + 256 * i
abbrev Obj.RAIL_STATE (i : Nat) : Nat := 0xB81006 + 256 * i
abbrev Obj.WARNS (i : Nat) : Nat := 0xB81007 + 256 * i
abbrev Obj.DIE_TEMP : Nat := 0xB82001
abbrev Obj.DIE_TEMP_MAX : Nat := 0xB82002
abbrev Obj.KEEPER_TEMP : Nat := 0xB82003
abbrev Obj.TICKS : Nat := 0xB83001
abbrev Obj.BASE : Nat := 0xB83002
abbrev Obj.BACKUP_NS : Nat := 0xB83003
abbrev Obj.CRYSTAL : Nat := 0xB83004
abbrev Obj.PWR_FAIL_LEVEL : Nat := 0xB83100
abbrev Obj.DIAG_COMMAND : Nat := 0xF00000
abbrev Obj.DIAG_STATE : Nat := 0xF00101
abbrev Obj.LAST : Nat := 0xF00102
abbrev Obj.DIAG_RESULT : Nat := 0xF00103
abbrev Obj.FAILED_STEP : Nat := 0xF00104
abbrev Obj.ENGINES_FAILED : Nat := 0xF00105
abbrev Obj.LANES_FAILED : Nat := 0xF00106
abbrev Obj.DURATION : Nat := 0xF00107
abbrev Obj.LANE_BITS : Nat := 0xF00300
abbrev Obj.TEST_ADDR : Nat := 0xF00401
abbrev Obj.TEST_LENGTH : Nat := 0xF00402
abbrev Obj.TEST_ERRORS : Nat := 0xF00403
abbrev Obj.FIRST_ERROR : Nat := 0xF00404
abbrev Obj.TEST_DONE_BYTES : Nat := 0xF00405
abbrev Obj.AREAS_FAILED : Nat := 0xF00501
abbrev Obj.RECORDS_FAILED : Nat := 0xF00502

end Sys2Proof.Machine
end

