-- ==== Sys2Proof/Machine/Map.lean ====
section
/-!
DEFINITION. Sys2Proof/Machine/Map.lean: sparse data by number, in one canonical form.
A map is a list of (number, value) pairs with strictly rising numbers and no pair that holds the
value an unlisted number reads as. The dictionary's values, the layout store's bytes, the segment
memories and the counters are such maps, so that equal contents are equal data.
-/
namespace Sys2Proof.Machine

/-- Values by number. -/
abbrev Map (α : Type) := List (Nat × α)

/-- The value at `k`; `d` where no pair lists `k`. -/
def Map.get {α : Type} (d : α) : Map α → Nat → α
  | [], _ => d
  | (j, v) :: m, k => if j = k then v else Map.get d m k

/-- The value listed at `k`. -/
def Map.find {α : Type} : Map α → Nat → Option α
  | [], _ => none
  | (j, v) :: m, k => if j = k then some v else Map.find m k

/-- Lists `v` at `k`, in rising order. -/
def Map.insert {α : Type} (k : Nat) (v : α) : Map α → Map α
  | [] => [(k, v)]
  | (j, w) :: m =>
    if j = k then (k, v) :: m else if k < j then (k, v) :: (j, w) :: m else (j, w) :: Map.insert k v m

/-- Removes every pair at `k`. -/
def Map.erase {α : Type} (k : Nat) : Map α → Map α
  | [] => []
  | (j, w) :: m => if j = k then Map.erase k m else (j, w) :: Map.erase k m

/-- Writes `v` at `k`: writing the value `d` that an unlisted number reads as removes the pair. -/
def Map.put {α : Type} [DecidableEq α] (d : α) (k : Nat) (v : α) (m : Map α) : Map α :=
  if v = d then Map.erase k m else Map.insert k v m

/-- Writes a run of values from `k` on. -/
def Map.puts {α : Type} [DecidableEq α] (d : α) (k : Nat) : List α → Map α → Map α
  | [], m => m
  | v :: vs, m => Map.puts d (k + 1) vs (Map.put d k v m)

/-- Reads `n` values from `k` on. -/
def Map.gets {α : Type} (d : α) (m : Map α) (k : Nat) : Nat → List α
  | 0 => []
  | n + 1 => Map.get d m k :: Map.gets d m (k + 1) n

/-- Every number listed is above `k`. -/
def Map.above {α : Type} (k : Nat) (m : Map α) : Bool := m.all fun e => decide (k < e.1)

/-- The canonical form: strictly rising numbers, and no pair with the value `d`. -/
def Map.wf {α : Type} [DecidableEq α] (d : α) : Map α → Bool
  | [] => true
  | (j, v) :: m => decide (v ≠ d) && Map.above j m && Map.wf d m

end Sys2Proof.Machine
end

