-- ==== Sys2Proof/Machine/Klf.lean ====
section
/-!
DEFINITION. Sys2Proof/Machine/Klf.lean: the KLF layout package (04_layout_package, R117 to R157).
The byte-exact format, the decoder of predictive blocks, cell placement, trapezoids, the compressor (R227) and the
tests of acceptance (R155). Everything here is a function of bytes.
-/
namespace Sys2Proof.Machine

/-- Bytes of the layout store; a byte that nothing lists reads 0x00 (log entry 3). -/
def storeBytes (mem : Map Byte) (addr n : Nat) : List Byte := Map.gets 0 mem addr n

/-! ### Header, stripes and tiles (R123 to R129) -/

/-- A stripe entry (R124). -/
structure StripeEntry where
  length : Nat
  tileRows : Nat
  origin : Int
  indexOffset : Nat
  direction : Nat
  deriving DecidableEq, Repr

/-- The stripe entry in 64 bytes. -/
def stripeEntry (b : List Byte) : StripeEntry where
  length := field b 0 4
  tileRows := field b 4 4
  origin := sfield b 8 8
  indexOffset := field b 16 8
  direction := field b 24 1

/-- A tile entry (R126). -/
structure TileEntry where
  kind : Nat
  blocks : Nat
  scale : Nat
  dataOffset : Nat
  level : Nat
  dataLength : Nat
  deriving DecidableEq, Repr

/-- The tile entry in 16 bytes. -/
def tileEntry (b : List Byte) : TileEntry where
  kind := field b 0 1
  blocks := field b 1 1
  scale := field b 2 2
  dataOffset := field b 4 8
  level := field b 4 2
  dataLength := field b 12 4

/-- The tile kinds of R126. -/
def kEmpty : Nat := 0
def kFill : Nat := 1
def kRaw : Nat := 2
def kPred : Nat := 3
def kRepeat : Nat := 4
def kCell : Nat := 5
def kTrap : Nat := 6

/-- A stripe in the store: the address from which its offsets count, and the first argument of its fold (R132,
R213). -/
structure Source where
  base : Nat
  foldA : Nat
  indexOffset : Nat
  length : Nat
  tileRows : Nat
  deriving DecidableEq, Repr

/-- Address of tile-row record `t` (R125). -/
def Source.rowAt (s : Source) (t : Nat) : Nat := s.base + s.indexOffset + 528 * t

/-- The tile entry of tile row `t`, tile column `tc`. -/
def Source.tile (s : Source) (mem : Map Byte) (t tc : Nat) : TileEntry :=
  tileEntry (storeBytes mem (s.rowAt t + 16 + 16 * tc) 16)

/-- The declared cost of a tile row for class 0 decoder, 1 rasterizer, 2 placer (R125). -/
def Source.cost (s : Source) (mem : Map Byte) (t cls : Nat) : Nat := ofLe (storeBytes mem (s.rowAt t + 4 * cls) 4)

/-- The block sequence of the first unit of a tile (R132, R200). -/
def Source.seqAt (s : Source) (mem : Map Byte) (tc : Nat) : Nat → Nat
  | 0 => 0
  | t + 1 => s.seqAt mem tc t + (s.tile mem t tc).blocks

/-- The floor of a tile for a class (R127). -/
def tileFloor (e : TileEntry) (cls : Nat) : Nat :=
  if e.kind ≤ kFill then (if cls = 0 then 16384 else 0)
  else if e.kind ≤ kRepeat then (if cls = 0 then 65536 else 0)
  else if e.kind = kTrap then (if cls = 1 then 65536 + 64 * ((e.dataLength - 20) / 16) else 0)
  else if cls = 2 then 65536 + 256 * ((e.dataLength - 12) / 8) else 0

/-- The floor of a tile row for a class (R127). -/
def Source.rowFloor (s : Source) (mem : Map Byte) (t cls : Nat) : Nat :=
  (List.range 32).foldl (fun n tc => n + tileFloor (s.tile mem t tc) cls) 0

/-- The fold of R131. -/
def fold (a b q : Nat) : Nat := ((a * 65536 % 2 ^ 32 + a / 65536 % 65536) ^^^ (b * 2 ^ 27 % 2 ^ 32)) ^^^ q

/-- The check word of R131 over guarded bytes. -/
def foldedCheck (a b q : Nat) (m : List Byte) : Nat := crc32cFrom (0xFFFFFFFF ^^^ fold a b q) m

/-- Samples as little-endian U16 values (R133). -/
def sampleBytes (l : List Nat) : List Byte := l.flatMap (le 2)

/-! ### Reason codes (R216) -/

def rLate : Nat := 1
def rIllegal : Nat := 2
def rDistance : Nat := 3
def rOverrun : Nat := 4
def rUnderrun : Nat := 5
def rPredCheck : Nat := 6
def rTileCheck : Nat := 7
def rCellRef : Nat := 8
def rCellBad : Nat := 9
def rTrapFormat : Nat := 10
def rStore : Nat := 11
def rMemory : Nat := 12

/-! ### Predictive blocks (R134 to R146) -/

/-- A bitstream being read: the bits left, most significant of each byte first (R135), and how many were read. -/
structure Reader where
  bits : List Bool
  used : Nat
  deriving DecidableEq, Repr

/-- The bits of a payload (R135). -/
def payloadBits (l : List Byte) : List Bool := l.flatMap fun b => (List.range 8).map fun i => b.getMsbD i

/-- The value of bits, the first the most significant. -/
def bitsValue (l : List Bool) : Nat := l.foldl (fun v b => 2 * v + b.toNat) 0

/-- Reads `n` bits; beyond the payload PRED_UNDERRUN. -/
def Reader.read (r : Reader) (n : Nat) : Except Nat (Nat × Reader) :=
  if r.bits.length < n then .error rUnderrun
  else .ok (bitsValue (r.bits.take n), { bits := r.bits.drop n, used := r.used + n })

/-- The unary prefix, at most 25; 26 one-bits are PRED_ILLEGAL_CODE (R140). -/
def Reader.unary : Nat → Nat → Reader → Except Nat (Nat × Reader)
  | 0, _, _ => .error rIllegal
  | fuel + 1, u, r => do
    let (b, r1) ← r.read 1
    if b = 0 then .ok (u, r1) else if u = 25 then .error rIllegal else Reader.unary fuel (u + 1) r1

/-- What a symbol is (R140): a value or a command. -/
inductive Symbol where
  | value (m : Nat)
  | stop
  | flush
  | rowCopy
  deriving DecidableEq, Repr

/-- Commands of prefix 25; the others are reserved (R140). -/
def symbolOf (c : Nat) : Except Nat Symbol :=
  if c = 0 then .ok .stop else if c = 1 then .ok .flush else if c = 2 then .ok .rowCopy else .error rIllegal

/-- The adaptive contexts of a block (R145). -/
structure Adapt where
  a : List Nat
  n : List Nat
  deriving DecidableEq, Repr

/-- Every context at the start of a block. -/
def Adapt.start : Adapt := { a := List.replicate 9 16, n := List.replicate 9 1 }

/-- The Rice parameter: the smallest k up to 15 with N · 2^k ≥ A, or 15. -/
def riceFrom : Nat → Nat → Nat → Nat → Nat
  | 0, k, _, _ => k
  | fuel + 1, k, a, n => if n * 2 ^ k < a then riceFrom fuel (k + 1) a n else k

/-- The Rice parameter of a context. -/
def Adapt.rice (x : Adapt) (i : Nat) : Nat := riceFrom 15 0 (x.a.getD i 0) (x.n.getD i 0)

/-- A context after it has coded `m`. -/
def Adapt.coded (x : Adapt) (i m : Nat) : Adapt :=
  let a := x.a.getD i 0 + m
  let n := x.n.getD i 0 + 1
  if n = 64 then { a := x.a.set i (a / 2), n := x.n.set i (n / 2) } else { a := x.a.set i a, n := x.n.set i n }

/-- get(i) of R145. -/
def getSymbol (i : Nat) (x : Adapt) (r : Reader) : Except Nat (Symbol × Adapt × Reader) := do
  let k := x.rice i
  let (u, r1) ← r.unary 27 0
  if u = 25 then
    let (c, r2) ← r1.read 3
    let s ← symbolOf c
    .ok (s, x, r2)
  else
    let (m, r2) ← if u = 24 then r1.read 16 else do
      let (v, r2) ← r1.read k
      .ok (u * 2 ^ k + v, r2)
    if 65535 < m then .error rIllegal else .ok (.value m, x.coded i m, r2)

/-- The context of a residue (R138). -/
def residueContext (s : Nat) : Nat :=
  if s = 0 then 0 else if s < 16 then 1 else if s < 64 then 2 else if s < 256 then 3 else if s < 1024 then 4
  else if s < 4096 then 5 else if s < 16384 then 6 else 7

/-- The neighbours a, a2, b, c of the next pixel, given the samples so far, newest first (sv of R145). -/
structure Near where
  a : Nat
  a2 : Nat
  b : Nat
  c : Nat
  deriving DecidableEq, Repr

/-- The neighbours of the pixel that follows `out` in rows of width `w`. -/
def nearOf (w : Nat) (out : List Nat) : Near :=
  let u := out.length % w
  let v := out.length / w
  let b := if v = 0 then 0 else out.getD (w - 1) 0
  { b := b
    a := if u = 0 then b else out.getD 0 0
    a2 := if u = 0 then b else if u = 1 then (if v = 0 then 0 else out.getD w 0) else out.getD 1 0
    c := if v = 0 then 0 else if u = 0 then (if v = 1 then 0 else out.getD (2 * w - 1) 0) else out.getD w 0 }

/-- Distance of two samples. -/
def gap (x y : Nat) : Nat := (x - y) + (y - x)

/-- The prediction of R137. -/
def Near.predict (p : Near) : Nat :=
  let gv := gap p.a p.c
  let gh := gap p.b p.c
  if gh + 16 ≤ gv then p.a else if gv + 16 ≤ gh then p.b
  else (clampInt 0 65535 ((p.a : Int) + p.b - p.c)).toNat

/-- The context of the pixel's residue (R138). -/
def Near.context (p : Near) : Nat := residueContext (gap p.a p.c + gap p.b p.c)

/-- `n` samples, each a copy of the one `d` rows above (R141, R142): 0 above row 0. -/
def copyRows (w d : Nat) : Nat → List Nat → List Nat
  | 0, out => out
  | n + 1, out => copyRows w d n ((if out.length < d * w then 0 else out.getD (d * w - 1) 0) :: out)

/-- The sample of a residue's mapped value `m` (R139). -/
def residueSample (p m : Nat) : Nat :=
  if m % 2 = 1 then (p + 65536 - (m + 1) / 2) % 65536 else (p + m / 2) % 65536

/-- The end of a block: padding zero, nothing left over (R144, R145). -/
def finishBlock (out : List Nat) (r : Reader) : Except Nat (List Nat) :=
  let pad := (8 - r.used % 8) % 8
  if (r.bits.take pad).any id then .error rIllegal
  else if pad < r.bits.length then .error rOverrun
  else .ok out

/-- What one symbol of a block leads to: further pixels, or the block's end by FLUSH. -/
inductive PixelStep where
  | more (out : List Nat) (x : Adapt) (r : Reader)
  | flushed (out : List Nat) (r : Reader)

/-- The symbols of the next pixel of a block (R145); `stop` is the number of samples of the tile at the block's end. -/
def pixelStep (w stop : Nat) (out : List Nat) (x : Adapt) (r : Reader) : Except Nat PixelStep := do
  let p := nearOf w out
  let left := stop - out.length
  let (flag, r1) ← if p.a = p.a2 then r.read 1 else .ok (0, r)
  if flag = 1 then
    let (s, x1, r2) ← getSymbol 8 x r1
    match s with
    | .value m =>
      if left < m + 1 then .error rOverrun else .ok (.more (List.replicate (m + 1) p.a ++ out) x1 r2)
    | _ => .error rIllegal
  else
    let (s, x1, r2) ← getSymbol p.context x r1
    match s with
    | .value m => .ok (.more (residueSample p.predict m :: out) x1 r2)
    | .stop => .error rUnderrun
    | .flush => .ok (.flushed (copyRows w 1 left out) r2)
    | .rowCopy =>
      let (d, r3) ← r2.read 8
      let (c, r4) ← r3.read 16
      if d = 0 then .error rIllegal
      else if out.length / w < d then .error rDistance
      else if left < c + 1 then .error rOverrun
      else .ok (.more (copyRows w d (c + 1) out) x1 r4)

/-- The END that follows a block's last pixel (R144, R145). -/
def readEnd (out : List Nat) (r : Reader) : Except Nat (List Nat) := do
  let (u, r1) ← r.unary 27 0
  if u ≠ 25 then .error rOverrun
  else
    let (c, r2) ← r1.read 3
    if 2 < c then .error rIllegal else if c ≠ 0 then .error rOverrun else finishBlock out r2

/-- The pixels of a block (R145). -/
def decodePixels (w stop : Nat) : Nat → List Nat → Adapt → Reader → Except Nat (List Nat)
  | 0, _, _, _ => .error rUnderrun
  | fuel + 1, out, x, r =>
    if stop ≤ out.length then readEnd out r
    else
      match pixelStep w stop out x r with
      | .error e => .error e
      | .ok (.flushed o r1) => finishBlock o r1
      | .ok (.more o x1 r1) => decodePixels w stop fuel o x1 r1

/-- A block decoded up to `goal` samples of the tile, or up to the symbol that it cannot read or that ends it. -/
def decodeUntil (w stop goal : Nat) : Nat → List Nat → Adapt → Reader → List Nat × Adapt × Reader
  | 0, out, x, r => (out, x, r)
  | fuel + 1, out, x, r =>
    if goal ≤ out.length ∨ stop ≤ out.length then (out, x, r)
    else
      match pixelStep w stop out x r with
      | .ok (.more o x1 r1) => decodeUntil w stop goal fuel o x1 r1
      | _ => (out, x, r)

/-- The header of a block that passes R134 and R146: its rows, its payload's place and length, where the next block begins. -/
structure BlockHead where
  rows : Nat
  at_ : Nat
  pay : Nat
  next : Nat

/-- The header of one block of a tile or cell (R134, R146): data of the whole tile, the byte offset of the block, the block's
place among BLOCKS, samples already decoded. A block of up to 1,024 rows is decoded, in a cell too (log entry 92). -/
def blockHead (w size blocks : Nat) (data : List Byte) (off i : Nat) (out : List Nat) : Except Nat BlockHead :=
  let rows := field data off 2
  let pay := field data (off + 4) 4
  let next := off + 8 + pay + 4
  let have_ := out.length / w
  if data.length < off + 8 then .error rUnderrun
  else if rows = 0 ∨ field data (off + 2) 2 ≠ 0 then .error rIllegal
  else if size - have_ < rows then .error rOverrun
  else if data.length < next then .error rUnderrun
  else if i + 1 = blocks ∧ have_ + rows < size then .error rUnderrun
  else if i + 1 = blocks ∧ next < data.length then .error rOverrun
  else .ok { rows := rows, at_ := off + 8, pay := pay, next := next }

/-- How far the decoding of a block has come: the samples it has, newest first, the adaptive contexts, and the payload bits
read. -/
structure Resume where
  part : List Nat
  adapt : Adapt
  bitPos : Nat

/-- The start of a block. -/
def Resume.start : Resume := { part := [], adapt := Adapt.start, bitPos := 0 }

/-- The reader of a block's payload from where a decoding has come to. -/
def BlockHead.reader (h : BlockHead) (data : List Byte) (z : Resume) : Reader :=
  { bits := (payloadBits (slice data h.at_ h.pay)).drop z.bitPos, used := z.bitPos }

/-- One block of a tile or cell from where its decoding has come to (R134, R145, R146): decoded, and its samples checked.
Answers the samples of the tile (newest first) and the offset of the next block. -/
def predBlockFrom (z : Resume) (w size blocks : Nat) (data : List Byte) (off i a b q : Nat) (out : List Nat) :
    Except Nat (List Nat × Nat) := do
  let h ← blockHead w size blocks data off i out
  let total := h.rows * w
  let o ← decodePixels w (out.length + total) (total + 1) (z.part ++ out) z.adapt (h.reader data z)
  if foldedCheck a b q (sampleBytes (o.take total).reverse) = field data (h.at_ + h.pay) 4 then .ok (o, h.next)
  else .error rPredCheck

/-- One whole block of a tile or cell. -/
def predBlock (w size blocks : Nat) (data : List Byte) (off i a b q : Nat) (out : List Nat) :
    Except Nat (List Nat × Nat) := predBlockFrom Resume.start w size blocks data off i a b q out

/-- The samples of a block, newest first, that its check unit has been fed when the block ends or fails. -/
def fedSamples (z : Resume) (w size blocks : Nat) (data : List Byte) (off i : Nat) (out : List Nat) : List Nat :=
  match blockHead w size blocks data off i out with
  | .error _ => z.part
  | .ok h =>
    let total := h.rows * w
    let stop := out.length + total
    let o := match decodePixels w stop (total + 1) (z.part ++ out) z.adapt (h.reader data z) with
      | .ok o => o
      | .error _ => (decodeUntil w stop stop (total + 1) (z.part ++ out) z.adapt (h.reader data z)).1
    o.take (o.length - out.length)

/-- A block's decoding goes on until it has `goal` samples at least. -/
def Resume.goOn (z : Resume) (w size blocks : Nat) (data : List Byte) (off i goal : Nat) (out : List Nat) : Resume :=
  match blockHead w size blocks data off i out with
  | .error _ => z
  | .ok h =>
    let total := h.rows * w
    let (o, x, r) := decodeUntil w (out.length + total) (out.length + goal) (total + 1) (z.part ++ out) z.adapt
      (h.reader data z)
    { part := o.take (o.length - out.length), adapt := x, bitPos := r.used }

/-- The value r of R212 of a folded CRC-32C after guarded bytes. -/
def checkRegister (a b q : Nat) (m : List Byte) : Nat := bitRev 32 (crcRun crcPoly (bitRev 32 (0xFFFFFFFF ^^^ fold a b q)) m)

/-- The outcome of expanding units: the samples in row order, and the failure: reason, first row it covers, block
sequence of the failed unit. -/
structure Expanded where
  samples : List Nat
  fail : Option (Nat × Nat × Nat)
  deriving DecidableEq, Repr

/-- All blocks of a tile or cell from block `i` on (R136, R217). -/
def predBlocks (w size blocks : Nat) (data : List Byte) (a b q0 : Nat) : Nat → Nat → Nat → List Nat → Expanded
  | 0, _, _, out => { samples := out.reverse, fail := none }
  | n + 1, i, off, out =>
    match predBlock w size blocks data off i a b (q0 + i) out with
    | .ok (o, next) => predBlocks w size blocks data a b q0 n (i + 1) next o
    | .error e => { samples := out.reverse, fail := some (e, out.length / w, q0 + i) }

/-! ### Cells (R147 to R150) -/

/-- A cell of the cache: its raster row by row, or the reason and block of its failure (R226), and the bytes of its
cache form. -/
structure CellData where
  size : Nat
  raster : List Nat
  fail : Option (Nat × Nat)
  bytes : Nat
  deriving DecidableEq, Repr

/-- A placement record (R148). -/
structure Placement where
  cell : Nat
  dx : Int
  dy : Int
  scale : Nat
  deriving DecidableEq, Repr

/-- The placement record in 8 bytes. -/
def placement (b : List Byte) : Placement where
  cell := field b 0 2
  dx := sfield b 2 2
  dy := sfield b 4 2
  scale := field b 6 2

/-- The placements of a CELL tile's data. -/
def placements (data : List Byte) (n : Nat) : List Placement :=
  (List.range n).map fun i => placement (slice data (8 + 8 * i) 8)

/-- The CELL_REF tests of R150. -/
def cellRefFails (data : List Byte) (cellCount : Nat) : Bool :=
  let n := (data.length - 12) / 8
  decide (field data 0 2 ≠ n ∨ field data 2 6 ≠ 0) ||
    (placements data n).any fun p =>
      decide (cellCount ≤ p.cell ∨ p.dx < -1024 ∨ 255 < p.dx ∨ p.dy < -1024 ∨ 255 < p.dy)

/-- What a placement adds to pixel (u, v) (R149). -/
def placed (cells : Map CellData) (u v : Nat) (p : Placement) : Nat :=
  match Map.find cells p.cell with
  | none => 0
  | some c =>
    let cu := (u : Int) - p.dx
    let cv := (v : Int) - p.dy
    if 0 ≤ cu ∧ cu < c.size ∧ 0 ≤ cv ∧ cv < c.size then
      (c.raster.getD (cv.toNat * c.size + cu.toNat) 0 * p.scale + 8192) / 16384
    else 0

/-- Whether a placed cell failed its decoding (CELL_BAD). -/
def cellBad (cells : Map CellData) (p : Placement) : Bool :=
  match Map.find cells p.cell with
  | none => true
  | some c => c.fail.isSome

/-- The pixels of a 256 × 256 tile from a function of (u, v). -/
def tilePixels (f : Nat → Nat → Nat) : List Nat :=
  (List.range 256).flatMap fun v => (List.range 256).map fun u => f u v

/-- A CELL tile's samples (R149, R150, R154). -/
def cellTile (cells : Map CellData) (cellCount : Nat) (data : List Byte) : Except Nat (List Nat) :=
  let ps := placements data ((data.length - 12) / 8)
  if cellRefFails data cellCount then .error rCellRef
  else if ps.any (cellBad cells) then .error rCellBad
  else .ok (tilePixels fun u v => min 65535 (ps.foldl (fun n p => n + placed cells u v p) 0))

/-! ### Trapezoids (R151 to R153) -/

/-- A trapezoid record (R151). -/
structure Trapezoid where
  y0 : Int
  y1 : Int
  xl0 : Int
  xr0 : Int
  xl1 : Int
  xr1 : Int
  level : Nat
  reserved : Nat
  deriving DecidableEq, Repr

/-- The trapezoid record in 16 bytes. -/
def trapezoid (b : List Byte) : Trapezoid where
  y0 := sfield b 0 2
  y1 := sfield b 2 2
  xl0 := sfield b 4 2
  xr0 := sfield b 6 2
  xl1 := sfield b 8 2
  xr1 := sfield b 10 2
  level := field b 12 2
  reserved := field b 14 2

/-- A coordinate is within −4,096 to 8,192. -/
def trapCoord (x : Int) : Bool := decide (-4096 ≤ x ∧ x ≤ 8192)

/-- A trapezoid breaks R152. -/
def Trapezoid.bad (t : Trapezoid) : Bool :=
  decide (t.reserved ≠ 0 ∨ t.y1 ≤ t.y0 ∨ t.xr0 < t.xl0 ∨ t.xr1 < t.xl1) ||
    ¬ ([t.y0, t.y1, t.xl0, t.xr0, t.xl1, t.xr1].all trapCoord)

/-- edge_x of R153: division rounds toward minus infinity. -/
def edgeX (x0 x1 y0 y1 k : Int) : Int :=
  let den := 2 * (y1 - y0)
  let num := 2 * x0 * (y1 - y0) + (x1 - x0) * (2 * k + 1 - 2 * y0)
  (2 * num + den) / (2 * den)

/-- coverage of R153. -/
def Trapezoid.coverage (t : Trapezoid) (u v : Nat) : Nat :=
  (List.range 16).foldl (fun cov (i : Nat) =>
    let k : Int := 16 * v + i
    if k < t.y0 ∨ t.y1 ≤ k then cov
    else
      let lo := max (edgeX t.xl0 t.xl1 t.y0 t.y1 k) (16 * u)
      let hi := min (edgeX t.xr0 t.xr1 t.y0 t.y1 k) (16 * u + 16)
      if lo < hi then cov + (hi - lo).toNat else cov) 0

/-- The trapezoids of a TRAP tile's data. -/
def trapezoids (data : List Byte) (n : Nat) : List Trapezoid :=
  (List.range n).map fun i => trapezoid (slice data (16 + 16 * i) 16)

/-- A TRAP tile's samples (R152, R153). -/
def trapTile (data : List Byte) : Except Nat (List Nat) :=
  let n := (data.length - 20) / 16
  let ts := trapezoids data n
  if field data 0 2 ≠ n ∨ field data 2 14 ≠ 0 ∨ ts.any Trapezoid.bad then .error rTrapFormat
  else .ok (tilePixels fun u v => min 65535 (ts.foldl (fun s t => s + (t.coverage u v * t.level + 128) / 256) 0))

/-! ### Whole tiles (R128, R154) -/

/-- The data bytes of a tile. -/
def Source.data (s : Source) (mem : Map Byte) (e : TileEntry) : List Byte :=
  storeBytes mem (s.base + e.dataOffset) e.dataLength

/-- The check word of a RAW, CELL or TRAP tile holds (R133). -/
def tileCheckOk (a tc q : Nat) (data : List Byte) : Bool :=
  decide (foldedCheck a tc q (data.take (data.length - 4)) = field data (data.length - 4) 4)

/-- The samples of a RAW tile. -/
def rawSamples (data : List Byte) : List Nat := (List.range 65536).map fun i => field data (2 * i) 2

/-- A tile other than PRED and REPEAT, whole: EMPTY, FILL, RAW, CELL, TRAP (R128, R154). -/
def wholeTile (cells : Map CellData) (cellCount : Nat) (e : TileEntry) (data : List Byte) (a tc q : Nat) :
    Except Nat (List Nat) :=
  if e.kind = kEmpty then .ok (List.replicate 65536 0)
  else if e.kind = kFill then .ok (List.replicate 65536 e.level)
  else if ¬ tileCheckOk a tc q data then .error rTileCheck
  else if e.kind = kRaw then .ok (rawSamples data)
  else if e.kind = kCell then cellTile cells cellCount data
  else trapTile data

/-- The tile row whose tile a REPEAT chain resolves to (R129). -/
def Source.chain (s : Source) (mem : Map Byte) (tc : Nat) : Nat → Nat
  | 0 => 0
  | t + 1 => if (s.tile mem (t + 1) tc).kind = kRepeat then s.chain mem tc t else t + 1

/-- The samples of a tile, its chain resolved, and its failure (R128 to R130, R217). -/
def Source.expand (s : Source) (mem : Map Byte) (cells : Map CellData) (cellCount t tc : Nat) : Expanded :=
  let t0 := s.chain mem tc t
  let e := s.tile mem t0 tc
  let q := s.seqAt mem tc t0
  let x :=
    if e.kind = kPred then predBlocks 256 256 e.blocks (s.data mem e) s.foldA tc q e.blocks 0 0 []
    else
      match wholeTile cells cellCount e (s.data mem e) s.foldA tc q with
      | .ok l => { samples := l, fail := none }
      | .error r => { samples := [], fail := some (r, 0, q) }
  if t0 = t then x
  else match x.fail with
    | some (r, _, _) => { samples := [], fail := some (r, 0, s.seqAt mem tc t) }
    | none => x

/-- The samples of row `v` of a tile column's tile, 256 of them, and the reason they are missing (0 for none). -/
def Expanded.row (x : Expanded) (v : Nat) : List Nat × Nat :=
  match x.fail with
  | some (r, first, _) => if first ≤ v then (List.replicate 256 0, r) else ((x.samples.drop (256 * v)).take 256, 0)
  | none => ((x.samples.drop (256 * v)).take 256, 0)

/-! ### The compressor (R227) -/

/-- Bits of `v`, the most significant first. -/
def msbBits : Nat → Nat → List Bool
  | 0, _ => []
  | n + 1, v => decide (v / 2 ^ n % 2 = 1) :: msbBits n v

/-- A value coded in a context, and the context after it (R140). -/
def codeValue (x : Adapt) (i m : Nat) : List Bool × Adapt :=
  let k := x.rice i
  let u := m / 2 ^ k
  let bits := if u ≤ 23 then List.replicate u true ++ [false] ++ msbBits k (m % 2 ^ k)
    else List.replicate 24 true ++ [false] ++ msbBits 16 m
  (bits, x.coded i m)

/-- A command (R140). -/
def codeCommand (c : Nat) : List Bool := List.replicate 25 true ++ [false] ++ msbBits 3 c

/-- The mapped value of a residue (R139). -/
def mappedResidue (p s : Nat) : Nat :=
  let e := (s + 65536 - p) % 65536
  if e < 32768 then 2 * e else 2 * (65536 - e) - 1

/-- How many of the first `n` samples equal `a`. -/
def runOf (a : Nat) : Nat → List Nat → Nat
  | 0, _ => 0
  | _ + 1, [] => 0
  | n + 1, s :: l => if s = a then 1 + runOf a n l else 0

/-- The bits of a block's pixels: `todo` in row order, `out` the history, newest first (R227). -/
def codePixels (w : Nat) : Nat → List Nat → List Nat → Adapt → List Bool
  | 0, _, _, _ => []
  | fuel + 1, todo, out, x =>
    match todo with
    | [] => []
    | s :: _ =>
      let p := nearOf w out
      let u := out.length % w
      let row := todo.take w
      if u = 0 ∧ 0 < out.length ∧ row = (out.take w).reverse then
        [false] ++ codeCommand 2 ++ msbBits 8 1 ++ msbBits 16 (w - 1) ++
          codePixels w fuel (todo.drop w) (row.reverse ++ out) x
      else
        let r := runOf p.a (w - u) todo
        if p.a = p.a2 ∧ 2 ≤ r then
          let (b, x1) := codeValue x 8 (r - 1)
          [true] ++ b ++ codePixels w fuel (todo.drop r) (List.replicate r p.a ++ out) x1
        else
          let (b, x1) := codeValue x p.context (mappedResidue p.predict s)
          (if p.a = p.a2 then [false] else []) ++ b ++ codePixels w fuel (todo.drop 1) (s :: out) x1

/-- Bits packed into bytes, the last padded with zero. -/
def packBits : Nat → List Bool → List Byte
  | 0, _ => []
  | fuel + 1, l =>
    match l with
    | [] => []
    | _ => BitVec.ofNat 8 (bitsValue (l.take 8 ++ List.replicate (8 - (l.take 8).length) false)) :: packBits fuel (l.drop 8)

/-- One block of the compressor's output with its check word (R134, R227). -/
def codeBlock (w a b q : Nat) (rows : List Nat) (out : List Nat) : List Byte :=
  let bits := codePixels w (rows.length + 1) rows out Adapt.start ++ codeCommand 0
  let pay := packBits (bits.length / 8 + 1) bits
  le 2 (rows.length / w) ++ le 2 0 ++ le 4 pay.length ++ pay ++ le 4 (foldedCheck a b q (sampleBytes rows))

/-- A raster of rows of width `w` as PRED blocks of 16 rows (R227); `q` is the block sequence of the first. -/
def compress (w a b : Nat) : Nat → Nat → List Nat → List Nat → List Byte
  | 0, _, _, _ => []
  | n + 1, q, todo, out =>
    if todo = [] then []
    else
      let rows := todo.take (16 * w)
      codeBlock w a b q rows out ++ compress w a b n (q + 1) (todo.drop (16 * w)) (rows.reverse ++ out)

/-- The blocks that the compressor forms of `rows` rows. -/
def compressBlocks (rows : Nat) : Nat := (rows + 15) / 16

/-! ### Checks at acceptance (R155) -/

/-- A package fault: the code of R155 and what 0x4001 and 0x2015 report; absent fields read all ones. -/
structure PackageFault where
  code : Nat
  offset : Nat
  stripe : Nat
  tileRow : Nat
  column : Nat
  cell : Nat
  deriving DecidableEq, Repr

/-- A fault of the header or a section. -/
def headerFault (code offset : Nat) : PackageFault :=
  { code := code, offset := offset, stripe := 0xFFFFFFFF, tileRow := 0xFFFFFFFF, column := 0xFF, cell := 0xFFFFFFFF }

/-- A package: its bytes by package offset, and its length. -/
structure Package where
  base : Nat
  length : Nat
  deriving DecidableEq, Repr

/-- `n` bytes of a package from a package offset on. -/
def Package.bytes (p : Package) (mem : Map Byte) (off n : Nat) : List Byte := storeBytes mem (p.base + off) n

/-- A header field. -/
def Package.head (p : Package) (mem : Map Byte) (off n : Nat) : Nat := field (p.bytes mem 0 256) off n

def Package.stripeCount (p : Package) (mem : Map Byte) : Nat := p.head mem 32 4
def Package.cellCount (p : Package) (mem : Map Byte) : Nat := p.head mem 36 4
def Package.stripeTable (p : Package) (mem : Map Byte) : Nat := p.head mem 40 8
def Package.cellDir (p : Package) (mem : Map Byte) : Nat := p.head mem 48 8
def Package.doseScale (p : Package) (mem : Map Byte) : Nat := p.head mem 56 2
def Package.headerCrc (p : Package) (mem : Map Byte) : Nat := p.head mem 252 4

/-- Stripe entry `i`. -/
def Package.stripe (p : Package) (mem : Map Byte) (i : Nat) : StripeEntry :=
  stripeEntry (p.bytes mem (p.stripeTable mem + 64 * i) 64)

/-- Stripe `i` as a source of tiles. -/
def Package.source (p : Package) (mem : Map Byte) (i : Nat) : Source :=
  let e := p.stripe mem i
  { base := p.base, foldA := i, indexOffset := e.indexOffset, length := e.length, tileRows := e.tileRows }

/-- Whether `n` bytes from a package offset lie within bytes 256 to PACKAGE_LENGTH − 1. -/
def Package.inside (p : Package) (off n : Nat) : Bool := decide (256 ≤ off ∧ off + n ≤ p.length)

/-- Place of the first byte of a list that is not zero. -/
def firstNonZero (l : List Byte) : Option Nat := l.findIdx? fun b => b ≠ 0

/-- The tests 0x01 to 0x05 of R155: JOB_PACKAGE_OFFSET, then the header in order, which fields of
one code follow too (log entry 92). `version` is 0x4000. -/
def Package.headerFaults (p : Package) (mem : Map Byte) (version : Nat) : Option PackageFault :=
  let h := p.bytes mem 0 256
  let stripes := p.stripeCount mem
  let cells := p.cellCount mem
  let tests : List (Bool × PackageFault) :=
    [(decide (p.base % 64 ≠ 0), headerFault 1 0),
     (decide (h.take 4 ≠ [0x4B, 0x4C, 0x46, 0x00]), headerFault 1 0),
     (decide (field h 5 1 ≠ 1 ∨ version % 256 < field h 4 1), headerFault 1 4),
     (decide (field h 6 2 ≠ 256), headerFault 1 6),
     (decide (crc32c (h.take 252) ≠ field h 252 4), headerFault 2 252),
     ((firstNonZero (slice h 58 194)).isSome, headerFault 2 (58 + (firstNonZero (slice h 58 194)).getD 0)),
     (decide (field h 8 8 ≠ p.length), headerFault 3 8),
     (decide (stripes = 0 ∨ 1048576 < stripes), headerFault 4 32),
     (decide (65536 < cells), headerFault 4 36),
     (decide ((p.cellDir mem = 0 ∧ 0 < cells) ∨ (p.cellDir mem ≠ 0 ∧ cells = 0)), headerFault 4 48),
     (decide (p.stripeTable mem % 64 ≠ 0) || ¬ p.inside (p.stripeTable mem) (64 * stripes), headerFault 5 40),
     (decide (0 < cells) && (decide (p.cellDir mem % 64 ≠ 0) || ¬ p.inside (p.cellDir mem) (16 * cells + 4)),
       headerFault 5 48)]
  (tests.find? (·.1)).map (·.2)

/-- A cell directory entry (R147): SIZE, BLOCKS, DATA_LENGTH, DATA_OFFSET. -/
def Package.cellEntry (p : Package) (mem : Map Byte) (i : Nat) : List Byte := p.bytes mem (p.cellDir mem + 16 * i) 16

/-- An entry breaks R147, or its data lies outside the package. -/
def Package.cellEntryBad (p : Package) (e : List Byte) : Bool :=
  decide (field e 0 2 < 16 ∨ 1024 < field e 0 2 ∨ field e 2 2 < 1 ∨ 1024 < field e 2 2 ∨ field e 8 8 % 64 ≠ 0
    ∨ p.length < field e 8 8 + field e 4 4)

/-- Test 0x06. -/
def Package.cellFault (p : Package) (mem : Map Byte) : Option PackageFault :=
  let n := p.cellCount mem
  let dir := p.bytes mem (p.cellDir mem) (16 * n)
  if n = 0 then none
  else if crc32c dir ≠ ofLe (p.bytes mem (p.cellDir mem + 16 * n) 4) then some (headerFault 6 (p.cellDir mem))
  else
    ((List.range n).find? fun i => p.cellEntryBad (p.cellEntry mem i)).map fun i =>
      { headerFault 6 (p.cellDir mem + 16 * i) with cell := i }

/-- A stripe entry's check and reserved bytes (test 0x07). -/
def stripeEntryBad (b : List Byte) : Bool :=
  decide (crc32c (b.take 60) ≠ field b 60 4) || (firstNonZero (slice b 25 35)).isSome

/-- A stripe entry's values (test 0x08), for offsets whose permitted bytes are `lo` to `hi − 1`. -/
def stripeValuesBad (lo hi : Nat) (e : StripeEntry) : Bool :=
  decide (e.length < 1 ∨ 33554432 < e.length ∨ e.tileRows ≠ (e.length + 255) / 256 ∨ 1 < e.direction
    ∨ e.indexOffset % 64 ≠ 0 ∨ e.indexOffset < lo ∨ hi < e.indexOffset + 528 * e.tileRows)

/-- A tile-row record's check fails (test 0x09). -/
def rowCheckBad (b : List Byte) : Bool := decide (crc32c (b.take 12 ++ slice b 16 512) ≠ field b 12 4)

/-- A tile entry's form (test 0x0A). -/
def tileFormBad (b : List Byte) : Bool :=
  let e := tileEntry b
  if e.kind = kEmpty ∨ e.kind = kRepeat then decide (e.blocks ≠ 0 ∨ field b 4 8 ≠ 0 ∨ e.dataLength ≠ 0)
  else if e.kind = kFill then decide (e.blocks ≠ 0 ∨ field b 6 6 ≠ 0 ∨ e.dataLength ≠ 0)
  else if e.kind = kRaw then decide (e.blocks ≠ 1 ∨ e.dataLength ≠ 131076 ∨ e.dataOffset % 64 ≠ 0)
  else if e.kind = kPred then
    decide (e.blocks < 1 ∨ 16 < e.blocks ∨ e.dataLength < 1 ∨ 1048576 < e.dataLength ∨ e.dataOffset % 64 ≠ 0)
  else if e.kind = kCell then
    decide (e.blocks ≠ 1 ∨ e.dataLength < 20 ∨ 12 + 8 * 4096 < e.dataLength ∨ (e.dataLength - 12) % 8 ≠ 0
      ∨ e.dataOffset % 64 ≠ 0)
  else if e.kind = kTrap then
    decide (e.blocks ≠ 1 ∨ e.dataLength < 36 ∨ 20 + 16 * 4096 < e.dataLength ∨ (e.dataLength - 20) % 16 ≠ 0
      ∨ e.dataOffset % 64 ≠ 0)
  else true

/-- A tile whose data the package holds. -/
def TileEntry.hasData (e : TileEntry) : Bool := decide (2 ≤ e.kind ∧ e.kind ≠ kRepeat)

/-- The first tile row of a stripe that a test fails. -/
def firstRow (s : Source) (bad : Nat → Bool) : Option Nat := (List.range s.tileRows).find? bad

/-- The first tile of a stripe that a test fails: tile row and column. -/
def firstTile (s : Source) (bad : Nat → Nat → Bool) : Option (Nat × Nat) :=
  (List.range s.tileRows).findSome? fun t => ((List.range 32).find? (bad t)).map fun tc => (t, tc)

/-- A tile-row record's fault. -/
def rowFault (code off stripe : Nat) (s : Source) (t : Nat) : PackageFault :=
  { headerFault code (off + s.indexOffset + 528 * t) with stripe := stripe, tileRow := t }

/-- A tile entry's fault. -/
def tileFault (code off stripe : Nat) (s : Source) (x : Nat × Nat) : PackageFault :=
  { headerFault code (off + s.indexOffset + 528 * x.1 + 16 + 16 * x.2) with
    stripe := stripe, tileRow := x.1, column := x.2 }

/-- Tests 0x09 to 0x0D of one stripe as a source whose bytes `lo` to `hi − 1` may hold data, test by test. -/
def Source.rowFaults (s : Source) (mem : Map Byte) (stripe lo hi : Nat) : List (Nat × Option PackageFault) :=
  [(9, (firstRow s fun t => rowCheckBad (storeBytes mem (s.rowAt t) 528)).map (rowFault 9 0 stripe s)),
   (10, (firstTile s fun t tc => tileFormBad (storeBytes mem (s.rowAt t + 16 + 16 * tc) 16)).map
      (tileFault 10 0 stripe s)),
   (11, (firstTile s fun t tc =>
      let e := s.tile mem t tc
      e.hasData && decide (e.dataOffset < lo ∨ hi < e.dataOffset + e.dataLength)).map (tileFault 11 0 stripe s)),
   (12, (firstTile s fun t tc => decide (t = 0 ∧ (s.tile mem t tc).kind = kRepeat)).map (tileFault 12 0 stripe s)),
   (13, (firstRow s fun t => (List.range 3).any fun c => decide (s.cost mem t c < s.rowFloor mem t c)).map
      (rowFault 13 0 stripe s))]

/-- The first fault of one test over all stripes. -/
def Package.overStripes (p : Package) (mem : Map Byte) (test : Nat → Option PackageFault) : Option PackageFault :=
  (List.range (p.stripeCount mem)).findSome? test

/-- The tests of R155 in order: the first fault of the package. -/
def Package.fault (p : Package) (mem : Map Byte) (version : Nat) : Option PackageFault :=
  let entryOff (i : Nat) := p.stripeTable mem + 64 * i
  let rowTest (code i : Nat) : Option PackageFault :=
    ((p.source mem i).rowFaults mem i 256 p.length).findSome? fun x => if x.1 = code then x.2 else none
  let tests : List (Unit → Option PackageFault) :=
    [fun _ => p.headerFaults mem version, fun _ => p.cellFault mem,
     fun _ => p.overStripes mem fun i =>
       if stripeEntryBad (p.bytes mem (entryOff i) 64) then some { headerFault 7 (entryOff i) with stripe := i } else none,
     fun _ => p.overStripes mem fun i =>
       if stripeValuesBad 256 p.length (p.stripe mem i) then some { headerFault 8 (entryOff i) with stripe := i } else none,
     fun _ => p.overStripes mem (rowTest 9), fun _ => p.overStripes mem (rowTest 10),
     fun _ => p.overStripes mem (rowTest 11), fun _ => p.overStripes mem (rowTest 12),
     fun _ => p.overStripes mem (rowTest 13)]
  tests.findSome? fun f => f ()

/-! ### The cell library (R225 to R227) -/

/-- A cell decoded from the package, with the bytes of its cache form. -/
def Package.cell (p : Package) (mem : Map Byte) (i : Nat) : CellData :=
  let e := p.cellEntry mem i
  let size := field e 0 2
  let data := p.bytes mem (field e 8 8) (field e 4 4)
  let a := 0xFFFFFFFF - i
  let x := predBlocks size size (field e 2 2) data a 0 0 (field e 2 2) 0 0 []
  match x.fail with
  | some (r, _, b) => { size := size, raster := [], fail := some (r, b), bytes := 0 }
  | none =>
    { size := size, raster := x.samples, fail := none,
      bytes := (compress size a 0 (compressBlocks size) 0 x.samples []).length }

/-- Every cell of the library. -/
def Package.cells (p : Package) (mem : Map Byte) : Map CellData :=
  (List.range (p.cellCount mem)).map fun i => (i, p.cell mem i)

/-- Bytes of cache form held. -/
def cacheBytes (l : Map CellData) : Nat := l.foldl (fun n c => n + c.2.bytes) 0

/-- The first cell that does not fit the cache, with the bytes up to and including it (R225). -/
def firstUnfit (capacity : Nat) : Nat → Map CellData → Option (Nat × Nat)
  | _, [] => none
  | n, c :: l => if capacity < n + c.2.bytes then some (c.1, n + c.2.bytes) else firstUnfit capacity (n + c.2.bytes) l

end Sys2Proof.Machine
end

