-- ==== Sys2Proof/Machine/State.lean ====
section
/-!
DEFINITION. Sys2Proof/Machine/State.lean: the state of the block as plain data, its stops and the state after reset.
`Dev` is the device; `State` adds the layout store's bytes and the queue of waiting commands. The dictionary's
numbers are the one home of every status and setting that the object tables list; the structures below hold what
the spec gives the machine beside them.
-/
namespace Sys2Proof.Machine

/-! ### Control: sessions, mailbox, modes (03_control_and_modes) -/

/-- The twelve operating modes (R91). -/
inductive Mode where
  | off | keep | wake | test | setup | ready | measure | write | hold | mend | service | safe
  deriving DecidableEq, Repr

/-- What a response echoes of its request (R70), with the sender. -/
structure Query where
  sender : Sender
  session : Nat
  sequence : Nat
  op : Nat
  index : Nat
  sub : Nat
  offset : Nat
  deriving DecidableEq, Repr

/-- A transfer of WRITE_BLOCK chunks in a staging buffer (R73): the object and the bytes so far. -/
structure Staging where
  index : Nat
  sub : Nat
  bytes : List Byte
  /-- RAW of the last chunk (R74). -/
  at_ : Nat
  deriving DecidableEq, Repr

/-- An open session (R87 to R89). -/
structure Session where
  /-- The sender of the opening request; the binding of R88. -/
  bound : Sender
  /-- The sender of the most recent request (R79). -/
  last : Sender
  /-- SEQUENCE of the last completed request and its kept response (R81). -/
  kept : Option (Nat × Msg)
  /-- SEQUENCE of the request in execution (R80). -/
  running : Option Nat
  staged : Option Staging
  /-- A staged transfer was discarded by time: the next chunk is refused with TIMEOUT (R74). -/
  timedOut : Bool
  /-- A staged transfer was lost to a memory error: the next chunk is refused with CHECK (R494, array 14). -/
  spoiled : Bool
  /-- NOTIFY messages sent (R79). -/
  notified : Nat
  /-- RAW of the last request (R89). -/
  at_ : Nat
  deriving DecidableEq, Repr

/-- A subscription (R77, R78). -/
structure Subscription where
  session : Nat
  index : Nat
  sub : Nat
  period : Nat
  /-- RAW of the last NOTIFY, or of the SUBSCRIBE. -/
  at_ : Nat
  /-- The value at the last NOTIFY, or at the SUBSCRIBE. -/
  value : List Byte
  deriving DecidableEq, Repr

/-- The control plane's own state: sessions, subscriptions and the BAR2 mailbox (R84). -/
structure Cop where
  sessions : Map Session
  subs : List Subscription
  /-- BAR2 registers MBn_STATUS, MBn_IRQ_ENABLE and MBn_NOTIFY_LOST by byte offset in BAR2. -/
  bar2 : Map Nat
  /-- MBn_REQ, MBn_RESP and MBn_NOTIFY by byte offset in BAR2; all zero where absent. -/
  areas : Map (List Byte)
  deriving DecidableEq, Repr

/-! ### Event recorder, counters and tagging (17_recorder_and_counters) -/

/-- An event record (R526), without the SEQUENCE while it waits for the keeper. -/
structure EventRecord where
  seq : Nat
  code : Nat
  source : Nat
  time : Nat
  params : List Nat
  deriving DecidableEq, Repr

/-- The recorder (R532, R533). Lists are oldest first. -/
structure Recorder where
  /-- Events that the keeper has not yet accepted: at most 1,024 (R533). -/
  queue : List EventRecord
  /-- Records dropped since the last 0x12F1, and the code of the first of them. -/
  dropped : Nat
  dropCode : Nat
  first : List EventRecord
  start : List EventRecord
  ring : List EventRecord
  deriving DecidableEq, Repr

/-- A tag record (R544). -/
structure TagRecord where
  kind : Nat
  /-- 1 in flight, 2 complete, 3 abandoned (R544); a record that is free is not listed. -/
  state : Nat
  seq : Nat
  identity : List Byte
  stamps : Map Nat
  extra : List Byte
  deriving DecidableEq, Repr

/-- Random tagging (R543 to R545). -/
structure Tagging where
  lfsr : Nat
  /-- Tags since ON was set. -/
  seq : Nat
  records : Map TagRecord
  deriving DecidableEq, Repr

/-! ### Dose ledger, journal and recovery (13_dose_ledger_and_recovery) -/

/-- A ledger record (R431). -/
structure LedgerRecord where
  stripe : Nat
  rowFirst : Nat
  rowLast : Nat
  tcFirst : Nat
  tcLast : Nat
  kind : Nat
  reason : Nat
  state : Nat
  decision : Nat
  pass : Nat
  max : Nat
  pixels : Nat
  sum : Nat
  mendStripe : Nat
  number : Nat
  deriving DecidableEq, Repr

/-- What a journal entry carries (R436): an event's parameters and data, or a ledger record as created. -/
inductive JournalBody where
  | event (params : List Nat) (data : List Byte)
  | ledger (r : LedgerRecord)
  deriving DecidableEq, Repr

/-- A journal entry (R436); JSEQ is its place in the list. -/
structure JournalEntry where
  code : Nat
  job : Nat
  ssn : Nat
  body : JournalBody
  deriving DecidableEq, Repr

/-- A checkpoint slot (R441). -/
structure Checkpoint where
  jobId : Nat
  stripe : Nat
  ssn : Nat
  disposed : Nat
  rowsDone : Nat
  jseqNext : Nat
  kind : Nat
  deriving DecidableEq, Repr

/-- A set of the set store (R443): the RW-L values and tables, the tolerance and the gain table slot. -/
structure ValueSet where
  vals : Map Nat
  tabs : Map (List Byte)
  gainSlot : Nat
  deriving DecidableEq, Repr

/-- The job as its acceptance entry holds it (R107, R619). -/
structure OpenJob where
  id : Nat
  headerCrc : Nat
  offset : Nat
  length : Nat
  rate : Nat
  stripes : Nat
  deriving DecidableEq, Repr

/-- A mend-pass stripe (R455): its number, pass, original stripe and the original row of its row 0, and where its
raster lies (R456). -/
structure MendStripe where
  number : Nat
  pass : Nat
  original : Nat
  first : Nat
  direction : Nat
  origin : Int
  src : Source
  opened : Bool
  deriving DecidableEq, Repr

/-- The echo of a segment (R449): LAST_SSN, CUR_SSN and the histories of the two halves. -/
structure Echo where
  last : Nat
  cur : Nat
  hist0 : Nat
  hist1 : Nat
  deriving DecidableEq, Repr

/-- A cut stripe (R447 to R451): its SSN_base, C, DISPOSED_SSN and ROWS_DONE of its latest checkpoint, and the accepted
echoes by segment. -/
structure Cut where
  ssnBase : Nat
  c : Nat
  disposed : Nat
  rowsDone : Nat
  echoes : Map Echo
  deriving DecidableEq, Repr

/-- The ledger and the job areas of keeper non-volatile memory (R435). Lists are oldest first. -/
structure Ledger where
  /-- The job that is open, from its acceptance entry to JOB_CLOSED (R616). -/
  job : Option OpenJob
  entries : List JournalEntry
  /-- The two checkpoint slots (R441). -/
  slotA : Option Checkpoint
  slotB : Option Checkpoint
  /-- The set store (R443): sets, and distinct effective gain tables. -/
  sets : List ValueSet
  gainTables : List (Map Nat)
  /-- Ledger records with their current STATE and DECISION (0x7802). -/
  records : List LedgerRecord
  /-- Records that a following row may still extend (R430), without a number. -/
  openRecords : List LedgerRecord
  /-- Mend-pass stripes of the job, cut stripes (log entry 60), and passes run since the last writing stripe (R458). -/
  mends : List MendStripe
  cuts : List Cut
  passes : Nat
  /-- JOURNAL_LOW has been recorded (R442). -/
  lowReported : Bool
  /-- An overdose is pending (R60). -/
  overdose : Bool
  deriving DecidableEq, Repr

/-- An empty ledger. -/
def Ledger.reset : Ledger where
  job := none
  entries := []
  slotA := none
  slotB := none
  sets := []
  gainTables := []
  records := []
  openRecords := []
  mends := []
  cuts := []
  passes := 0
  lowReported := false
  overdose := false

/-- Recovery after a reset (R447 to R453): RAW at the start of the wait for echoes, the stripe that was cut, and the
first valid report of each segment. -/
structure Rescue where
  at_ : Nat
  cut : Option Cut
  seen : Map Echo
  deriving DecidableEq, Repr

/-! ### Power, reset and the keeper (19_power_reset_keeper) -/

/-- The keeper's own state beside its objects (R570 to R588). -/
structure Keeper where
  /-- Crystal periods and base of the backup time counter (R586), as raw integers. -/
  ticks : Nat
  base : Int
  /-- The reset in progress or last decided holds the main die until WAKE_N or RESET_N (R580). -/
  standbyHeld : Bool
  /-- Inputs ILK0_N to ILK3_N at their unsafe level (bit n), in use or not (R331). -/
  ilkHigh : Nat
  /-- KEEP is in standby (R581). -/
  standby : Bool
  sysref : Bool
  resetNLow : Bool
  pwrFailLow : Bool
  wakeNLow : Bool
  /-- A WARN condition of PWR_FAIL_N is decided (R573). -/
  pwrFailWarn : Bool
  /-- The last standby sample of ILK0_N to ILK3_N (bit n), WAKE_N, RESET_N and PWR_FAIL_N (bits 4 to 6) (R581). -/
  sampled : Nat
  /-- DIE_TEMP has passed 85 °C at 32.0 Gb/s and has not yet fallen to 83 °C (R295). -/
  hot : Bool
  /-- DIE_TEMP_UPDATE has come since the last start of the main die. -/
  measured : Bool
  deriving DecidableEq, Repr

/-- The keeper at power-on (R575 source 1). -/
def Keeper.reset : Keeper where
  ticks := 0
  base := 0
  standbyHeld := false
  ilkHigh := 0
  standby := true
  sysref := true
  resetNLow := false
  pwrFailLow := false
  wakeNLow := false
  pwrFailWarn := false
  sampled := 0
  hot := false
  measured := false

/-! ### Time (16_time) -/

/-- An announced master (R509): the port it is heard on, its data set and RAW of the latest Announce. -/
structure ForeignMaster where
  port : Nat
  data : AnnounceData
  at_ : Nat
  /-- Announces received (a master is qualified from the second on, IEEE 1588-2019). -/
  heard : Nat
  deriving DecidableEq, Repr

/-- A capture record (R519). -/
structure CaptureRecord where
  tNs : Nat
  raw : Nat
  tFrac : Nat
  ssn : Nat
  seq : Nat
  source : Nat
  edge : Nat
  servo : Nat
  deriving DecidableEq, Repr

/-- The device clock and its servo (R504 to R517) beside the objects 0x9010 to 0x9020. -/
structure Clock where
  raw : Nat
  /-- ρ in 2^−48, ω in 2^−16 ns, the integral term in 2^−48 (R505, R513). -/
  rho : Int
  omega : Int
  ii : Int
  /-- Consecutive samples within, and beyond, LOCK_THRESHOLD (R514). -/
  within : Nat
  beyond : Nat
  /-- Consecutive delay samples beyond CHANGE_THRESHOLD (R515). -/
  jumps : Nat
  /-- No delay sample beyond CHANGE_THRESHOLD since the last valid one (R515). -/
  sampleValid : Bool
  baselineSet : Bool
  /-- RAW at the start of the path hold and the delay samples of the hold, newest first (R516). -/
  holdAt : Nat
  holdSamples : List (Nat × Int)
  /-- The next step follows STEP_AGAIN (0x0F02, cause 2). -/
  again : Bool
  masters : List ForeignMaster
  /-- Sync of a two-step master that waits for its Follow_Up: source, sequence, θ's receive time (2^−16 ns),
  correction, interval. -/
  waiting : Option (Nat × Nat × Int × Int × Nat)
  /-- The last Sync's t1 and t2 in 2^−16 ns, which a delay sample uses. -/
  t1 : Int
  t2 : Int
  /-- sequenceId and transmit time of the last Delay_Req and of the last Pdelay_Req. -/
  delaySeq : Nat
  delaySent : Int
  pdelaySeq : Nat
  pdelaySent : Int
  /-- sequenceId of the next Sync and Announce sent as master. -/
  syncSeq : Nat
  announceSeq : Nat
  /-- Captures (R519): the queue, oldest first, the next SEQ, drops since the last event, RAW of that event. -/
  captures : List CaptureRecord
  captureSeq : Nat
  captureDrops : Nat
  captureEventAt : Option Nat
  /-- RAW until which a launched frame occupies a network port (R523). -/
  portBusy : List (Nat × Nat)
  deriving DecidableEq, Repr

/-- The clock at a reset of the main die (R504, R507). -/
def Clock.reset : Clock where
  raw := 0
  rho := 0
  omega := 0
  ii := 0
  within := 0
  beyond := 0
  jumps := 0
  sampleValid := true
  baselineSet := false
  holdAt := 0
  holdSamples := []
  again := false
  masters := []
  waiting := none
  t1 := 0
  t2 := 0
  delaySeq := 0
  delaySent := 0
  pdelaySeq := 0
  pdelaySent := 0
  syncSeq := 0
  announceSeq := 0
  captures := []
  captureSeq := 0
  captureDrops := 0
  captureEventAt := none
  portBusy := []

/-! ### Stripes, expansion and press (06_expansion, 07_dose_correction) -/

/-- A stripe in progress, from its opening until its last row has left S63 (R43). -/
structure Stripe where
  /-- Number of the opening: the order of the entry sequence. -/
  uid : Nat
  /-- 0 writing, 1 mend pass, 2 MEASURE (0x3020:08). -/
  kind : Nat
  /-- The sequence of SSNs that its shots belong to (`Dev.sequence`). -/
  sequence : Nat
  /-- Stripe index, mend-pass stripe number or MEASURE sequence. -/
  number : Nat
  src : Source
  direction : Nat
  origin : Int
  ssnBase : Nat
  /-- Entry-sequence number of row 0 (R208). -/
  entry : Nat
  jobScale : Nat
  cellCount : Nat
  /-- The values taken at the opening (R44): RW-L numbers and tables, tolerance T, effective gains. -/
  vals : Map Nat
  tabs : Map (List Byte)
  tol : Nat
  gains : Map Nat
  /-- Segments without an engine at the opening, as the stripe's live-visits table has them (R281). -/
  blanked : Nat
  /-- Neighbour stripe indexes at the −x and +x edges (R246). -/
  minus : Option Nat
  plus : Option Nat
  /-- Selected columns of a MEASURE stripe (R231). -/
  columns : Nat
  slot : Nat
  /-- Of a mend-pass stripe: the original stripe and its row of row 0 (R455). -/
  original : Nat
  rowOffset : Nat
  /-- Shots whose advance is made, shots launched, shots struck. -/
  advanced : Nat
  launched : Nat
  struck : Nat
  /-- Rows whose status is frozen, formed by press (or abandoned), entered into S0, and out of S63. -/
  frozen : Nat
  formed : Nat
  entered : Nat
  exited : Nat
  /-- The stripe's last shot index after STOP (R98). -/
  last : Option Nat
  /-- The origin is armed (R353). -/
  armed : Bool
  /-- Clipping of the stripe (R251): pixels, rows, largest d. -/
  clipPixels : Nat
  clipRows : Nat
  clipMax : Nat
  /-- WU used by tile row and class, at 4 · tile row + class (R207). -/
  used : Map Nat
  /-- Tile rows whose first unit was taken up (R544). -/
  begun : Nat
  /-- One of rows 0 to 257 was frozen with a reason (R211). -/
  spoiled : Bool
  deriving DecidableEq, Repr

/-- What a context serves (R193, R194): tiles of a stripe, a cell that fills the cache, a deficit map, a check job's range. -/
inductive Serves where
  | tiles
  | cell (id : Nat)
  | map
  | range
  deriving DecidableEq, Repr

/-- A stream context (R194). The running value of its check unit is RUNNING (0x4100 + q:0B). -/
structure Context where
  serves : Serves
  /-- The stripe it serves. -/
  uid : Nat
  column : Nat
  /-- Tile row, block within the tile, byte offset of the block and block sequence in progress. -/
  row : Nat
  block : Nat
  offset : Nat
  seq : Nat
  /-- Samples of the tile so far, newest first. -/
  hist : List Nat
  /-- The repeat store: samples of the last tile that was not REPEAT, and its failure (0 for none). -/
  rep : List Nat
  repFail : Nat
  /-- 0 idle, 1 awaiting data, 2 ready, 3 on an engine, 4 suspended, 5 done, 6 failed (0x4100 + q:01). -/
  state : Nat
  /-- What a suspended context waits for: 1 a refetch of the pages listed, 2 a cell refill. -/
  waits : Nat
  pages : List Nat
  waitCell : Nat
  /-- Bits of the unit in progress that are read, the adaptive contexts there, and the samples that the block has so far,
  newest first. -/
  bitPos : Nat
  adapt : Adapt
  part : List Nat
  /-- The input window: at most 16 KiB of the unit's data, and its place in the data. -/
  window : List Byte
  windowAt : Nat
  /-- The unit in progress has waited for input (R205) or for a cell refill (R206). -/
  waited : Bool
  /-- A unit of the tile in progress was taken up. -/
  begun : Bool
  /-- Times the unit in progress was put down before its end. -/
  downs : Nat
  /-- SUSPEND or ABORT waits for the end of the check job's unit (R232): 0 none, 2 SUSPEND. -/
  held : Nat
  /-- The engine class of its tile (R201): 0 decoder, 1 rasterizer, 2 placer. -/
  cls : Nat
  deriving DecidableEq, Repr

/-- A tile column's part of a row in the basket or the edge store (R208): its samples, tile SCALE and reason. -/
structure Part where
  samples : List Nat
  scale : Nat
  reason : Nat
  deriving DecidableEq, Repr

/-- A row of press's line store: min(a, 32,767) of its pixels with the neighbour columns at both edges, and the
reasons of the left edge, the 32 parts and the right edge. -/
structure LineRow where
  a : List Nat
  reasons : List Nat
  deriving DecidableEq, Repr

/-- A formed row in press's output queue (R235). -/
structure FormedRow where
  uid : Nat
  y : Nat
  target : List Nat
  reasons : List Nat
  deriving DecidableEq, Repr

/-- A run of consecutive rows that one event will report: stripe, first row, rows, and a code (reason or policy). -/
structure Run where
  stripe : Nat
  first : Nat
  rows : Nat
  code : Nat
  deriving DecidableEq, Repr

/-- The cell-cache fill of the acceptance that runs (R224, R225): the package it reads, the pool contexts that it has
claimed, and the next cell that no context has taken. -/
structure Fill where
  package : Package
  contexts : List Nat
  next : Nat
  deriving DecidableEq, Repr

/-- UNFOLD and PRESS. Parts are keyed 32 · entry row + tile column, engines 32 · class + number (holding context
q + 1, or 257 + cell for the refill of a cell), refills by cell (R228), grid rows 2^20 · uid + gy (none after two failures), line rows by entry row. -/
structure Unfold where
  contexts : Map Context
  engines : Map Nat
  parts : Map Part
  edges : Map Part
  cells : Map CellData
  fill : Option Fill
  /-- The pool context of the deficit-map output (R230). -/
  map : Option Nat
  refills : Map Context
  line : Map LineRow
  queue : List FormedRow
  grid : Map (Option (List Nat))
  /-- Runs for ROWS_LATE (tile column), PRESS_LATE (32) and WINDOW_GAP (64 + tile column). -/
  runs : Map Run
  deriving DecidableEq, Repr

/-! ### Layout store (14_layout_store) -/

/-- A read of the store that waits at its channel (R474, R475): who asked (a context, or 256 for an access that no context
asks for), whether it is real-time, the burst from which its read in progress starts and the one after its end, the bursts
issued on subchannels 0 and 1, and the burst after its last; 0 in the last two where it is not sized yet. -/
structure ColumnRequest where
  asker : Nat
  real : Bool
  start : Nat
  stop : Nat
  done0 : Nat
  done1 : Nat
  last : Nat
  deriving DecidableEq, Repr

/-- The store's translation and DRAM state beside its objects (R465 to R487). A rank is numbered 4 · channel + rank,
a physical page 32,768 · rank + page. -/
structure StoreState where
  /-- The ranks of the default layout in the order of R467, and the spare ranks, as the last bring-up found them. -/
  layout : List Nat
  spares : List Nat
  /-- Pages of a rank at the density in effect; 0 before the first bring-up. -/
  perRank : Nat
  /-- RANKS_PER_CHANNEL, DENSITY or a role was written: the next bring-up clears the remap list (R469). -/
  dirty : Bool
  /-- The remap list, oldest first: a page and its physical page, none where it is unmapped (R486). -/
  remap : List (Nat × Option Nat)
  /-- Pages with AWAITING, and pending refetch requests, oldest first (R484). -/
  awaiting : List Nat
  refetch : List Nat
  /-- Pages migrated and pages lost of each retiring rank (R482). -/
  moved : Map (Nat × Nat)
  /-- RAW + 1 of the last command error of a rank (R481). -/
  commandError : Map Nat
  /-- RAW of the corrected bursts of a rank within the last second, and RAW + 1 of its last STORE_CORRECTED. -/
  corrected : Map (List Nat)
  correctedAt : Map Nat
  /-- Refreshes that a rank owes, ranks at the doubled rate, ranks in power-down (R477, R478). -/
  debt : Map Nat
  doubled : List Nat
  powerDown : List Nat
  /-- Each bank's 2-bit counter and its open row + 1 (0 for none), by 64 · rank + 32 · subchannel + bank (R476). -/
  banks : Map (Nat × Nat)
  /-- Reads that wait, in arrival order, and whether each of the last column commands of a subchannel (2 · channel +
  subchannel) was background, newest first, at most 3 (R475). -/
  queue : List ColumnRequest
  recent : Map (List Bool)
  /-- Bring-up in WAKE is done or not to be done, and CONTENTS_KEPT decided (R620). -/
  decided : Bool
  /-- 0x8001 as the last bring-up took it, CL first (R469). -/
  timing : List Nat
  /-- Ranks with role 3, in the order in which they began to retire (R482). -/
  retiring : List Nat
  /-- How the last reset left the store: 0 self-refresh confirmed, else the cause 1 to 3 of CONTENTS_LOST (R473). -/
  lostCause : Nat
  deriving DecidableEq, Repr

/-- The store at power-on. -/
def StoreState.reset : StoreState where
  layout := []
  spares := []
  perRank := 0
  dirty := false
  remap := []
  awaiting := []
  refetch := []
  moved := []
  commandError := []
  corrected := []
  correctedAt := []
  debt := []
  doubled := []
  powerDown := []
  banks := []
  queue := []
  recent := []
  decided := false
  timing := []
  retiring := []
  lostCause := 1

/-! ### Conveyor and dose engines (08_conveyor_and_dose_engines) -/

/-- A row in a segment slot: its header (R259) and its residual words by phase plane (R257), 16 planes of 512. -/
structure ConvRow where
  uid : Nat
  y : Nat
  number : Nat
  kind : Nat
  direction : Nat
  entrySsn : Nat
  reasons : List Nat
  uncertain : Nat
  lostWords : Nat
  planes : List (List Nat)
  deriving DecidableEq, Repr

/-- How a half's commit entry ended (R266), and the reports of its two return lanes (R313). -/
structure Half where
  /-- 0 pending, 1 ACK, 2 NACK, 3 both missing, 4 discarded. -/
  done : Nat
  primary : Option Bool
  secondary : Option Bool
  /-- Reports of the half and shot have disagreed (R314). -/
  conflict : Bool
  /-- The entry is written into segment memory, in SSN order (R266). -/
  applied : Bool
  deriving DecidableEq, Repr

/-- A segment's commit-queue entry of a shot (R264, R267): 4,096 codes, and the new planes of the 8 visited rows. -/
structure SegShot where
  codes : List Nat
  planes : List (Option (List Nat))
  half0 : Half
  half1 : Half
  deriving DecidableEq, Repr

/-- The live-visits table (R280): effective gains, direction, segments without an engine. -/
structure Lvt where
  gains : Map Nat
  direction : Nat
  blanked : Nat
  deriving DecidableEq, Repr

/-- A shot from its advance on (R262). -/
structure Shot where
  uid : Nat
  k : Nat
  ssn : Nat
  /-- STAGE time of the advance, ps. -/
  advanceAt : Nat
  launched : Bool
  /-- Sent with BLANK. -/
  blank : Bool
  /-- STAGE time of the launch and of the strobe as last refined, ps (R357). -/
  launchAt : Nat
  strobeAt : Nat
  /-- The strobe waits for a crossing (R357, R358). -/
  waits : Bool
  /-- Logical lanes that leave on another physical lane at this shot (R318). -/
  lanes : Map Nat
  /-- RAW at the strobe. -/
  struck : Option Nat
  /-- The engine of each segment and the live-visits table as the shot's advance left them (R40, R262). -/
  engines : List Nat
  lvt : Lvt
  segs : Map SegShot
  deriving DecidableEq, Repr

/-- A retirement that takes effect at a later shot boundary (R277, R279, R283). -/
structure Darn where
  due : Nat
  segment : Nat
  engine : Nat
  deriving DecidableEq, Repr

/-- A table that waits for its switch (R282): RAW of the cause, the shots to wait, the cause. -/
structure LvtNext where
  at_ : Nat
  shots : Nat
  cause : Nat
  /-- The segment that regains an engine, with the engine (R283). -/
  regain : Option (Nat × Nat)
  deriving DecidableEq, Repr

/-- A sub-array repair (R284, R285): slots of the sub-array that still wait for a new row, and steps since the start. -/
structure Repair where
  segment : Nat
  sub : Nat
  cause : Nat
  started : Bool
  slots : Nat
  steps : Nat
  deriving DecidableEq, Repr

/-- The mangle. Rows are keyed 128 · segment + slot. -/
structure Conveyor where
  rows : Map ConvRow
  /-- Rows in transfer, by sending segment: the slot + 1 (R269). -/
  flight : Map Nat
  /-- The landing buffer of each segment: a row that waits for its slot (R270). -/
  landing : Map ConvRow
  /-- Shots from their advance until their reports no longer matter, oldest first. -/
  shots : List Shot
  /-- SSNs of the last two mismatches of an engine, newest first (R276). -/
  mismatches : Map (List Nat)
  darns : List Darn
  /-- Engines that have completed a known-answer pass without fault since their last attachment (R278). -/
  passed : List Nat
  lvt : Lvt
  /-- Tables that wait for their switch, in the order of their causes. -/
  lvtNext : List LvtNext
  repairs : List Repair
  /-- SSNs of corrected words within 2^20 shots, by 8 · segment + sub-array (R284). -/
  corrected : Map (List Nat)
  /-- SSN + 1 and number of consecutive shots without ACK and NACK, by segment (R268). -/
  missing : Map (Nat × Nat)
  /-- Segments whose table slice is lost, with the SSN from which its reload acts (R494, array 3). -/
  slices : Map Nat
  /-- Shots and drain steps of the stripe in the conveyor. -/
  steps : Nat
  deriving DecidableEq, Repr

/-- An empty conveyor. -/
def Conveyor.reset : Conveyor where
  rows := []
  flight := []
  landing := []
  shots := []
  mismatches := []
  darns := []
  passed := []
  lvt := { gains := [], direction := 0, blanked := 0 }
  lvtNext := []
  repairs := []
  corrected := []
  missing := []
  slices := []
  steps := 0

/-! ### Beam link and module (09_beam_link) -/

/-- A return lane (R315): consecutive frames that failed and that passed, RAW of the last valid frame, removed. -/
structure RxLane where
  bad : Nat
  good : Nat
  heard : Nat
  removed : Bool
  deriving DecidableEq, Repr

/-- A lane switch that waits for the next advance (R318, R320): logical lane, spare, restore. -/
structure LaneSwitch where
  lane : Nat
  spare : Nat
  restore : Bool
  deriving DecidableEq, Repr

/-- The identity fields that no object shows (R328). -/
structure Identity where
  beamRows : Nat
  beamColumns : Nat
  txLanes : Nat
  rxLanes : Nat
  deriving DecidableEq, Repr

/-- A lane's pattern (R336, R337): LANE_STATE before it, the bits generated, the error-free bits that the checker has seen
up to the 64 on which it locks, and whether INJECT inverts the next bit. -/
structure PatternRun where
  before : Nat
  sent : Nat
  clean : Nat
  inject : Bool
  deriving DecidableEq, Repr

/-- The link's state beside its objects. -/
structure Link where
  rx : Map RxLane
  /-- Consecutive valid return frames with a clear LOCK bit, by logical lane (R317). -/
  lockLow : Map Nat
  /-- SSNs of NACKs within 65,536 shots, by logical lane. -/
  nacks : Map (List Nat)
  /-- Last NACKed SSN and JSEQ of the entry of a run of NACKs, by 2 · segment + half (R439). -/
  nackRuns : Map (Nat × Nat)
  switches : List LaneSwitch
  /-- RESTOREs that send ALIGN frames: the command's value, RAW of the start, the request (R320). -/
  restoring : List (Nat × Nat × Query)
  /-- Logical lanes whose LANE_FAULT_NO_SPARE is recorded (R319). -/
  noSpare : List Nat
  identity : Identity
  /-- An identity read runs (R329), and the request that waits for it. -/
  reading : Bool
  readQuery : Option Query
  /-- Lanes with a pattern (R336). -/
  patterns : Map PatternRun
  /-- SSN of the launch from which a lane that a sparing has left carries IDLE, and the lane (R318). -/
  idleDue : List (Nat × Nat)
  /-- Bits of the eye-scan point that runs (R338). -/
  scanBits : Nat
  /-- Physical lanes that still need an ALIGN frame before a SHOT frame (R302). -/
  alignDue : List Nat
  /-- RAW + 1 of the last TUMBLE_LIMIT. -/
  tumbleAt : Nat
  deriving DecidableEq, Repr

/-- The link at a reset of the main die. -/
def Link.reset : Link where
  rx := []
  lockLow := []
  nacks := []
  nackRuns := []
  switches := []
  restoring := []
  noSpare := []
  identity := { beamRows := 0, beamColumns := 0, txLanes := 0, rxLanes := 0 }
  reading := false
  readQuery := none
  patterns := []
  idleDue := []
  scanBits := 0
  alignDue := List.range 136
  tumbleAt := 0

/-! ### Stage position and shot timing (10_stage_position_and_shot_timing) -/

/-- A position channel (R341 to R350). -/
structure Channel where
  /-- Present and previous position, and the samples so far. -/
  pos : Int
  prev : Int
  samples : Nat
  /-- Time (ps) and position of the latest samples, newest first, at most 65. -/
  hist : List (Nat × Int)
  /-- Last phase angle; consecutive samples whose radius lies outside the window (R346). -/
  angle : Nat
  outside : Nat
  /-- Levels last sampled and last accepted: Z in bit [2], A in bit [1], B in bit [0]; STAGE times at which each last
  changed, ps (R347). -/
  raw : Nat
  levels : Nat
  since : List Nat
  /-- Last Hall state. -/
  hall : Nat
  /-- The count at an index edge of Z that no INDEX has taken up. -/
  zAt : Option Int
  /-- The position is negated (INVERT). -/
  inverted : Bool
  /-- Extreme position since the last turn (R344). -/
  extreme : Int
  /-- STAGE time of the last count change, ps. -/
  movedAt : Nat
  /-- Referencing is armed (R349). -/
  arming : Bool
  /-- RAW + 1 of the last QUAD_ERROR event. -/
  quadAt : Nat
  deriving DecidableEq, Repr

/-- A channel at reset. -/
def Channel.reset : Channel where
  pos := 0
  prev := 0
  samples := 0
  hist := []
  angle := 0
  outside := 0
  raw := 0
  levels := 0
  since := []
  hall := 0
  zAt := none
  inverted := false
  extreme := 0
  movedAt := 0
  arming := false
  quadAt := 0

/-- A probe (R367): its queue of sequence numbers and positions, the next sequence number, RAW + 1 of the last
PROBE_OVERFLOW. -/
structure Probe where
  queue : List (Nat × Int)
  next : Nat
  overflowAt : Nat
  deriving DecidableEq, Repr

/-- A compare's output and the sample of its SOURCE that it last acted on (R368). -/
structure CompareOut where
  level : Bool
  /-- RAW at which a pulse ends. -/
  pulseEnd : Option Nat
  sample : Nat
  /-- A target behind the position has been noted (R369). -/
  behind : Bool
  deriving DecidableEq, Repr

/-- STAGE's own state. -/
structure Stage where
  chans : Map Channel
  /-- STAGE time of the latest sample of the shot source, ps. -/
  now : Nat
  /-- Present and highest progress of the stripe whose origin is armed, or that waits for its arming (R352, R354). -/
  d : Int
  m : Int
  /-- The cross-check's OFFSET, and consecutive samples that disagree (R364). -/
  offset : Int
  disagree : Nat
  /-- Shots blanked in the overspeed run in progress (R362). -/
  run : Option Nat
  /-- ORIGIN_PASSED is recorded for the stripe that waits (R353). -/
  passedFor : Nat
  /-- A reversal beyond the band has been recorded and M has not been passed since (R355). -/
  reversed : Bool
  probes : Map Probe
  compares : Map CompareOut
  deriving DecidableEq, Repr

/-- STAGE at a reset of the main die. -/
def Stage.reset : Stage where
  chans := []
  now := 0
  d := 0
  m := 0
  offset := 0
  disagree := 0
  run := none
  passedFor := 0
  reversed := false
  probes := []
  compares := []

/-! ### Tracking servo (11_tracking_servo) -/

/-- A run of R397: it blanks shots launched from `from_` on, ps, until `until_`; whether 0x0901 is recorded, its cause,
code and the shots blanked. -/
structure DeflRun where
  from_ : Nat
  until_ : Option Nat
  cause : Nat
  code : Int
  reported : Bool
  blanked : Nat
  deriving DecidableEq, Repr

/-- A clamped update (R398): when its decision takes effect and its frame ends, ps; the code before the clamp. -/
structure Clamped where
  effect : Nat
  frameEnd : Nat
  code : Int
  reported : Bool
  deriving DecidableEq, Repr

/-- An axis of the servo (R376 to R398). -/
structure ServoAxis where
  /-- PID: integrator mantissa and exponent; the error of the previous update. -/
  i : Int
  es : Nat
  ePrev : Int
  /-- Biquads 1 to 4: z1, z2 and exponent. -/
  bq : List (Int × Int × Nat)
  /-- w*, the code of the last frame, and whether it was clamped. -/
  w : Int
  u : Int
  wasClamped : Bool
  /-- SEQ of the next frame. -/
  seq : Nat
  /-- C, in 1/256 count (R377). -/
  center : Option Int
  /-- Consecutive updates out of range, and in range. -/
  out : Nat
  inRange : Nat
  runs : List DeflRun
  clamps : List Clamped
  /-- RAW + 1 of the last STATE_SATURATED. -/
  satAt : Nat
  deriving DecidableEq, Repr

/-- An axis at a reset of the main die, and while it is disabled: every state 0 with exponent 16 (R383, R385). -/
def ServoAxis.reset : ServoAxis where
  i := 0
  es := 16
  ePrev := 0
  bq := [(0, 0, 16), (0, 0, 16), (0, 0, 16), (0, 0, 16)]
  w := 0
  u := 0
  wasClamped := false
  seq := 0
  center := none
  out := 0
  inRange := 0
  runs := []
  clamps := []
  satAt := 0

/-- The servo: its axes, the RW-L values in use (R390), the learning memories by 8,192 · (2 · axis + memory) + index,
the region, and the STAGE time of the last update, ps. -/
structure Servo where
  axis0 : ServoAxis
  axis1 : ServoAxis
  vals : Map Nat
  tabs : Map (List Byte)
  rc : Map Int
  region : Nat
  last : Nat
  deriving DecidableEq, Repr

/-- The servo at a reset of the main die. -/
def Servo.reset : Servo where
  axis0 := ServoAxis.reset
  axis1 := ServoAxis.reset
  vals := []
  tabs := []
  rc := []
  region := 0
  last := 0

/-! ### Self-calibration and live service (18_self_calibration_and_live_service) -/

/-- Trims that await their application (R548, R558): the trims, the temperature and T_NS of the run, and whether a
record of them is written already. -/
structure NewTrims where
  trims : List Byte
  temp : Nat
  time : Nat
  written : Bool
  deriving DecidableEq, Repr

/-- What a run of a sine/cosine channel has collected (R549): samples, their sums, squares and products in converter steps, and
how far the phase has moved. -/
structure CalSums where
  n : Nat
  x : Int
  y : Int
  xx : Int
  yy : Int
  xy : Int
  travel : Int
  deriving DecidableEq, Repr

/-- Nothing collected. -/
def CalSums.zero : CalSums where
  n := 0
  x := 0
  y := 0
  xx := 0
  yy := 0
  xy := 0
  travel := 0

/-- A calibration channel beside its objects: a RERUN waits; RAW at the start of the run; what it has collected; trims that await their
application; the frames still to pass under new receiver trims with what they replace (R551); the two record slots of
keeper memory, empty where none was written (R556). -/
structure CalChannel where
  rerun : Bool
  startedAt : Nat
  sums : CalSums
  next : Option NewTrims
  trial : Nat
  before : Option (List Byte × NewTrims)
  slotA : List Byte
  slotB : List Byte
  deriving DecidableEq, Repr

/-- A calibration channel at power-on. -/
def CalChannel.reset : CalChannel where
  rerun := false
  startedAt := 0
  sums := CalSums.zero
  next := none
  trial := 0
  before := none
  slotA := []
  slotB := []

/-- Calibration channels, the firmware parts as written (4 · slot + part), the versions of the slots where an image
was verified, and the change that awaits its image's report: RAW and the slot before (R562). -/
structure Service where
  cal : Map CalChannel
  images : Map (List Byte)
  versions : Map Nat
  change : Option (Nat × Nat)
  deriving DecidableEq, Repr

/-! ### Auxiliary axes (12_auxiliary_axes) -/

/-- A limit or home switch (R413 to R416). -/
structure Switch where
  /-- Accepted level: active. -/
  level : Bool
  /-- Samples of 1 µs since the raw level last changed, its present value, and POSITION at the change. -/
  cand : Bool
  count : Nat
  candPos : Int
  /-- RAW of the accepted edges of the last 100 ms, and RAW + 1 of the last LIMIT_CHATTER. -/
  edges : List Nat
  chatterAt : Nat
  latched : Bool
  /-- Position of the last accepted inactive edge since the last active edge. -/
  inactiveAt : Option Int
  deriving DecidableEq, Repr

/-- A switch at reset. -/
def Switch.reset : Switch where
  level := false
  cand := false
  count := 0
  candPos := 0
  edges := []
  chatterAt := 0
  latched := false
  inactiveAt := none

/-- A phase's chopper (R406, R407). -/
structure Phase where
  /-- 0 off, 1 drive within BLANK_TIME, 2 drive, 3 decay within BLANK_TIME, 4 decay. -/
  stage : Nat
  /-- Mixed decay: FAST_TIME has not passed yet. -/
  fast : Bool
  /-- RAW at the start of the drive or of the decay. -/
  at_ : Nat
  onAvg : Int
  offAvg : Int
  offUp : Nat
  offDn : Nat
  /-- Consecutive cycles that reached MAX_ON, and that read above upper at the end of the blanking time. -/
  opens : Nat
  shorts : Nat
  deriving DecidableEq, Repr

/-- A phase at reset. -/
def Phase.reset : Phase where
  stage := 0
  fast := false
  at_ := 0
  onAvg := 0
  offAvg := 0
  offUp := 0
  offDn := 0
  opens := 0
  shorts := 0

/-- What follows when an axis that must stop has stopped (R411, R417, R420). -/
inductive AfterStop where
  | rest | move | fault | home (stage : Nat)
  deriving DecidableEq, Repr

/-- An auxiliary axis beside its objects (R403 to R422). -/
structure Axis where
  /-- Position in 2^−24 microstep; velocity and acceleration in 2^−40 microstep per tick and per tick squared (R410; the
  fraction below 2^−24 of the velocity is kept, log entry 70). -/
  pos : Int
  vel : Int
  acc : Int
  /-- Where the movement goes, in 2^−24 microstep. -/
  goal : Int
  /-- A stop in progress: 0 none, 1 at DECEL, 2 at STOP_DECEL; and what follows it. -/
  stop : Nat
  after : AfterStop
  /-- Homing (R417): 0 none, 1 leaving an active home switch, 2 searching in HOME_DIR, 3 home edge found, 4 searching
  against HOME_DIR, 5 home passed and active, 6 home inactive again; and the position at which it became inactive. -/
  home : Nat
  homeAt : Option Int
  /-- Position latched at the home edge. -/
  latch : Int
  /-- The current level is I_RUN (R408). -/
  run : Bool
  /-- RAW when the commanded velocity became 0. -/
  stillAt : Nat
  /-- The negative limit, positive limit and home switches. -/
  neg : Switch
  plus : Switch
  homeSw : Switch
  a : Phase
  b : Phase
  deriving DecidableEq, Repr

/-- An axis at a reset of the main die. -/
def Axis.reset : Axis where
  pos := 0
  vel := 0
  acc := 0
  goal := 0
  stop := 0
  after := .rest
  home := 0
  homeAt := none
  latch := 0
  run := false
  stillAt := 0
  neg := Switch.reset
  plus := Switch.reset
  homeSw := Switch.reset
  a := Phase.reset
  b := Phase.reset

/-! ### Host feed (05_host_feed) -/

/-- A unit in flight (R167 to R169, R180): its host-side address, source and destination, length, the host page whose
translation it used + 1 (0 for none), and how it came back: the data that waits for earlier units to retire. -/
structure DmaUnit where
  host : Nat
  src : Nat
  dst : Nat
  len : Nat
  page : Nat
  /-- The address it carries on the link: the translated one under ATS (R184). -/
  bus : Nat
  /-- It was issued under DIR 1. -/
  up : Bool
  /-- Its translation was invalidated after it was issued (R189). -/
  old : Bool
  /-- It was issued after a unit that has failed: it is discarded (R180). -/
  doomed : Bool
  /-- It came back. -/
  back : Bool
  data : List Byte
  deriving DecidableEq, Repr

/-- A page wait (R185 to R189): the page, Page Requests sent, RAW of the first and of the latest, and whether a Success
has come and the translation is requested again. -/
structure DmaWait where
  page : Nat
  requests : Nat
  since : Nat
  last : Nat
  answered : Bool
  deriving DecidableEq, Repr

/-- A failed unit (R180, R181): its code, addresses, and the bytes from it to the end of the transfer. -/
structure DmaFailure where
  code : Nat
  host : Nat
  src : Nat
  dst : Nat
  left : Nat
  deriving DecidableEq, Repr

/-- A DMA channel (R163 to R171). `stat` holds the stored bits of CHn_STAT; the others are formed on a read. -/
structure DmaChannel where
  src : Nat
  dst : Nat
  len : Nat
  ctrl : Nat
  stat : Nat
  nsrc : Nat
  ndst : Nat
  nlen : Nat
  nctrl : Nat
  fill : Nat
  low : Nat
  high : Nat
  doneCount : Nat
  errAddr : Nat
  /-- The transfer's length, half point and retired prefix (R170). -/
  total : Nat
  half : Nat
  moved : Nat
  /-- Units in flight, in issue order. -/
  units : List DmaUnit
  failed : Option DmaFailure
  wait : Option DmaWait
  /-- A valid shadow waits for PAUSE to clear (R171). -/
  held : Bool
  deriving DecidableEq, Repr

/-- A channel at a reset of the HOST island. -/
def DmaChannel.reset : DmaChannel where
  src := 0
  dst := 0
  len := 0
  ctrl := 0
  stat := 0
  nsrc := 0
  ndst := 0
  nlen := 0
  nctrl := 0
  fill := 0
  low := 0
  high := 0
  doneCount := 0
  errAddr := 0
  total := 0
  half := 0
  moved := 0
  units := []
  failed := none
  wait := none
  held := false

/-- A translation of a host page (R184): the page it leads to, and the permissions. -/
structure Translation where
  target : Nat
  read : Bool
  write : Bool
  deriving DecidableEq, Repr

/-- The feed. The MSI-X table is kept by dword (R162; a vector's mask bit is set at reset, PRESUMED, log entry 71),
translations by host page. -/
structure HostFeed where
  channels : Map DmaChannel
  /-- The channel last served at each priority, + 1 (R173). -/
  served : Map Nat
  msix : Map Nat
  /-- Pending bits, MSI-X Enable and Function Mask. -/
  pba : Nat
  msixEnable : Bool
  msixMask : Bool
  /-- The address translation cache, and pages whose translation is requested. -/
  cache : Map Translation
  asked : List Nat
  /-- A Response Failure has stopped Page Requests (R186). -/
  priHalted : Bool
  /-- PRG indexes whose response is to be discarded (R187, R189). -/
  discard : List Nat
  /-- Invalidate Requests that wait for units in flight: first page and number of pages (R189). -/
  invalidates : List (Nat × Nat)
  /-- Device Control and Device Control 2 (R158). -/
  deviceControl : Nat
  deviceControl2 : Nat
  /-- AER: the Uncorrectable Error Status register, and the first header dword of its first error (R158, R191). -/
  aerStatus : Nat
  aerHeader : Nat
  d3hot : Bool
  deriving DecidableEq, Repr

/-- Attributes of a DMA request (R158, R184): a translated address, Relaxed Ordering, ID-Based Ordering. -/
structure DmaAttr where
  translated : Bool
  relaxed : Bool
  idOrdered : Bool
  deriving DecidableEq, Repr

/-- The feed at a reset of the HOST island. -/
def HostFeed.reset : HostFeed where
  channels := []
  served := []
  msix := []
  pba := 0
  msixEnable := false
  msixMask := false
  cache := []
  asked := []
  priHalted := false
  discard := []
  invalidates := []
  deviceControl := 0
  deviceControl2 := 0
  aerStatus := 0
  aerHeader := 0
  d3hot := false

/-! ### On-chip memory (15_on_chip_memory) -/

/-- The rinse engines, by 1,024 · array + instance: the next word, RAW at the start of the pass, ns of the last pass,
and RAW + 1 of the last MEM_CORRECTED. -/
structure Rinse where
  next : Map Nat
  began : Map Nat
  took : Map Nat
  correctedAt : Map Nat
  deriving DecidableEq, Repr

/-! ### What leaves the block -/

/-- A PTP message that the device transmits (R509). -/
inductive PtpKind where
  | sync | delayReq | pdelayReq
  /-- The answers name clockIdentity of the asker. -/
  | delayResp (requester : Nat) | pdelayResp (requester : Nat)
  /-- An Announce carries the device's own data set. -/
  | announce (data : AnnounceData)
  deriving DecidableEq, Repr

/-- One thing the block sends to the outside. -/
inductive Out where
  /-- A COP response or NOTIFY to a sender, from the port and the address at which its request arrived (R70, R79). -/
  | cop (w : Sender) (m : Msg)
  /-- An MSI-X vector (R86, R191). -/
  | interrupt (vector : Nat)
  /-- A PTP message on a network port: transport as TRANSPORT codes it, destination MAC or IP address, UDP port (0 on layer
  2), domainNumber, kind, sequenceId, the timestamp field in ns and correctionField in 2^−16 ns (R509, R510, R512). -/
  | ptp (port transport : Nat) (destination : List Byte) (udp domain : Nat) (kind : PtpKind) (sequence : Nat)
      (timestamp correction : Int)
  /-- A network frame of a launch entry, with the bytes as sent (R522). -/
  | netFrame (port : Nat) (bytes : List Byte)
  /-- A frame slot on a physical transmit lane: the bits on the wire from SOF on, in order (R297 to R305), and the
  delay after the launch in UI (R307). IDLE follows the frame (`idleBits`). -/
  | frame (lane delay : Nat) (wire : List Bool)
  /-- A lane that carries neither frames nor a pattern from here on: IDLE (R305, R318). -/
  | idle (lane : Nat)
  /-- A pattern replaces all else on a transmit lane (R336): the PRBS of x^a + x^b + 1. -/
  | pattern (lane a b : Nat)
  /-- The strobe of a shot (R308): SSN, instant of its rising edge in ps and width in ns; the second pair carries it too. -/
  | strobe (ssn ps width : Nat) (both : Bool)
  /-- A transfer on the module's I²C bus (R323, R327): kHz, 7-bit address, register address, the bytes written, and bytes
  read. -/
  | i2c (khz address register : Nat) (write : List Byte) (read : Nat)
  /-- A frame of a deflection link (R382): axis, then CODE, SEQ, FLAGS and CRC as the six data characters after K28.1. -/
  | defl (axis : Nat) (chars : List Byte)
  /-- A memory read and a memory write of a DMA channel: channel, host address, attributes. -/
  | hostRead (channel address length : Nat) (attr : DmaAttr)
  | hostWrite (channel address : Nat) (bytes : List Byte) (attr : DmaAttr)
  /-- An ATS translation request for a host page, a Page Request, an Invalidate Completion (R184, R185, R189). -/
  | translationRequest (page : Nat)
  | pageRequest (index page : Nat) (write : Bool)
  | invalidateCompletion (first pages : Nat)
  /-- A BAR0 read completed with Unsupported Request (R160). -/
  | unsupportedRequest
  /-- An answer to ARP or neighbour discovery: port, IPv6 or not, to whom, the address, the MAC (R66). -/
  | resolution (port : Nat) (v6 : Bool) (asker target mac : List Byte)
  /-- An echo reply (R66). -/
  | echoReply (port : Nat) (v6 : Bool) (asker : List Byte) (data : List Byte)
  deriving DecidableEq, Repr

/-! ### The device -/

/-- What the MEASURE command named (R231): where the index entry and its data lie, and the stripe's direction, origin and
selected columns, as they stood when the command was accepted. -/
structure MeasureRun where
  src : Source
  direction : Nat
  origin : Int
  columns : Nat
  deriving DecidableEq, Repr

/-- Everything the spec gives the machine but the layout store's bytes. -/
structure Dev where
  /-- The operating mode (R91); 0x2000 MODE reports it. -/
  mode : Mode
  /-- The ordering code is KX7262-FBH (R1, R2). -/
  highRate : Bool
  /-- The value of every numeric object that differs from its default (R2 to R590). -/
  objs : Map Nat
  /-- The value of every OCTETS or STRING object written or set, absent at its default. -/
  blobs : Map (List Byte)
  /-- The effective gain table, as keeper non-volatile memory holds it (R50, R52). -/
  effGains : Map Nat
  /-- RW-L values in effect (R44, R45). -/
  eff : Map Nat
  /-- RW-L tables in effect. -/
  effBlobs : Map (List Byte)
  /-- 0x3010 BEAM_GAIN_TABLE: U2.14 gain by 512 · r + c; 0 where absent (R48). -/
  gains : Map Nat
  /-- The model's own: how many free values have been taken. -/
  free : Nat
  /-- BLANK_ALL_N is asserted (R334, R579). -/
  blanked : Bool
  /-- What the block has sent to the outside, newest first. -/
  out : List Out
  /-- Sessions, subscriptions, mailbox. -/
  cop : Cop
  /-- Event recorder (R526 to R536). -/
  recorder : Recorder
  /-- Event counters by number (R16, R538). -/
  counters : Map Nat
  /-- Random tagging (R543). -/
  tag : Tagging
  /-- Device clock (R504 to R523). -/
  clock : Clock
  /-- Ledger and journal (R425 to R460). -/
  ledger : Ledger
  /-- Keeper die (R567 to R588). -/
  keeper : Keeper
  /-- The stripes in progress, in the order of their opening (R43). -/
  stripes : List Stripe
  /-- Number of the next opening. -/
  nextUid : Nat
  /-- Entry-sequence number of the next stripe's row 0 (R208). -/
  nextEntry : Nat
  /-- Expansion and press. -/
  unfold : Unfold
  /-- The layout store beside its bytes (R464 to R490). -/
  dram : StoreState
  /-- The mangle: segments, shots, engines (R257 to R291). -/
  conv : Conveyor
  /-- Beam link and module (R292 to R340). -/
  link : Link
  /-- Position channels and shot timing (R341 to R375). -/
  stage : Stage
  /-- Tracking servo (R376 to R402). -/
  servo : Servo
  /-- Recovery (R447 to R453). -/
  rescue : Rescue
  /-- Calibration and firmware (R548 to R564). -/
  service : Service
  /-- Auxiliary axes by number; at Axis.reset where not listed (R403 to R424). -/
  axes : Map Axis
  /-- Host feed (R158 to R192). -/
  feed : HostFeed
  /-- Rinse engines (R497). -/
  rinse : Rinse
  /-- The soak of boot runs (R101). -/
  soaking : Bool
  /-- Start and length of the range of the march test that runs or ran last (R103). -/
  march : Nat × Nat
  /-- Number of the sequence of SSNs in use, which a job's acceptance and a MEASURE without a job begin (R34, R38). -/
  sequence : Nat
  /-- What the last accepted MEASURE command named (R231). -/
  measuring : MeasureRun
  /-- The instruction in the test access port (R604; IDCODE in Test-Logic-Reset). -/
  tap : Nat
  /-- The cells of the boundary register, in the order of `boundaryBalls` (R605); beyond its end they hold 0. -/
  boundary : List Bool
  deriving DecidableEq, Repr

/-- The device right after power-on (R575 source 1, R577): mode KEEP, every object at its default. -/
def Dev.reset : Dev where
  mode := .keep
  highRate := false
  objs := []
  blobs := []
  effGains := []
  eff := []
  effBlobs := []
  gains := []
  free := 0
  blanked := true
  out := []
  cop := { sessions := [], subs := [], bar2 := [], areas := [] }
  recorder := { queue := [], dropped := 0, dropCode := 0, first := [], start := [], ring := [] }
  counters := []
  tag := { lfsr := 0, seq := 0, records := [] }
  clock := Clock.reset
  ledger := Ledger.reset
  keeper := Keeper.reset
  stripes := []
  nextUid := 1
  nextEntry := 0
  unfold := { contexts := [], engines := [], parts := [], edges := [], cells := [], fill := none, map := none, refills := [],
              line := [], queue := [], grid := [], runs := [] }
  dram := StoreState.reset
  conv := Conveyor.reset
  link := Link.reset
  stage := Stage.reset
  servo := Servo.reset
  rescue := { at_ := 0, cut := none, seen := [] }
  service := { cal := [], images := [], versions := [], change := none }
  axes := []
  feed := HostFeed.reset
  rinse := { next := [], began := [], took := [], correctedAt := [] }
  soaking := false
  march := (0, 0)
  sequence := 0
  measuring := { src := { base := 0, foldA := 0, indexOffset := 0, length := 0, tileRows := 0 }, direction := 0, origin := 0, columns := 0 }
  tap := 0x02
  boundary := []

/-- The state: the commands that wait, the layout store's bytes, and the device.
A byte of the store that no pair lists reads 0x00 (log entry 3). -/
structure State where
  pending : List Instr
  store : List Host.Cell
  dev : Dev
  deriving DecidableEq, Repr

/-- Why a step stops with a fault. -/
inductive Fault where
  /-- A READ, WRITE, READ_BLOCK, WRITE_BLOCK or SUBSCRIBE command whose message carries another row's OP: the term is
  no command of that row. Raised by those five meanings; safe, since the message itself is another row's command. -/
  | illFormed (mnemonic : String)
  deriving DecidableEq, Repr

/-- Why a step is refused. -/
inductive Refusal where
  /-- The command has no meaning yet; raised by the arms of exec only; safe. -/
  | notModelled (mnemonic : String)
  deriving DecidableEq, Repr

/-- The machine right after reset: no command waits, the store lists nothing, the device is just powered on. -/
def State.reset : State := { pending := [], store := [], dev := Dev.reset }

end Sys2Proof.Machine
end

