-- ==== Sys2Proof/Machine/Ops.lean ====
section
/-!
DEFINITION. Sys2Proof/Machine/Ops.lean: the named operations over the device that every family uses.
Reading and writing objects, raising events, journalling, changing the mode, claiming resources, sending.
-/
namespace Sys2Proof.Machine

/-! ### Objects -/

/-- The value of a numeric object, as its raw bits. -/
def Dev.get (k : Nat) (d : Dev) : Nat := Map.get (dfltOf k) d.objs k

/-- Sets the value of a numeric object. -/
def Dev.put (k v : Nat) (d : Dev) : Dev := { d with objs := Map.put (dfltOf k) k v d.objs }

/-- The value of a signed object of `w` bits. -/
def Dev.geti (w k : Nat) (d : Dev) : Int := toSigned w (d.get k)

/-- Sets a signed object of `w` bits. -/
def Dev.puti (w k : Nat) (v : Int) (d : Dev) : Dev := d.put k (ofSigned w v)

/-- The value in effect of an RW-L object (R44). -/
def Dev.inEffect (k : Nat) (d : Dev) : Nat := Map.get (dfltOf k) d.eff k

/-- The signed value in effect of an RW-L object. -/
def Dev.inEffecti (w k : Nat) (d : Dev) : Int := toSigned w (d.inEffect k)

/-- Adds `n` to a counter of `w` bits, which wraps. -/
def Dev.add (w k n : Nat) (d : Dev) : Dev := d.put k ((d.get k + n) % 2 ^ w)

/-- Adds 1 to a 32-bit counter, which wraps. -/
def Dev.bump (k : Nat) (d : Dev) : Dev := d.add 32 k 1

/-- Whether bit `n` of an object is set. -/
def Dev.bit (k n : Nat) (d : Dev) : Bool := bitAt (d.get k) n

/-- Sets bit `n` of an object to `b`. -/
def Dev.putBit (k n : Nat) (b : Bool) (d : Dev) : Dev := d.put k (setBit (d.get k) n b)

/-- Runs `f` when `c` holds. -/
def Dev.when (c : Bool) (f : Dev → Dev) (d : Dev) : Dev := if c then f d else d

/-- Runs `f` for every element of a list, in order. -/
def Dev.each {α : Type} (l : List α) (f : α → Dev → Dev) (d : Dev) : Dev := l.foldl (fun d a => f a d) d

/-! ### Modes and the clock's reading -/

/-- The mode codes of R91. -/
def Mode.code : Mode → Nat
  | .off => 0
  | .keep => 1
  | .wake => 2
  | .test => 3
  | .setup => 4
  | .ready => 5
  | .measure => 6
  | .write => 7
  | .hold => 8
  | .mend => 9
  | .service => 10
  | .safe => 11

/-- The main die runs (R91). -/
def Dev.running (d : Dev) : Bool := decide (d.mode ≠ .off) && decide (d.mode ≠ .keep)

/-- A job is open (R616). -/
def Dev.jobOpen (d : Dev) : Bool := d.ledger.job.isSome

/-- T in 2^−16 ns at a RAW value (R505). -/
def Dev.timeAt (raw : Nat) (d : Dev) : Int :=
  (raw : Int) * 65536 + ((raw : Int) * d.clock.rho) / 4294967296 + d.clock.omega

/-- T_NS, modulo 2^64 (R505). -/
def Dev.tNs (d : Dev) : Nat := ofSigned 64 (d.timeAt d.clock.raw / 65536)

/-- BACKUP_NS (R586). -/
def Dev.backupNs (d : Dev) : Nat :=
  ofSigned 64 (d.keeper.base + (d.keeper.ticks * 1000000000 / 32768 : Nat))

/-- The time that stamps an event (R528). -/
def Dev.stamp (d : Dev) : Nat := if d.running then d.tNs else d.backupNs

/-- A WARN condition is present (R571, R573): a rail is below WARN, or PWR_FAIL_N was low for WARN_FILTER. -/
def Dev.warnPresent (d : Dev) : Bool :=
  d.keeper.pwrFailWarn || (List.range 10).any fun r => d.get (Obj.RAIL_STATE r) ≠ 0

/-- SSN of the next shot (0x3021). -/
def Dev.ssnNext (d : Dev) : Nat := d.get Obj.SSN_NEXT

/-! ### Events -/

/-- The number of an event's counter, where it has one (R538). -/
def eventCounter (code : Nat) : Option Nat :=
  if 1 ≤ code % 256 ∧ code % 256 ≤ 31 then some ((code / 256 - 1) * 32 + code % 256) else none

/-- Counts an event (R538): while the main die runs, modulo 2^48; an occurrence that a rate limit keeps from the recorder
counts too. -/
def Dev.count (code : Nat) (d : Dev) : Dev :=
  match d.running, eventCounter code with
  | true, some n => { d with counters := Map.put 0 n ((Map.get 0 d.counters n + 1) % 2 ^ 48) d.counters }
  | _, _ => d

/-- Hands an event's record to the recorder queue; a record that finds 1,024 waiting is dropped (R533). -/
def Dev.record (source code : Nat) (params : List Nat) (d : Dev) : Dev :=
  let r : EventRecord := { seq := 0, code := code, source := source, time := d.stamp,
                           params := (params ++ [0, 0, 0, 0]).take 4 |>.map (· % 2 ^ 32) }
  if d.recorder.queue.length < 1024 then { d with recorder := { d.recorder with queue := d.recorder.queue ++ [r] } }
  else
    let first := if d.recorder.dropped = 0 then code else d.recorder.dropCode
    { d with recorder := { d.recorder with dropped := d.recorder.dropped + 1, dropCode := first } }
      |>.bump Obj.DROPPED

/-- An event that is not marked J: counted and recorded (R537, R538). -/
def Dev.raise (source code : Nat) (params : List Nat) (d : Dev) : Dev := (d.count code).record source code params

/-! ### Resources (R112 to R115) -/

/-- Whether an owner entry lets the feature `owner` claim it (R113). -/
def Dev.free? (k owner : Nat) (d : Dev) : Bool := decide (d.get k = 0 ∨ d.get k = owner)

/-- Claims a resource for a feature (R113). -/
def Dev.claim (k owner : Nat) (d : Dev) : Dev := d.put k owner

/-- Releases a claim of the feature `owner`. -/
def Dev.unclaim (k owner : Nat) (d : Dev) : Dev := if d.get k = owner then d.put k 0 else d

/-! ### What entering SAFE stops -/

/-- A timer's claims are released. -/
def Dev.releaseTimer (t : Nat) (d : Dev) : Dev :=
  let o := d.get (Obj.TIMER_OWNER t)
  let d1 := d.put (Obj.TIMER_OWNER t) 0
  if d.get (Obj.TIMER_ACTION t) = 1 then d1.unclaim (Obj.COMPARE_OWNER (bits (d.get (Obj.ARG t)) 1 0)) o else d1

/-- ENABLE of every general timer is cleared (R373). -/
def Dev.stopTimers (d : Dev) : Dev :=
  d.each (List.range 16) fun t d =>
    if d.get (Obj.TIMER_ENABLE t) = 1 then ((d.releaseTimer t).put (Obj.TIMER_ENABLE t) 0).put (Obj.TIMER_STATE t) 0 else d

/-- Every auxiliary axis that moves stops at STOP_DECEL (R422). -/
def Dev.haltAxes (d : Dev) : Dev :=
  d.each (List.range 4) fun a d =>
    let x := Map.get Axis.reset d.axes a
    let y := { x with stop := 2, home := 0, after := if x.after = .fault then .fault else .rest }
    if 2 ≤ d.get (Obj.AXIS_STATE a) ∧ d.get (Obj.AXIS_STATE a) ≤ 5 then
      { d with axes := Map.put Axis.reset a y d.axes }.put (Obj.AXIS_STATE a) 5
    else d

/-- PAUSE is set in every DMA channel (R179). -/
def Dev.pauseChannels (d : Dev) : Dev :=
  let f (m : Map DmaChannel) (n : Nat) : Map DmaChannel :=
    let c := Map.get DmaChannel.reset m n
    Map.put DmaChannel.reset n { c with ctrl := setBit c.ctrl 1 true } m
  { d with feed := { d.feed with channels := (List.range 32).foldl f d.feed.channels } }

/-! ### The store's translation (R465 to R467) -/

/-- Bytes of a store page, and pages of the store (R465). -/
def pageBytes : Nat := 2097152
def storePages : Nat := 2097152

/-- The physical page of store page `p` in the default layout (R467). -/
def StoreState.defaultPage (t : StoreState) (p : Nat) : Option Nat :=
  let n := t.layout.length
  if n = 0 ∨ t.perRank ≤ p / n then none else some (32768 * t.layout.getD (p % n) 0 + p / n)

/-- The newest remap entry of a page. -/
def StoreState.remapped (t : StoreState) (p : Nat) : Option (Option Nat) :=
  ((t.remap.filter fun e => e.1 = p).getLast?).map Prod.snd

/-- The physical page of store page `p` in effect (R467); none where it is not mapped. -/
def StoreState.physical (t : StoreState) (p : Nat) : Option Nat :=
  match t.remapped p with
  | some e => e
  | none => if p < storePages then t.defaultPage p else none

/-- The rank on which a burst lies, counted in bursts of 64 bytes from store address 0. -/
def StoreState.rankOf (t : StoreState) (burst : Nat) : Option Nat := (t.physical (burst / 32768)).map fun x => x / 32768

/-- The requests at a store channel: real-time or background; none while a read that waits is not sized yet (R475, R540). -/
def Dev.channelRequests (real : Bool) (i : Nat) (d : Dev) : Option Nat :=
  let q := d.dram.queue
  if q.any fun r => decide (r.last = 0) then none
  else some (q.filter fun r => decide (r.real = real ∧ (d.dram.rankOf r.start).map (· / 4) = some i)).length

/-- The requests of a context leave the store's queue. -/
def Dev.unask (q : Nat) (d : Dev) : Dev := { d with dram := { d.dram with queue := d.dram.queue.filter fun r => r.asker ≠ q } }

/-- A context becomes idle: what it held is gone, and no engine holds it. -/
def Dev.dropCtx (q : Nat) (d : Dev) : Dev :=
  { d.unask q with unfold := { d.unfold with
      contexts := Map.erase q d.unfold.contexts, engines := d.unfold.engines.filter fun e => e.2 ≠ q + 1 } }

/-- The free pool contexts, lowest first. -/
def Dev.freePool (d : Dev) : List Nat := (List.range 32).filter fun j => d.get (Obj.CONTEXT_OWNER j) = 0

/-- A context that serves nothing yet. -/
def Context.fresh (uid column : Nat) : Context where
  serves := .tiles
  uid := uid
  column := column
  row := 0
  block := 0
  offset := 0
  seq := 0
  hist := []
  rep := []
  repFail := 0
  state := 0
  waits := 0
  pages := []
  waitCell := 0
  bitPos := 0
  adapt := Adapt.start
  part := []
  window := []
  windowAt := 0
  waited := false
  begun := false
  downs := 0
  held := 0
  cls := 0

/-- A deficit-map output that runs holds the highest-numbered free pool context, as soon as one is free (R230); its work is
the compressor's (class 3). -/
def Dev.claimMap (d : Dev) : Dev :=
  if d.get Obj.DMAP_STATE ≠ 1 ∨ d.unfold.map.isSome then d
  else
    match d.freePool.getLast? with
    | none => d
    | some j =>
      let c : Context := { Context.fresh 0 0 with serves := .map, state := 3, begun := true }
      { d.put (Obj.CONTEXT_OWNER j) 0x0600 with unfold := { d.unfold with
          contexts := Map.insert (128 + j) c d.unfold.contexts, engines := Map.insert 96 (128 + j + 1) d.unfold.engines,
          map := some j } }

/-- The pool contexts of MEASURE are released (R229). -/
def Dev.releaseMeasure (d : Dev) : Dev :=
  (d.each (List.range 32) fun j d =>
    if d.get (Obj.CONTEXT_OWNER j) / 256 = 7 then (d.dropCtx (128 + j)).put (Obj.CONTEXT_OWNER j) 0 else d).claimMap

/-- What the entry into SAFE does in other chapters: a pending overdose ends (R60), the timers stop (R373), the axes
stop (R422), the DMA channels pause (R179). -/
def Dev.onSafe (d : Dev) : Dev :=
  ({ d with ledger := { d.ledger with overdose := false } }.stopTimers).haltAxes.pauseChannels

/-! ### The journal and SAFE -/

/-- The SSN field of an entry that affects no shot (R436). -/
def noShot : Nat := 2 ^ 64 - 1

/-- Journal entries still free (R435). -/
def Dev.journalFree (d : Dev) : Nat := 262144 - d.ledger.entries.length

/-- The keeper accepts a journal entry (R437), while a job is open (R616). -/
def Dev.append (code ssn : Nat) (body : JournalBody) (d : Dev) : Dev :=
  match d.ledger.job with
  | none => d
  | some j =>
    { d with ledger := { d.ledger with
        entries := d.ledger.entries ++ [{ code := code, job := j.id % 2 ^ 16, ssn := ssn, body := body }] } }

/-- Bits [31:0] and [47:32] of an SSN, as events carry it. -/
def lo32 (n : Nat) : Nat := n % 2 ^ 32
def hi16 (n : Nat) : Nat := n / 2 ^ 32

/-- Every entry of a shot is discarded: sent with BLANK (R266). -/
def Shot.discard (t : Shot) : Shot :=
  let f (v : Half) : Half := if v.done = 0 then { v with done := 4 } else v
  { t with segs := t.segs.map fun e => (e.1, { e.2 with half0 := f e.2.half0, half1 := f e.2.half1 }) }

/-- BLANK_ALL_N between a shot's launch and its strobe discards every entry of the shot (R266). -/
def Dev.blankShot (t : Shot) (d : Dev) : Dev :=
  let ps := [lo32 t.ssn, hi16 t.ssn, 0, 0]
  let f (u : Shot) : Shot := if u.ssn = t.ssn then u.discard else u
  let d1 := { d with conv := { d.conv with shots := d.conv.shots.map f } }
  (d1.append 0x0610 t.ssn (.event ps [])).raise 0x3000 0x0610 ps

/-- Drives BLANK_ALL_N asserted (R266, R334, R579). -/
def Dev.blankAll (d : Dev) : Dev :=
  if d.blanked then d
  else
    { d.each (d.conv.shots.filter fun t => t.launched && ! t.blank && t.struck.isNone) Dev.blankShot with blanked := true }

/-- The modes of R93's last rows but one: WAKE to SERVICE. -/
def Mode.canSafe : Mode → Bool
  | .off => false
  | .keep => false
  | .safe => false
  | _ => true

/-- A change of mode (R93, R99): journalled before it is reported when it leaves WRITE, MEND or HOLD or enters SAFE
while a job is open, and recorded as MODE_CHANGE. The transition out of MEASURE releases its pool contexts (R229). -/
def Dev.changeMode (cause : Nat) (m : Mode) (d : Dev) : Dev :=
  let ps := [d.mode.code, m.code, cause, d.ssnNext % 2 ^ 32]
  let leaves := decide (d.mode = .write ∨ d.mode = .mend ∨ d.mode = .hold ∨ m = .safe)
  let d1 := if leaves then d.append 0x0201 d.ssnNext (.event ps []) else d
  let d2 := if m = .safe then d1.onSafe else d1
  let d2 := if d.mode = .measure ∧ m ≠ .measure then d2.releaseMeasure else d2
  { d2 with mode := m }.raise 0 0x0201 ps

/-- The transition to SAFE with BLANK_ALL_N asserted (R93): cause 0x01 for ENTER_SAFE, 0x06 for a latched fault,
0x07 for boot, 0x08 for soak. -/
def Dev.enterSafe (cause : Nat) (d : Dev) : Dev :=
  if d.mode.canSafe then (d.changeMode cause .safe).blankAll else d

/-- JOURNAL_LOW sets a pending pause, JOURNAL_FULL enters SAFE (R442). -/
def Dev.journalLevel (d : Dev) : Dev :=
  let d1 :=
    if d.jobOpen ∧ d.journalFree < d.get Obj.JOURNAL_RESERVE ∧ ¬ d.ledger.lowReported then
      { d with ledger := { d.ledger with lowReported := true } }
        |>.append 0x0B09 noShot (.event [d.journalFree] [])
        |>.raise 0 0x0B09 [d.journalFree]
        |>.put Obj.PAUSE_PENDING 1
    else d
  if d1.jobOpen ∧ d1.journalFree < 1024 ∧ d1.mode.canSafe then
    (d1.raise 0 0x0B0A [d1.journalFree]).enterSafe 6
  else d1

/-- Journals an entry and watches the free entries (R437, R442). -/
def Dev.journal (code ssn : Nat) (body : JournalBody) (d : Dev) : Dev := (d.append code ssn body).journalLevel

/-- An event marked J: journalled while a job is open, then recorded (R529, R616). `ssn` is the first shot it
affects, `data` its bytes from 32 on. -/
def Dev.raiseJ (source code ssn : Nat) (params : List Nat) (data : List Byte) (d : Dev) : Dev :=
  (d.journal code ssn (.event (params.map (· % 2 ^ 32)) data)).raise source code params

/-! ### On-chip memory errors (R493, R502) -/

/-- The SOURCE of an array's events (R527): a segment, UNFOLD, PRESS, STORE or HOST. -/
def memSource (id part : Nat) : Nat :=
  if id < 5 then 0x1000 + part else if id < 9 then 0x4000 else if id < 12 then 0x4100 else if id = 12 then 0x4200 else 0x4300

/-- The instance and word address of an array's last error. -/
def Dev.lastError (id part addr : Nat) (d : Dev) : Dev := (d.put (Obj.LAST_INSTANCE id) part).put (Obj.LAST_ADDRESS id) addr

/-- A read that corrects a word: source 0 functional, 1 rinse. MEM_CORRECTED at most once per second per instance. -/
def Dev.memCorrected (id part addr source : Nat) (d : Dev) : Dev :=
  let d1 := (d.bump (Obj.ARRAY_CORRECTED id)).lastError id part addr
  let key := 1024 * id + part
  let last := Map.get 0 d.rinse.correctedAt key
  if last = 0 ∨ last + 1000000000 ≤ d.clock.raw + 1 then
    { d1.raise (memSource id part) 0x0D01 [id, part, addr, source] with
      rinse := { d.rinse with correctedAt := Map.put 0 key (d.clock.raw + 1) d.rinse.correctedAt } }
  else d1.count 0x0D01

/-- A read that finds an uncorrectable word: source 0 functional, 1 rinse, 2 valid bits. -/
def Dev.memUncorrectable (id part addr source : Nat) (d : Dev) : Dev :=
  ((d.bump (Obj.ARRAY_UNCORRECTABLE id)).lastError id part addr).raiseJ (memSource id part) 0x0D02 noShot
    [id, part, addr, source] []

/-! ### Transitions that several chapters cause -/

/-- WRITE or MEND goes to HOLD (R93): cause 1 command, 2 interlock, 3 supply WARN, 4 stage reversal. -/
def Dev.enterHold (cause : Nat) (d : Dev) : Dev :=
  match d.mode with
  | .write => (d.changeMode cause .hold).put Obj.HOLD_ORIGIN 7
  | .mend => (d.changeMode cause .hold).put Obj.HOLD_ORIGIN 9
  | _ => d

/-- A pending pause that a rule other than PAUSE sets (R97). -/
def Dev.pendPause (d : Dev) : Dev := d.put Obj.PAUSE_PENDING 1

/-! ### What leaves the block -/

/-- Sends something to the outside. -/
def Dev.send (o : Out) (d : Dev) : Dev := { d with out := o :: d.out }

/-! ### Free values -/

/-- Takes a value that the spec leaves open: the model's own counter advances (log entry 1). -/
def Dev.takeFree (d : Dev) : Nat × Dev := (Config.freeValue d.free, { d with free := d.free + 1 })

/-! ### Occupancies and threshold counters (R540) -/

/-- Rows of the stripe that enter S0: all, or those that had entered at STOP (R98). -/
def Stripe.rowsIn (s : Stripe) : Nat := if s.last.isSome then s.entered else s.src.length

/-- Entry-sequence number of the next row to enter S0. -/
def Dev.front (d : Dev) : Nat :=
  match d.stripes.find? fun s => s.entered < s.rowsIn with
  | some s => s.entry + s.entered
  | none => d.nextEntry

/-- The key of tile column `tc` of own row `y`. -/
def Stripe.partKey (y tc : Nat) (s : Stripe) : Nat := 32 * (s.entry + y) + tc

/-- The part of a row in the basket; an unselected column of MEASURE is EMPTY. -/
def Dev.part? (s : Stripe) (y tc : Nat) (d : Dev) : Option Part :=
  if s.kind = 2 ∧ ¬ bitAt s.columns tc then some { samples := List.replicate 256 0, scale := 0x4000, reason := 0 }
  else Map.find d.unfold.parts (s.partKey y tc)

/-- Every part of a row is complete or carries a reason. -/
def Dev.rowFinished (s : Stripe) (y : Nat) (d : Dev) : Bool :=
  (List.range 32).all fun tc => (d.part? s y tc).isSome

/-- The stripe and row of an entry-sequence number. -/
def Dev.rowOfEntry (e : Nat) (d : Dev) : Option (Stripe × Nat) :=
  (d.stripes.find? fun s => s.entry ≤ e ∧ e < s.entry + s.src.length ∧ s.last.isNone).map fun s => (s, e - s.entry)

/-- Consecutive finished rows from entry `e` on, at most `n`. -/
def Dev.leadFrom (d : Dev) : Nat → Nat → Nat
  | 0, _ => 0
  | n + 1, e =>
    match d.rowOfEntry e with
    | none => 0
    | some (s, y) => if d.rowFinished s y then d.leadFrom n (e + 1) + 1 else 0

/-- LEAD_ROWS (0x4012:01). -/
def Dev.leadRows (d : Dev) : Nat := d.leadFrom 1024 d.front

/-- A context is a check job's (R229). -/
def Dev.isCheckJob (q : Nat) (d : Dev) : Bool := decide (128 ≤ q ∧ d.get (Obj.CONTEXT_OWNER (q - 128)) / 256 = 8)

/-- A half's entry is disposed of (R266): written, or discarded. -/
def Half.disposed (v : Half) : Bool := v.applied || decide (v.done = 2 ∨ v.done = 4)

/-- Entries pending in a segment. -/
def Dev.pendingIn (seg : Nat) (d : Dev) : Nat :=
  (d.conv.shots.filter fun t => (Map.find t.segs seg).any fun g => ! g.half0.disposed || ! g.half1.disposed).length

/-- HF_OUTSTANDING: memory reads that have not come back and translation requests. -/
def Dev.outstanding (d : Dev) : Nat :=
  (d.feed.channels.map fun e => (e.2.units.filter fun u => !u.up && !u.back).length).sum + d.feed.asked.length

/-- The clock of an occupancy's island (R540); the keeper's local oscillator is not stated (Config). -/
def thresholdHz (source : Nat) : Nat :=
  match source with
  | 0 => 0
  | 3 => 1600000000
  | 4 => 1600000000
  | 5 => 1600000000
  | 6 => 1200000000
  | 7 => 1200000000
  | 0xB => Config.keeperHz
  | 0xC => 250000000
  | _ => 1000000000

/-- The occupancy that a threshold counter's SOURCE and INSTANCE select (R540). None for the requests at a store channel
while one of them is not sized (log entry 25); no request waits at the control supervisor, which serves each as it comes. -/
def Dev.occupancy (source i : Nat) (d : Dev) : Option Nat :=
  match source with
  | 1 => some d.outstanding
  | 2 => some ((Map.get DmaChannel.reset d.feed.channels i).fill / 256)
  | 3 => (d.channelRequests true i).map fun n => min 8 n
  | 4 => d.channelRequests false i
  | 5 => some (Map.get 0 d.dram.debt i)
  | 6 => some (1024 - d.leadRows)
  | 7 => some (d.unfold.contexts.filter fun e => e.2.state = 2 ∧ e.2.cls = i ∧ ! d.isCheckJob e.1).length
  | 8 => some (32 - d.unfold.queue.length)
  | 9 => some (d.pendingIn i)
  | 0xB => some d.recorder.queue.length
  | 0xC => some (((Map.find d.stage.probes i).map fun p => p.queue.length).getD 0)
  | 0xD => some d.clock.captures.length
  | _ => some 0

/-- The most that an occupancy without a place in the model can be (R540). -/
def occupancyMax (source : Nat) : Nat := if source = 3 then 8 else 256

/-- Of `cycles` cycles, those in which an occupancy exceeds `n`: all or none where the state has the occupancy, since the
state stays as it is between two commands; else a free value up to `cycles`, and none where `n` is the range's end. -/
def Dev.cyclesAbove (source i n cycles : Nat) (d : Dev) : Nat × Dev :=
  match d.occupancy source i with
  | some v => (if n < v then cycles else 0, d)
  | none => if occupancyMax source ≤ n then (0, d) else (d.takeFree.1 % (cycles + 1), d.takeFree.2)

/-- An enabled threshold counter counts the cycles of its occupancy's clock in the `n` ns from `raw` on (R540). -/
def Dev.countThreshold (raw n t : Nat) (d : Dev) : Dev :=
  if d.get (Obj.THR_ENABLE t) = 0 then d
  else
    let source := d.get (Obj.THR_SOURCE t)
    let hz := thresholdHz source
    let cycles := (raw + n) * hz / 1000000000 - raw * hz / 1000000000
    let v := d.cyclesAbove source (d.get (Obj.THR_INSTANCE t)) (d.get (Obj.N t)) cycles
    (v.2.add 48 (Obj.THR_COUNT t) v.1).add 48 (Obj.ELAPSED t) cycles

/-! ### Time passes -/

/-- Bits per ns of a transmit lane (R293). -/
def Dev.laneGbps (d : Dev) : Nat := if d.get Obj.LANE_RATE = 0 then 16 else if d.get Obj.LANE_RATE = 1 then 28 else 32

/-- The bit of a pattern next generated is the one that INJECT_RATE `k` inverts: one in every 2^k (R337). -/
def rateHits (k sent : Nat) : Bool := decide (k ≠ 0) && decide ((sent + 1) % 2 ^ k = 0)

/-- A pattern's checker reads `n` bits of its own generator of which only those at INJECT_RATE are inverted (R337): bits and
errors counted after the lock, and the pattern after. The rates leave more than 64 bits between two errors. -/
def PatternRun.check (k n : Nat) (p : PatternRun) : Nat × Nat × PatternRun :=
  let stop := p.sent + n
  let next := (p.sent / 2 ^ k + 1) * 2 ^ k
  let errorsFrom (a : Nat) : Nat := if k = 0 then 0 else stop / 2 ^ k - a / 2 ^ k
  let free := p.sent + (64 - p.clean)
  let lock := if 64 ≤ p.clean then p.sent else if k = 0 ∨ free < next then free else next + 64
  if lock ≤ stop then (stop - lock, errorsFrom lock, { p with sent := stop, clean := 64 })
  else
    let clean := if k ≠ 0 ∧ next ≤ stop then stop - next else p.clean + n
    (0, 0, { p with sent := stop, clean := clean })

/-- The bit that INJECT inverts is generated and read (R337); inverted twice it is no error. -/
def PatternRun.checkOne (k : Nat) (p : PatternRun) : Nat × Nat × PatternRun :=
  let q := { p with sent := p.sent + 1, inject := false }
  if rateHits k p.sent then if 64 ≤ p.clean then (1, 0, q) else (0, 0, { q with clean := p.clean + 1 })
  else if 64 ≤ p.clean then (1, 1, q) else (0, 0, { q with clean := 0 })

/-- What a checker that reads its own generator counts over `n` bits. -/
def PatternRun.read (k n : Nat) (p : PatternRun) : Nat × Nat × PatternRun :=
  if p.inject then
    let a := p.checkOne k
    let b := a.2.2.check k (n - 1)
    (a.1 + b.1, a.2.1 + b.2.1, b.2.2)
  else p.check k n

/-- A pattern's generator and checker run for `n` ns (R336, R337). A transmit lane's checker reads the lane only through its
near-end loopback; a return lane's reads its own generator in loopback, else what arrives from the module, whose bits and
errors are free values. -/
def Dev.countPattern (n lane : Nat) (d : Dev) : Dev :=
  match Map.find d.link.patterns lane with
  | none => d
  | some p =>
    let total := n * (if lane < 136 then d.laneGbps else 10)
    let v := p.read (d.get (Obj.INJECT_RATE lane)) total
    let keep (q : PatternRun) (d : Dev) : Dev := { d with link := { d.link with patterns := Map.insert lane q d.link.patterns } }
    let count (b e : Nat) (d : Dev) : Dev := (d.add 64 (Obj.PAT_BITS lane) b).add 64 (Obj.PAT_ERRORS lane) e
    let unread : PatternRun := { v.2.2 with clean := if 64 ≤ p.clean then 64 else 0 }
    if d.get (Obj.LOOPBACK lane) = 1 then count v.1 v.2.1 (keep v.2.2 d)
    else if lane < 136 then keep unread d
    else
      let b := d.takeFree
      let e := b.2.takeFree
      let seen := b.1 % (total + 1)
      count seen (e.1 % (seen + 1)) (keep unread e.2)

/-- Every general timer that runs counts `n` STAGE clocks down (R372). -/
def Dev.countTimers (n : Nat) (d : Dev) : Dev :=
  d.each (List.range 16) fun t d =>
    if d.get (Obj.TIMER_ENABLE t) = 1 then d.put (Obj.TIMER_COUNT t) (d.get (Obj.TIMER_COUNT t) - n) else d

/-- Periods of the 32.768 kHz crystal in `n` ns (R586). -/
def crystalTicks (n : Nat) : Nat := n * 32768 / 1000000000

/-- RAW advances by `n` ns (R504): timers count STAGE clocks of 4 ns, patterns their bits, threshold counters their cycles,
the keeper crystal periods. -/
def Dev.advance (n : Nat) (d : Dev) : Dev :=
  if n = 0 then d
  else
    let raw := d.clock.raw
    let ticks := d.keeper.ticks + (crystalTicks (raw + n) - crystalTicks raw)
    let d1 := { d with clock := { d.clock with raw := raw + n }, keeper := { d.keeper with ticks := ticks } }
    let d2 := d1.each (List.range 64) (Dev.countThreshold raw n)
    (d2.countTimers ((raw + n) / 4 - raw / 4)).each (d.link.patterns.map Prod.fst) (Dev.countPattern n)

/-- RAW moves forward to an instant that an event carries. -/
def Dev.at (raw : Nat) (d : Dev) : Dev := d.advance (raw - d.clock.raw)

/-- The block idles for 1 ns (log entry 10). -/
def Dev.idle (d : Dev) : Dev := if d.running then d.advance 1 else d

/-! ### Meanings -/

/-- A command that changes the device only: the queue and the layout store's bytes stay. -/
def State.next (s : State) (f : Dev → Dev) : Host.Outcome State Fault Refusal := .next { s with dev := f s.dev }

/-- A command whose effect reads the store. -/
def State.nextMem (s : State) (f : Map Byte → Dev → Dev) : Host.Outcome State Fault Refusal :=
  .next { s with dev := f s.store s.dev }

/-- Writes bytes into the store, address by address; a byte 0x00 is not listed (log entry 3). -/
def storeWrite (ws : List (Nat × List Byte)) (mem : Map Byte) : Map Byte :=
  ws.foldl (fun m (w : Nat × List Byte) => Map.puts 0 w.1 w.2 m) mem

/-- A command that writes the store: what it writes, and the device after. -/
def State.nextStore (s : State) (f : Map Byte → Dev → List (Nat × List Byte) × Dev) : Host.Outcome State Fault Refusal :=
  .next { s with store := storeWrite (f s.store s.dev).1 s.store, dev := (f s.store s.dev).2 }

end Sys2Proof.Machine
end

