-- ==== Sys2Proof/Machine/Operands.lean ====
section
/-!
DEFINITION. Sys2Proof/Machine/Operands.lean: the operand forms of requests.
COP messages as bytes (R68), the aborts and their order (R62), and the values of objects as bytes (R71).
-/
namespace Sys2Proof

open Machine

/-! ### Messages (R68) -/

/-- The bytes of a message before its CRC. -/
def Msg.body (m : Msg) : List Byte :=
  [m.version, m.op, m.session, m.flags] ++ le 4 m.sequence.toNat ++ le 2 m.index.toNat ++ [m.sub, m.reserved]
    ++ le 4 m.offset.toNat ++ le 4 m.length.toNat ++ le 4 m.abort.toNat ++ m.payload

/-- All bytes of a message. -/
def Msg.encode (m : Msg) : List Byte := m.body ++ le 4 m.crc.toNat

/-- The CRC test of R69. -/
def Msg.crcOk (m : Msg) : Bool := decide (m.crc.toNat = crc32c (m.body))

/-- The message in a mailbox request of 28 + `n` bytes. -/
def Msg.decodeAs (n : Nat) (b : List Byte) : Msg where
  version := b.getD 0 0
  op := b.getD 1 0
  session := b.getD 2 0
  flags := b.getD 3 0
  sequence := BitVec.ofNat 32 (field b 4 4)
  index := BitVec.ofNat 16 (field b 8 2)
  sub := b.getD 10 0
  reserved := b.getD 11 0
  offset := BitVec.ofNat 32 (field b 12 4)
  length := BitVec.ofNat 32 (field b 16 4)
  abort := BitVec.ofNat 32 (field b 20 4)
  payload := slice b 24 n
  crc := BitVec.ofNat 32 (field b (24 + n) 4)

/-- The message in a mailbox request: 28 + LENGTH bytes (R85). A READ_BLOCK, whose LENGTH names the bytes to read, may
carry no payload, its CRC following the header (log entry 83). -/
def Msg.decode (b : List Byte) : Msg :=
  let bare := Msg.decodeAs 0 b
  if bare.op = 3 ∧ bare.crcOk then bare else Msg.decodeAs (min (field b 16 4) 8192) b

/-- The port code of R90. -/
def Port.code : Port → Nat
  | .net0 => 0
  | .net1 => 1
  | .mbox n => 4 + n.val

end Sys2Proof

namespace Sys2Proof.Machine

/-! ### Aborts (R62) -/

/-- The eleven aborts, in the order of their tests. -/
inductive Abort where
  | noObject | noSubindex | access | type | length | stateForbids | resourceBusy | range | check | busy | timeout
  deriving DecidableEq, Repr

/-- The abort values of R62. -/
def Abort.value : Abort → Nat
  | .noObject => 0x00010001
  | .noSubindex => 0x00010002
  | .access => 0x00010003
  | .type => 0x00010004
  | .length => 0x00010005
  | .stateForbids => 0x00020001
  | .resourceBusy => 0x00020002
  | .range => 0x00010006
  | .check => 0x00030001
  | .busy => 0x00020003
  | .timeout => 0x00030002

/-- The abort of the first test that fails; a test is listed with whether it fails. -/
def firstAbort : List (Abort × Bool) → Option Abort
  | [] => none
  | (a, fails) :: ts => if fails then some a else firstAbort ts

/-- How the device answers a request: carried out with a payload, or refused. A refusal's device differs from the
one before at most by the trace that R63 and the command's own status object allow. -/
inductive Answer where
  | ok (payload : List Byte) (d : Dev)
  | refuse (a : Abort) (d : Dev)

/-! ### Requests -/

/-- The operations of R68. -/
def opRead : Nat := 1
def opWrite : Nat := 2
def opReadBlock : Nat := 3
def opWriteBlock : Nat := 4
def opSubscribe : Nat := 5
def opNotify : Nat := 6

end Sys2Proof.Machine

namespace Sys2Proof

open Machine

/-- The query of a received message. -/
def Msg.query (sender : Sender) (m : Msg) : Query where
  sender := sender
  session := m.session.toNat
  sequence := m.sequence.toNat
  op := m.op.toNat
  index := m.index.toNat
  sub := m.sub.toNat
  offset := m.offset.toNat

/-- The query of a command request: a WRITE to one object. -/
def Req.write (r : Req) (index sub : Nat) : Query where
  sender := r.sender
  session := r.session.toNat
  sequence := r.sequence.toNat
  op := opWrite
  index := index
  sub := sub
  offset := 0

end Sys2Proof

namespace Sys2Proof.Machine

/-- Parameter 0 of R90. -/
def Query.param0 (q : Query) : Nat := q.index * 65536 + q.sub * 256 + q.session % 32 * 8 + q.sender.port.code

/-- The response to a query (R70): its CRC is that of the bytes before it. -/
def Query.response (q : Query) (abort : Nat) (payload : List Byte) : Msg :=
  let m : Msg :=
    { version := 1, op := BitVec.ofNat 8 q.op, session := BitVec.ofNat 8 q.session, flags := 1,
      sequence := BitVec.ofNat 32 q.sequence, index := BitVec.ofNat 16 q.index, sub := BitVec.ofNat 8 q.sub,
      reserved := 0, offset := BitVec.ofNat 32 q.offset, length := BitVec.ofNat 32 payload.length,
      abort := BitVec.ofNat 32 abort, payload := payload, crc := 0 }
  { m with crc := BitVec.ofNat 32 (crc32c (m.body)) }

/-! ### Values of objects as bytes -/

/-- The bytes of an ASCII text, padded with 0x00. -/
def textBytes (n : Nat) (s : String) : List Byte := padTo n (s.toList.map fun c => BitVec.ofNat 8 c.toNat)

/-- The value that a byte object holds where nothing else was written (the defaults of the object tables). -/
def Dev.dfltBytes (k n : Nat) (d : Dev) : List Byte :=
  if k = Obj.DEVICE_NAME then textBytes n "KX7262"
  else if k = Obj.ORDER_CODE then textBytes n (if d.highRate then "KX7262-FBH" else "KX7262-FB")
  else if k = Obj.DEVICE_UID then (List.range n).map Config.deviceUid
  else if k = Obj.NET_MAC 0 then (List.range n).map (Config.mac 0)
  else if k = Obj.NET_MAC 1 then (List.range n).map (Config.mac 1)
  else if k = Obj.FACTOR_TABLE then (List.replicate 1024 (le 2 0x4000)).flatten
  else if k = Obj.RAMP_TABLE then (List.range 64).flatMap fun i => le 2 (256 * i + 128)
  else if k = Obj.VBAND then [2560, 5120, 10240, 20480, 30720, 40960, 51200].flatMap (le 4)
  else if k = Obj.WAVE_BANK_0 ∨ k = Obj.WAVE_BANK_1 then
    padTo n ((List.range 64).flatMap (le 1)
      ++ (List.range 6).flatMap fun w => le 2 (40 + 4 * (2 ^ w - 1)) ++ le 2 (4 * 2 ^ w))
  else if Obj.BIQUAD 0 0 ≤ k ∧ k ≤ Obj.BIQUAD 1 3 then le 2 0x4000 ++ List.replicate 8 0 ++ [1, 0]
  else List.replicate n 0

/-- The value of a byte object of `n` bytes. -/
def Dev.blob (k n : Nat) (d : Dev) : List Byte :=
  match Map.get [] d.blobs k with
  | [] => d.dfltBytes k n
  | b => b

/-- Sets the value of a byte object. -/
def Dev.putBlob (k : Nat) (b : List Byte) (d : Dev) : Dev := { d with blobs := Map.put [] k b d.blobs }

/-- The value in effect of an RW-L byte object. -/
def Dev.blobInEffect (k n : Nat) (d : Dev) : List Byte :=
  match Map.get [] d.effBlobs k with
  | [] => d.dfltBytes k n
  | b => b

end Sys2Proof.Machine
end

