-- ==== Sys2Proof/Machine/Flags.lean ====
section
/-!
DEFINITION. Sys2Proof/Machine/Flags.lean: status words that a chapter gives as bits of one register.
The mailbox's MBn_STATUS (R84) and command objects whose read packs the last command and its outcome.
-/
namespace Sys2Proof.Machine

/-- Byte offsets in BAR2 of slot `n`'s registers (R84). -/
def mbStatus (n : Nat) : Nat := n * 0x10000 + 0xFF04
def mbIrqEnable (n : Nat) : Nat := n * 0x10000 + 0xFF0C
def mbNotifyLost (n : Nat) : Nat := n * 0x10000 + 0xFF10
def mbReq (n : Nat) : Nat := n * 0x10000
def mbResp (n : Nat) : Nat := n * 0x10000 + 0x4000
def mbNotify (n : Nat) : Nat := n * 0x10000 + 0x8000

/-- Bits of MBn_STATUS (R84). -/
def stReqBusy : Nat := 0
def stRespReady : Nat := 1
def stNotifyReady : Nat := 2
def stNotifyLost : Nat := 3
def stCrcError : Nat := 4

/-- A BAR2 register. -/
def Dev.bar2 (k : Nat) (d : Dev) : Nat := Map.get 0 d.cop.bar2 k

/-- Sets a BAR2 register. -/
def Dev.putBar2 (k v : Nat) (d : Dev) : Dev := { d with cop := { d.cop with bar2 := Map.put 0 k v d.cop.bar2 } }

/-- Sets the message area of a mailbox slot. -/
def Dev.putArea (k : Nat) (b : List Byte) (d : Dev) : Dev :=
  { d with cop := { d.cop with areas := Map.put [] k b d.cop.areas } }

/-- A dword of the MSI-X table; a vector's fourth dword holds its mask bit, set at reset (R162). -/
def Dev.msixDword (n : Nat) (d : Dev) : Nat := Map.get (if n % 4 = 3 then 1 else 0) d.feed.msix n

/-- Vector `n` is masked. -/
def Dev.vectorMasked (n : Nat) (d : Dev) : Bool := d.feed.msixMask || bitAt (d.msixDword (4 * n + 3)) 0

/-- Sends an MSI-X vector (R161): a masked one sets its pending bit, and none is sent while MSI-X is not enabled
(log entry 71). -/
def Dev.vector (n : Nat) (d : Dev) : Dev :=
  if ¬ d.feed.msixEnable then d
  else if d.vectorMasked n then { d with feed := { d.feed with pba := setBit d.feed.pba n true } }
  else d.send (.interrupt n)

/-- Sets a bit of MBn_STATUS; where the bit was clear and MBn_IRQ_ENABLE enables it, the slot's vector 32 + n is sent
(R84, R86, R161). -/
def Dev.mbSet (n bit : Nat) (d : Dev) : Dev :=
  let st := d.bar2 (mbStatus n)
  let d1 := d.putBar2 (mbStatus n) (setBit st bit true)
  if ¬ bitAt st bit ∧ bitAt (d.bar2 (mbIrqEnable n)) bit then d1.vector (32 + n) else d1

/-- Clears the bits of a mask in MBn_STATUS. -/
def Dev.mbClearBits (n mask : Nat) (d : Dev) : Dev :=
  let st := d.bar2 (mbStatus n)
  d.putBar2 (mbStatus n) (st - (st &&& mask))

/-- A command object's read value: last command in [31:24], outcome in [23:16] (0 done, 1 refused, 2 in progress),
`low` below. -/
def commandWord (code outcome low : Nat) : Nat := code * 0x1000000 + outcome * 0x10000 + low

end Sys2Proof.Machine
end

