-- ==== Sys2Proof/Machine/Serve.lean ====
section
/-!
DEFINITION. Sys2Proof/Machine/Serve.lean: how the control supervisor carries out one request.
The tests in the order of R62, the session's kept response (R80, R81), the restricted modes (R102), the write
record (R90) and the response (R70). Every command of the dictionary goes through `Dev.serve`.
-/
namespace Sys2Proof.Machine

/-! ### Sessions -/

/-- An open session. -/
def Dev.session (n : Nat) (d : Dev) : Option Session := Map.find d.cop.sessions n

/-- Replaces a session's state where it is open. -/
def Dev.onSession (n : Nat) (f : Session → Session) (d : Dev) : Dev :=
  match d.session n with
  | some s => { d with cop := { d.cop with sessions := Map.insert n (f s) d.cop.sessions } }
  | none => d

/-- The binding of R88: a network session to its source address and UDP port on either port, a mailbox session to
its slot. -/
def boundTo (b w : Sender) : Bool :=
  match b.port, w.port with
  | .mbox m, .mbox n => decide (m = n)
  | .mbox _, _ => false
  | _, .mbox _ => false
  | _, _ => decide (b.ip = w.ip ∧ b.udp = w.udp ∧ b.at_.length = w.at_.length)

/-- The open session that a query names from its binding. -/
def Dev.sessionOf (q : Query) (d : Dev) : Option Session :=
  match d.session q.session with
  | some s => if boundTo s.bound q.sender then some s else none
  | none => none

/-- Changes the session that a query names from its binding. -/
def Dev.onOwn (q : Query) (f : Session → Session) (d : Dev) : Dev :=
  if (d.sessionOf q).isSome then d.onSession q.session f else d

/-- SESSION_OPEN is served without a session (R82, R87). -/
def Query.opensSession (q : Query) : Bool := decide (q.op = opWrite ∧ q.index = 0x1100 ∧ q.sub = 0)

/-- The session tests of ACCESS (R62, R82, R88): a request without a session that is neither READ nor SESSION_OPEN,
or one whose session is not open or not bound to the sender. -/
def Dev.sessionFails (q : Query) (d : Dev) : Bool :=
  if q.session = 0 then ¬ (q.op = opRead ∨ q.opensSession) else (d.sessionOf q).isNone

/-! ### Frames and datagrams (R65 to R67) -/

/-- A frame's tag is accepted (R65). -/
def Dev.vlanOk (port : Nat) (vlan : Option (BitVec 12)) (d : Dev) : Bool :=
  match vlan with
  | none => true
  | some v => decide (d.get (Obj.NET_VLAN port) ≠ 0 ∧ v.toNat = d.get (Obj.NET_VLAN port))

/-- The port's MAC address. -/
def Dev.macOf (port : Nat) (d : Dev) : List Byte := d.blob (Obj.NET_MAC port) 6

/-- The IPv6 link-local address of a port, from its MAC address (R66; the modified EUI-64 form is PRESUMED, log entry 17). -/
def Dev.linkLocal (port : Nat) (d : Dev) : List Byte :=
  let m := d.macOf port
  [0xFE, 0x80, 0, 0, 0, 0, 0, 0, m.getD 0 0 ^^^ 2, m.getD 1 0, m.getD 2 0, 0xFF, 0xFE, m.getD 3 0, m.getD 4 0, m.getD 5 0]

/-- An address is the port's own (R66): an IPv4 or IPv6 address of all zeros is none. -/
def Dev.ownAddress (port : Nat) (v6 : Bool) (target : List Byte) (d : Dev) : Bool :=
  if v6 then
    decide (target = d.linkLocal port)
      || (decide (target = d.blob (Obj.NET_IPV6_ADDR port) 16) && decide (target ≠ List.replicate 16 0))
  else decide (target = d.blob (Obj.NET_IPV4_ADDR port) 4 ∧ target ≠ List.replicate 4 0)

/-- A frame is accepted (R65): its tag, and at most 9,216 bytes. -/
def Dev.frameOk (port : Nat) (f : Frame) (d : Dev) : Bool := d.vlanOk port f.vlan && decide (f.bytes ≤ 9216)

/-- One more pass over fragments: how far the datagram is complete from its start. -/
def reassembled (l : List Frame) (n : Nat) : Nat :=
  l.foldl (fun n f => if f.offset ≤ n then max n (f.offset + f.length) else n) n

/-- A datagram arrives whole (R67): in one accepted frame, or its fragments in accepted frames make up a UDP datagram of
at most 8,220 bytes of payload; an IPv6 datagram carries no extension header but the fragment header (44). -/
def Dev.carries (port : Nat) (c : Carriage) (d : Dev) : Bool :=
  let l := c.frames.filter fun f => d.frameOk port f
  c.extensions.all (· = 44) && l.any fun f =>
    ! f.more && (decide (f.offset = 0) || (decide (f.offset + f.length ≤ 8 + 8220)
      && decide (f.offset + f.length ≤ (List.range l.length).foldl (fun n _ => reassembled l n) 0)))

/-- A network port takes a datagram: it is not disabled (0x1010:01, 0x1011:01), the address is its own (R66). -/
def Dev.portTakes (port : Nat) (w : Sender) (d : Dev) : Bool :=
  decide (d.get (Obj.NET_MODE port) ≠ 2) && d.ownAddress port (decide (w.at_.length = 16)) w.at_ && d.carries port w.via

/-- The dictionary can be reached (R91): the main die runs, in WAKE from the end of boot on (log entry 23). -/
def Dev.listens (d : Dev) : Bool := d.running && (decide (d.mode ≠ .wake) || d.dram.decided)

/-- A message can arrive from a sender. -/
def Dev.reaches (w : Sender) (d : Dev) : Bool :=
  d.listens && match w.port with
    | .net0 => d.portTakes 0 w
    | .net1 => d.portTakes 1 w
    | .mbox _ => ! d.feed.d3hot

/-! ### Restricted modes (R102) -/

/-- Whether the table of R102 allows a write of an object in TEST (its own chapter's rules still apply). -/
def allowedInTest (index _sub : Nat) : Bool :=
  decide (index = 0x1100 ∨ index = 0x1101 ∨ index = 0x1102 ∨ index = 0x2001 ∨ (0x2100 ≤ index ∧ index ≤ 0x2106)
    ∨ index = 0x5013 ∨ index = 0x5880 ∨ (0x5900 ≤ index ∧ index ≤ 0x598F)
    ∨ (0x7060 ≤ index ∧ index ≤ 0x7063 ∧ _sub = 2) ∨ (index = 0x7802 ∧ _sub = 1) ∨ index = 0xA010
    ∨ index = 0x8830 ∨ index = 0x9003 ∨ index = 0xB002 ∨ index = 0xB803 ∨ 0xF000 ≤ index)

/-- Whether the table of R102 allows a write of an object in SAFE; for owner entries only releases (value 0), for an
axis only DISABLE (2). -/
def allowedInSafe (index sub value : Nat) : Bool :=
  decide (index = 0x1100 ∨ index = 0x1101 ∨ index = 0x1102 ∨ index = 0x2001
    ∨ (0x2100 ≤ index ∧ index ≤ 0x2106 ∧ value = 0)
    ∨ (0x7060 ≤ index ∧ index ≤ 0x7063 ∧ sub = 2 ∧ value = 2) ∨ (index = 0x7802 ∧ sub = 1) ∨ index = 0xA010)

/-- Whether the mode forbids a write or command (R102); the diagnostic objects take writes in TEST only (R104). -/
def Dev.writeForbidden (index sub value : Nat) (d : Dev) : Bool :=
  match d.mode with
  | .wake => true
  | .test => ¬ allowedInTest index sub
  | .safe => ¬ allowedInSafe index sub value
  | _ => decide (0xF000 ≤ index)

/-! ### The write record (R90) -/

/-- COMMAND is recorded for an accepted write of a CMD object. -/
def Dev.noteCommand (q : Query) (len word : Nat) (d : Dev) : Dev := d.raise 0 0x1003 [q.param0, len, 0, word]

/-- CONFIG_WRITE or CONFIG_WRITE_WIDE is recorded for an accepted write of another object. -/
def Dev.noteWrite (q : Query) (old new : List Byte) (d : Dev) : Dev :=
  if new.length ≤ 4 then d.raise 0 0x1001 [q.param0, new.length, ofLe old, ofLe new]
  else d.raise 0 0x1002 [q.param0, new.length, crc32c old, crc32c new]

/-- A write to a CMD object: R102, then the command's own tests in the order of R62, then COMMAND is recorded and the
effect happens. -/
def Dev.command (q : Query) (len word : Nat) (tests : List (Abort × Bool)) (effect : Dev → Dev) (d : Dev) : Answer :=
  match firstAbort ((.stateForbids, d.writeForbidden q.index q.sub word) :: tests) with
  | some a => .refuse a d
  | none => .ok [] (effect (d.noteCommand q len word))

/-- A write of the numeric object `k` of `w` bytes that is not a command: R102, the object's own tests, then the
write is recorded with the old and the new value, the value is stored and the effect happens. -/
def Dev.configure (q : Query) (k w v : Nat) (tests : List (Abort × Bool)) (effect : Dev → Dev) (d : Dev) : Answer :=
  match firstAbort ((.stateForbids, d.writeForbidden q.index q.sub v) :: tests) with
  | some a => .refuse a d
  | none => .ok [] (effect ((d.noteWrite q (le w (d.get k)) (le w v)).put k v))

/-! ### Responses -/

/-- Sends a response (R70): a datagram on a network port, MBn_RESP with RESP_READY on a mailbox slot (R85). -/
def Dev.reply (q : Query) (m : Msg) (d : Dev) : Dev :=
  match q.sender.port with
  | .mbox n => ((d.putArea (mbResp n.val) m.encode).mbClearBits n.val 1).mbSet n.val stRespReady
  | _ => d.send (.cop q.sender.bare m)

/-- A request is completed: counted, its response kept for the session (R81) and sent. -/
def Dev.finish (q : Query) (m : Msg) (d : Dev) : Dev :=
  ((d.bump Obj.RX_MESSAGES).onOwn q fun s => { s with kept := some (q.sequence, m), running := none }).reply q m

/-- A request of the session arrives: its port and time are noted (R79, R89). -/
def Dev.heard (q : Query) (d : Dev) : Dev :=
  d.onOwn q fun s => { s with last := q.sender.bare, at_ := d.clock.raw }

/-- A refused request (R62, R63): only the count remains, beside what the answer's device carries. -/
def Dev.refuse (q : Query) (a : Abort) (d : Dev) : Dev := (d.bump Obj.REFUSALS).finish q (q.response a.value [])

/-- Completes a request with its answer. -/
def Dev.answered (q : Query) : Answer → Dev
  | .ok payload d => d.finish q (q.response 0 payload)
  | .refuse a d => d.refuse q a

/-- What the session's kept response and a request in execution make of a request (R80, R81). -/
inductive Turn where
  /-- Carry it out. -/
  | fresh
  /-- A repeat of the last completed request: answer with the kept response. -/
  | repeated (m : Msg)
  /-- A copy of the request in execution: ignore it. -/
  | copy
  /-- Another request is in execution: BUSY, after the tests before it. -/
  | busy
  deriving DecidableEq, Repr

/-- The turn of a query. -/
def Dev.turn (q : Query) (d : Dev) : Turn :=
  match d.sessionOf q with
  | none => .fresh
  | some s =>
    match s.running with
    | some n => if n = q.sequence then .copy else .busy
    | none =>
      match s.kept with
      | some (n, m) => if n = q.sequence then .repeated m else .fresh
      | none => .fresh

/-- A request whose answer comes at its completion stays in execution (R80); a refused one is answered at once. -/
def Dev.answeredLater (q : Query) : Answer → Dev
  | .ok _ d => d.onOwn q fun s => { s with running := some q.sequence }
  | .refuse a d => d.refuse q a

/-- Serves one request: nothing happens where no message can arrive; a repeat is answered from the kept response;
otherwise the tests `pre` (NO_OBJECT to LENGTH) come first, `answer` does the rest, and `done` gives the answer. -/
def Dev.serveWith (done : Answer → Dev) (q : Query) (pre : List (Abort × Bool)) (answer : Dev → Answer) (d : Dev) : Dev :=
  if ¬ d.reaches q.sender then d
  else
    match d.turn q with
    | .copy => d
    | .repeated m => ((d.heard q).bump Obj.REPEATS).reply q m
    | .busy =>
      let a := match firstAbort pre with
        | some a => a
        | none =>
          match answer d with
          | .refuse .timeout _ => .busy
          | .refuse a _ => a
          | .ok _ _ => .busy
      (((d.heard q).bump Obj.REFUSALS).bump Obj.RX_MESSAGES).reply q (q.response a.value [])
    | .fresh =>
      match firstAbort pre with
      | some a => (d.heard q).refuse q a
      | none => done (answer (d.heard q))

/-- Serves one request that is answered at once. -/
def Dev.serve (q : Query) (pre : List (Abort × Bool)) (answer : Dev → Answer) (d : Dev) : Dev :=
  d.serveWith (Dev.answered q) q pre answer

/-- Serves a command request: its object exists and takes a WRITE of its width, so of the tests before
STATE_FORBIDS only the session's remains. -/
def Dev.serveCommand (q : Query) (answer : Dev → Answer) (d : Dev) : Dev :=
  d.serve q [(.access, d.sessionFails q)] answer

/-- Serves a command request that is answered at its completion. -/
def Dev.serveLater (q : Query) (answer : Dev → Answer) (d : Dev) : Dev :=
  d.serveWith (Dev.answeredLater q) q [(.access, d.sessionFails q)] answer

end Sys2Proof.Machine
end

