-- ==== Sys2Proof/Machine/Recorder.lean ====
section
/-!
DEFINITION. Sys2Proof/Machine/Recorder.lean: event recorder, performance counters and tagging
(17_recorder_and_counters, R526 to R547).
-/
namespace Sys2Proof.Machine

/-- Changes the recorder. -/
def Dev.onRecorder (f : Recorder → Recorder) (d : Dev) : Dev := { d with recorder := f d.recorder }

/-! ### Areas (R532, R533) -/

/-- The start-up phase, whose records go to START (R532). -/
def Dev.startPhase (d : Dev) : Bool :=
  decide (d.mode = .wake ∨ d.mode = .test ∨
    (1 ≤ d.get Obj.RECOVERY_STATE ∧ d.get Obj.RECOVERY_STATE ≤ 3))

/-- The keeper numbers a record and writes it to FIRST, START or RING, by the first row of R532 that applies. -/
def Dev.accept (r : EventRecord) (d : Dev) : Dev :=
  let n := d.get Obj.NEXT_SEQ
  let e := { r with seq := n }
  let d1 := d.put Obj.NEXT_SEQ ((n + 1) % 2 ^ 32)
  if d.recorder.first.length < 8192 then d1.onRecorder fun c => { c with first := c.first ++ [e] }
  else if d.startPhase ∧ d.recorder.start.length < 8192 then
    d1.onRecorder fun c => { c with start := c.start ++ [e] }
  else if d.recorder.ring.length < 49152 then d1.onRecorder fun c => { c with ring := c.ring ++ [e] }
  else (d1.onRecorder fun c => { c with ring := c.ring.drop 1 ++ [e] }).bump Obj.RING_OVERWRITTEN

/-- RECORD (R529, R530): the keeper accepts the oldest record of the queue. -/
def acceptNext (d : Dev) : Dev :=
  match d.mode, d.recorder.queue with
  | .off, _ => d
  | _, [] => d
  | _, r :: rs => (d.onRecorder fun c => { c with queue := rs }).accept r

/-- RECORDS_DROPPED (R533): once the queue has room, the keeper writes the number dropped and the first's code. -/
def noteDropped (d : Dev) : Dev :=
  if d.mode ≠ .off ∧ 0 < d.recorder.dropped ∧ d.recorder.queue.length < 1024 then
    (d.onRecorder fun c => { c with dropped := 0, dropCode := 0 }).record 0x5000 0x12F1
      [d.recorder.dropped, d.recorder.dropCode]
  else d

/-- RECORDER_COMMAND CLEAR (R534): in SETUP with no job open. -/
def recorderCommand (q : Query) (value : Nat) (d : Dev) : Answer :=
  d.command q 1 value [(.stateForbids, ¬ (decide (d.mode = .setup) && ¬ d.jobOpen)), (.range, value ≠ 1)] fun d =>
    let held := d.recorder.first.length + d.recorder.start.length + d.recorder.ring.length
    let e : EventRecord :=
      { seq := 0, code := 0x12F0, source := 0x5000, time := d.stamp, params := [q.session, q.sender.port.code, held, 0] }
    ((((d.put Obj.RECORDER_COMMAND value).put Obj.RING_OVERWRITTEN 0).put Obj.CLEARED_AT d.tNs).put Obj.NEXT_SEQ
        1).onRecorder fun c => { c with first := [e], start := [], ring := [] }

/-! ### Reading (R531, R535, R536) -/

/-- The 32 bytes of a record (R526). -/
def EventRecord.bytes (r : EventRecord) : List Byte :=
  le 4 r.seq ++ le 2 r.code ++ le 2 r.source ++ le 8 r.time ++ (r.params.flatMap fun p => le 4 p)

/-- The 32 bytes of a record that a read at `time` returns: where its check fails, its SEQUENCE alone, with CODE 0 and SOURCE
0xFFFF (R531; the check's outcome is free). -/
def EventRecord.returned (time : Nat) (r : EventRecord) : List Byte :=
  if Config.recordFails time r.bytes then
    EventRecord.bytes { seq := r.seq, code := 0, source := 0xFFFF, time := 0, params := [0, 0, 0, 0] }
  else r.bytes

/-- The records after the newest one with sequence `n`, in write order; none where the area does not hold it. -/
def afterSeq (n : Nat) : List EventRecord → Option (List EventRecord)
  | [] => none
  | r :: rs =>
    match afterSeq n rs with
    | some l => some l
    | none => if r.seq = n then some rs else none

/-- The records of an area. -/
def Dev.area (a : Nat) (d : Dev) : List EventRecord :=
  if a = 0 then d.recorder.first else if a = 1 then d.recorder.start else d.recorder.ring

/-- The window of a session (R536). -/
def Dev.window (session : Nat) (d : Dev) : List Byte :=
  let c := d.get (Obj.READ_CURSOR (session - 1))
  let a := bits c 33 32
  let all := d.area a
  let found := if bitAt c 34 then none else afterSeq (bits c 31 0) all
  let l := found.getD all
  let notHeld := decide (found = none) && ¬ bitAt c 34
  let shown := l.take 255
  let flags := bit01 notHeld + 2 * bit01 (decide (255 < l.length))
  padTo 8192 (le 1 a ++ le 1 shown.length ++ le 1 flags ++ le 1 0 ++ le 4 ((all.head?.map (·.seq)).getD 0)
    ++ le 4 ((all.getLast?.map (·.seq)).getD 0) ++ le 4 (if a = 2 then d.get Obj.RING_OVERWRITTEN else 0)
    ++ le 4 (d.get Obj.DROPPED) ++ le 8 d.tNs ++ le 4 0 ++ shown.flatMap (EventRecord.returned d.tNs))

/-- Objects of 17_recorder_and_counters that show the recorder's own state. -/
def Dev.recorderValue (k : Nat) (d : Dev) : Option Nat :=
  if k = Obj.FIRST_COUNT then some d.recorder.first.length
  else if k = Obj.START_COUNT then some d.recorder.start.length
  else if k = Obj.START_FULL then some (bit01 (decide (8192 ≤ d.recorder.start.length)))
  else if k = Obj.RING_OLDEST_SEQ then some ((d.recorder.ring.head?.map (·.seq)).getD 0)
  else if k = Obj.RING_COUNT then some d.recorder.ring.length
  else if k = Obj.START_ACTIVE then some (bit01 d.startPhase)
  else none

/-! ### Threshold counters (R540 to R542) -/

/-- The instances of an occupancy (R540). -/
def thresholdInstances (source : Nat) : Nat :=
  match source with
  | 2 => 32
  | 3 => 12
  | 4 => 12
  | 5 => 48
  | 7 => 3
  | 9 => 64
  | 0xC => 4
  | _ => 1

/-- THRESHOLD_ENABLE (R541): ENABLE 1 claims the counter's owner entry for the session and clears the counts; ENABLE 0
from the owner releases it. An INSTANCE that a later SOURCE left outside its range is refused here (DEDUCED, log entry 25). -/
def thresholdEnable (q : Query) (t v : Nat) (d : Dev) : Answer :=
  let owner := 0x0900 + q.session
  d.configure q (Obj.THR_ENABLE t) 1 v
    [(.resourceBusy, decide (v = 1) && ¬ d.free? (Obj.THRESHOLD_OWNER t) owner),
     (.range, decide (1 < v)
      || decide (v = 1 ∧ thresholdInstances (d.get (Obj.THR_SOURCE t)) ≤ d.get (Obj.THR_INSTANCE t)))]
    fun d =>
      if v = 1 then
        ((d.claim (Obj.THRESHOLD_OWNER t) owner).put (Obj.THR_COUNT t) 0).put (Obj.ELAPSED t) 0
      else d.unclaim (Obj.THRESHOLD_OWNER t) owner

/-- Tests of writes to SOURCE, INSTANCE and N (R541). -/
def Dev.recorderTests (index sub v : Nat) (d : Dev) : List (Abort × Bool) :=
  if 0xA810 ≤ index ∧ index < 0xA850 then
    let t := index - 0xA810
    [(.stateForbids, decide (d.get (Obj.THR_ENABLE t) = 1)),
     (.range, decide (sub = 2 ∧ thresholdInstances (d.get (Obj.THR_SOURCE t)) ≤ v))]
  else if index = 0xA010 then [(.range, decide (bits v 33 32 = 3 ∨ 2 ^ 35 ≤ v))]
  else []

/-! ### Tagging (R543 to R545) -/

/-- One step of the Galois register with polynomial x^32 + x^22 + x^2 + x + 1, kept with bit 31 the coefficient of
x^31 as R212 and R613 keep a register (DEDUCED, log entry 22). -/
def tagStep (r : Nat) : Nat :=
  let s := r * 2 % 2 ^ 32
  if bitAt r 31 then s ^^^ 0x00400007 else s

/-- Changes the tag records. -/
def Dev.onTag (f : Tagging → Tagging) (d : Dev) : Dev := { d with tag := f d.tag }

/-- The lowest tag record that is free. -/
def Dev.freeTag (d : Dev) : Option Nat := (List.range 64).find? fun t => (Map.find d.tag.records t).isNone

/-- A candidate item of a kind passes stamp 0 (R543): the register steps, and the item may be tagged. -/
def Dev.tagCandidate (kind : Nat) (identity : List Byte) (d : Dev) : Dev :=
  if d.get Obj.ON = 1 ∧ d.bit Obj.KINDS (kind - 1) then
    let r := tagStep d.tag.lfsr
    let d1 := d.onTag fun t => { t with lfsr := r }
    if r % 2 ^ d.get Obj.K = 0 then
      match d.freeTag with
      | none => d1.bump Obj.TAG_MISSED
      | some n =>
        let e : TagRecord := { kind := kind, state := 1, seq := d.tag.seq, identity := padTo 24 identity,
                               stamps := Map.put 0 0 d.clock.raw [], extra := List.replicate 32 0 }
        d1.onTag fun t => { t with seq := (t.seq + 1) % 2 ^ 32, records := Map.insert n e t.records }
    else d1
  else d

/-- Whether a tag record is in flight for an item. -/
def TagRecord.follows (e : TagRecord) (kind : Nat) (identity : List Byte) : Bool :=
  decide (e.kind = kind ∧ e.state = 1 ∧ e.identity = padTo 24 identity)

/-- A record with stamp `i` reached; at the last stamp it is complete with its data. A stamp that was reached before
keeps its first instant. -/
def TagRecord.reach (e : TagRecord) (raw i : Nat) (last : Bool) (extra : List Byte) : TagRecord :=
  let stamps := if Map.get 0 e.stamps i = 0 then Map.put 0 i raw e.stamps else e.stamps
  { e with stamps := stamps, state := if last then 2 else 1, extra := if last then padTo 32 extra else e.extra }

/-- A tagged item reaches stamp `i` (R544, R545). -/
def Dev.tagStamp (kind : Nat) (identity : List Byte) (i : Nat) (last : Bool) (extra : List Byte) (d : Dev) : Dev :=
  let f (p : Nat × TagRecord) : Nat × TagRecord :=
    if p.2.follows kind identity then (p.1, p.2.reach d.clock.raw i last extra) else p
  d.onTag fun t => { t with records := t.records.map f }

/-- A tagged item is discarded (R545). -/
def Dev.tagAbandon (kind : Nat) (discarded : List Byte → Bool) (d : Dev) : Dev :=
  let f (p : Nat × TagRecord) : Nat × TagRecord :=
    if p.2.kind = kind ∧ p.2.state = 1 ∧ discarded p.2.identity then (p.1, { p.2 with state := 3 }) else p
  d.onTag fun t => { t with records := t.records.map f }

/-- TAG_RELEASE (R545): frees the complete and abandoned records of a mask. -/
def tagRelease (q : Query) (mask : Nat) (d : Dev) : Answer :=
  match firstAbort [(.stateForbids, d.writeForbidden q.index q.sub mask)] with
  | some a => .refuse a d
  | none =>
    .ok [] ((d.noteWrite q (le 8 0) (le 8 mask)).onTag fun t =>
      { t with records := t.records.filter fun p => ¬ (bitAt mask p.1 && decide (p.2.state ≠ 1)) })

/-- What writes of recorder objects do beside storing the value: CLOCK_HZ follows SOURCE; setting ON starts the
register from SEED (R543). -/
def Dev.recorderWritten (index sub v : Nat) (d : Dev) : Dev :=
  if 0xA810 ≤ index ∧ index < 0xA850 ∧ sub = 1 then d.put (Obj.CLOCK_HZ (index - 0xA810)) (thresholdHz v)
  else if index = 0xA860 ∧ sub = 4 ∧ v = 1 then d.onTag fun t => { t with lfsr := d.get Obj.SEED, seq := 0 }
  else d

/-- The bytes of a tag record (R544). -/
def TagRecord.bytes (e : TagRecord) : List Byte :=
  le 1 e.kind ++ le 1 e.state ++ le 2 0 ++ le 4 e.seq ++ e.identity ++ (Map.gets 0 e.stamps 0 8).flatMap (le 8)
    ++ e.extra

/-- Byte objects of 17_recorder_and_counters. -/
def Dev.recorderBytes (k : Nat) (d : Dev) : Option (List Byte) :=
  if Obj.READ_WINDOW 0 ≤ k ∧ k ≤ Obj.READ_WINDOW 15 then some (d.window (k - Obj.READ_WINDOW 0 + 1))
  else if k = Obj.EVENT_COUNTS then some ((Map.gets 0 d.counters 0 576).flatMap (le 8))
  else if k = Obj.THRESHOLD_SNAPSHOT then
    some (((List.range 64).flatMap fun t => le 8 (d.get (Obj.THR_COUNT t)))
      ++ (List.range 64).flatMap fun t => le 8 (d.get (Obj.ELAPSED t)))
  else if k = Obj.TAG_RECORDS then
    some ((List.range 64).flatMap fun t =>
      match Map.find d.tag.records t with
      | some e => e.bytes
      | none => List.replicate 128 0)
  else none

/-! ### Read permissions (R535, R546) -/

/-- Whether a read of an object is refused with ACCESS beside its access class. -/
def Dev.readDenied (q : Query) (d : Dev) : Bool :=
  let who := if q.session = 0 then 16 else q.session - 1
  (decide (q.index = 0xA011 ∧ q.sub ≠ 0) && ¬ d.bit Obj.RECORDER_READ who)
    || (decide (((q.index = 0xA801 ∨ q.index = 0xA850 ∨ q.index = 0xA861) ∧ q.sub = 0)
          ∨ (0xA810 ≤ q.index ∧ q.index < 0xA850 ∧ (q.sub = 5 ∨ q.sub = 6))) && ¬ d.bit Obj.COUNTER_READ who)

/-- A session reads or writes the cursor or window of another session (R535). -/
def Query.foreignCursor (q : Query) : Bool :=
  decide ((q.index = 0xA010 ∨ q.index = 0xA011) ∧ q.sub ≠ 0 ∧ q.sub ≠ q.session)

/-! ### The meanings -/

def execRecord (s : State) : Host.Outcome State Fault Refusal := s.next acceptNext
def execRecordsDropped (s : State) : Host.Outcome State Fault Refusal := s.next noteDropped
def execRecorderClear (r : Req) (s : State) : Host.Outcome State Fault Refusal :=
  s.next (Dev.serveCommand (r.write 0xA002 0) (recorderCommand (r.write 0xA002 0) 1))
def execThresholdEnable (r : Req) (counter : Fin 64) (on : Bool) (s : State) : Host.Outcome State Fault Refusal :=
  let q := r.write (0xA810 + counter.val) 4
  s.next (Dev.serveCommand q (thresholdEnable q counter.val (bit01 on)))
def execTagRelease (r : Req) (mask : Word64) (s : State) : Host.Outcome State Fault Refusal :=
  s.next (Dev.serveCommand (r.write 0xA862 0) (tagRelease (r.write 0xA862 0) mask.toNat))

end Sys2Proof.Machine
end

