-- ==== Sys2Proof/Machine/Time.lean ====
section
/-!
DEFINITION. Sys2Proof/Machine/Time.lean: time and network timing (16_time, R504 to R525).
The clock and its servo, path changes, the PTP messages, captures and scheduled frames.
-/
namespace Sys2Proof.Machine

/-! ### The clock (R504 to R508) -/

/-- Changes the clock's own state. -/
def Dev.onClock (f : Clock → Clock) (d : Dev) : Dev := { d with clock := f d.clock }

/-- The limit of the rate, 500 ppm in 2^−48 (R505, R506). -/
def rateMax : Int := 140737488355

/-- Sets the rate at a RAW value so that T is continuous there (R506). -/
def Dev.setRate (raw : Nat) (rho : Int) (d : Dev) : Dev :=
  let r := clampInt (-rateMax) rateMax rho
  d.onClock fun c =>
    { c with rho := r, omega := c.omega + ((raw : Int) * c.rho) / 4294967296 - ((raw : Int) * r) / 4294967296 }

/-- The setting of T from the backup time counter at the end of boot (R507). -/
def Dev.setFromBackup (d : Dev) : Dev :=
  d.onClock fun c => { c with rho := 0, omega := (d.backupNs : Int) * 65536 - (c.raw : Int) * 65536 }

/-- Low and high words of a signed 64-bit parameter. -/
def lowWord (v : Int) : Nat := ofSigned 64 v % 2 ^ 32
def highWord (v : Int) : Nat := ofSigned 64 v / 2 ^ 32

/-- Servo states (0x9020:06). -/
def svFree : Nat := 0
def svLocking : Nat := 1
def svLocked : Nat := 2
def svHoldover : Nat := 3
def svPathHold : Nat := 4

/-- Nanoseconds, rounded down, of a time in 2^−16 ns. -/
def nsOf (t : Int) : Int := t / 65536

/-- Counts samples toward LOCKED or back to LOCKING (R514). -/
def Dev.lockCount (theta : Int) (d : Dev) : Dev :=
  let inside := decide (theta.natAbs ≤ d.get Obj.LOCK_THRESHOLD * 65536)
  let need := d.get Obj.LOCK_SAMPLES
  let d1 := d.onClock fun c =>
    { c with within := if inside then c.within + 1 else 0, beyond := if inside then 0 else c.beyond + 1 }
  let mag := theta.natAbs / 65536
  if d.get Obj.SERVO_STATE = svLocking ∧ need ≤ d1.clock.within then
    ((d1.put Obj.SERVO_STATE svLocked).onClock fun c => { c with within := 0, beyond := 0 }).raise 0x4600 0x0F03
      [mag, lowWord d1.clock.rho, highWord d1.clock.rho]
  else if d.get Obj.SERVO_STATE = svLocked ∧ need ≤ d1.clock.beyond then
    ((d1.put Obj.SERVO_STATE svLocking).onClock fun c => { c with within := 0, beyond := 0 }).raise 0x4600 0x0F0A [mag]
  else d1

/-- The servo of R513 on one θ, `ts` the Sync interval in ns, at a RAW value. The quotients round toward zero
(DEDUCED, log entry 20). -/
def Dev.clockServo (raw : Nat) (theta : Int) (ts : Nat) (d : Dev) : Dev :=
  let st := d.get Obj.SERVO_STATE
  if st = svFree then
    let step := nsOf (-theta)
    (((d.onClock fun c => { c with omega := c.omega - theta, ii := c.rho, within := 0, beyond := 0, again := false }).put
        Obj.SERVO_STATE svLocking).put Obj.STEPPED 1).raise 0x4600 0x0F02
      [lowWord step, highWord step, if d.clock.again then 2 else 1]
  else if st = svHoldover ∨ st = svPathHold then d
  else
    let ki : Int := d.get Obj.KI
    let kp : Int := d.get Obj.KP
    let pmax : Int := (d.get Obj.SLEW_LIMIT * 2 ^ 48 / 10 ^ 9 : Nat)
    let ii := clampInt (-rateMax) rateMax (d.clock.ii - (ki * theta * 65536).tdiv ts)
    let p := clampInt (-pmax) pmax ((-(kp * theta * 65536)).tdiv ts)
    (((d.onClock fun c => { c with ii := ii }).setRate raw (ii + p))).lockCount theta

/-- A θ is measured: it reaches the servo unless a delay sample beyond the threshold came since the last valid one (R513,
R515); before the first delay sample it does (DEDUCED, log entry 24). -/
def Dev.thetaSample (raw : Nat) (theta : Int) (ts : Nat) (d : Dev) : Dev :=
  let d1 := d.puti 64 Obj.OFFSET_FROM_MASTER theta
  if d.clock.sampleValid then d1.clockServo raw theta ts else d1

/-! ### Path changes (R515, R516) -/

/-- PATH_CHANGE (0x0F01). -/
def Dev.pathChange (cause : Nat) (d : Dev) : Dev :=
  (d.bump Obj.PATH_CHANGES).raise 0x4600 0x0F01
    [cause, lowWord (nsOf (d.geti 64 Obj.BASELINE)), lowWord (nsOf (d.geti 64 Obj.MEAN_PATH_DELAY)), d.get Obj.ACTIVE_PORT]

/-- Entry into PATH_HOLD (R514): only from LOCKING and LOCKED; the rate stays. -/
def Dev.enterPathHold (raw : Nat) (d : Dev) : Dev :=
  if d.get Obj.SERVO_STATE = svLocking ∨ d.get Obj.SERVO_STATE = svLocked then
    (d.put Obj.SERVO_STATE svPathHold).onClock fun c =>
      { c with holdAt := raw, holdSamples := [], within := 0, beyond := 0, jumps := 0 }
  else d

/-- A new delay sample δ in 2^−16 ns (R515, R516). -/
def Dev.delaySample (raw : Nat) (delta : Int) (d : Dev) : Dev :=
  let d1 := d.puti 64 Obj.MEAN_PATH_DELAY delta
  let b := d.geti 64 Obj.BASELINE
  if d.get Obj.SERVO_STATE = svPathHold then
    d1.onClock fun c => { c with holdSamples := (raw, delta) :: c.holdSamples }
  else if ¬ d.clock.baselineSet then
    (d1.puti 64 Obj.BASELINE delta).onClock fun c => { c with baselineSet := true, sampleValid := true, jumps := 0 }
  else if (delta - b).natAbs ≤ d.get Obj.CHANGE_THRESHOLD * 65536 then
    (d1.puti 64 Obj.BASELINE (b + (delta - b) / 16)).onClock fun c => { c with sampleValid := true, jumps := 0 }
  else
    let d2 := d1.onClock fun c => { c with sampleValid := false, jumps := c.jumps + 1 }
    let tracking := decide (d.get Obj.SERVO_STATE = svLocking ∨ d.get Obj.SERVO_STATE = svLocked)
    if d2.clock.jumps = 3 ∨ (tracking ∧ 3 < d2.clock.jumps) then (d2.pathChange 1).enterPathHold raw else d2

/-- The hold time passes (R516). -/
def Dev.endPathHold (raw : Nat) (d : Dev) : Dev :=
  let hold := d.get Obj.HOLD_TIME * 1000000
  if d.get Obj.SERVO_STATE = svPathHold ∧ d.clock.holdAt + hold ≤ raw then
    let l := (d.clock.holdSamples.filter fun e => decide (d.clock.holdAt + hold * 3 / 4 ≤ e.1)).map (·.2)
    match l with
    | [] => (d.pathChange 2).onClock fun c => { c with holdAt := raw, holdSamples := [] }
    | x :: xs =>
      let hi := xs.foldl max x
      let lw := xs.foldl min x
      if (d.get Obj.CHANGE_THRESHOLD : Int) * 65536 < hi - lw then
        (d.pathChange 2).onClock fun c => { c with holdAt := raw, holdSamples := [] }
      else
        let b := (xs.foldl (· + ·) x) / (l.length : Int)
        ((((d.puti 64 Obj.BASELINE b).put Obj.SERVO_STATE svLocking).onClock fun c =>
            { c with sampleValid := true, jumps := 0, within := 0, beyond := 0, holdSamples := [] })).raise 0x4600 0x0F05
          [lowWord (nsOf b), lowWord (nsOf (d.geti 64 Obj.OFFSET_FROM_MASTER)), (raw - d.clock.holdAt) / 1000000]
  else d

/-! ### Best master selection (R509; the comparison is that of IEEE 1588-2019, PRESUMED, log entry 21) -/

/-- Lexicographic order of data sets: the smaller is better. -/
def lexLess : List Nat → List Nat → Bool
  | a :: as, b :: bs => if a < b then true else if b < a then false else lexLess as bs
  | _, _ => false

/-- The members that the data-set comparison compares, in its order. -/
def announceKey (a : AnnounceData) : List Nat :=
  [a.priority1, a.clockClass, a.accuracy, a.variance, a.priority2, a.identity, a.stepsRemoved]

/-- The device's own data set as a master. -/
def Dev.ownData (d : Dev) : AnnounceData where
  priority1 := d.get Obj.PRIORITY1
  clockClass := 248
  accuracy := 0xFE
  variance := 0xFFFF
  priority2 := d.get Obj.PRIORITY2
  identity := Config.clockIdentity
  stepsRemoved := 0
  utcOffset := 0

/-- The announce receipt time in ns: ANNOUNCE_TIMEOUT announce intervals. -/
def Dev.announceWindow (d : Dev) : Nat :=
  let e := d.geti 8 Obj.LOG_ANNOUNCE_INTERVAL
  d.get Obj.ANNOUNCE_TIMEOUT * (if e < 0 then 1000000000 / 2 ^ e.natAbs else 1000000000 * 2 ^ e.natAbs)

/-- Qualified masters heard on a port at a RAW value. -/
def Dev.qualified (raw port : Nat) (d : Dev) : List ForeignMaster :=
  d.clock.masters.filter fun m => decide (m.port = port ∧ 2 ≤ m.heard ∧ raw ≤ m.at_ + d.announceWindow)

/-- The better of two masters. -/
def betterMaster (a b : ForeignMaster) : ForeignMaster :=
  if lexLess (announceKey b.data) (announceKey a.data) then b else a

/-- The best qualified master on the active port. -/
def Dev.bestMaster (raw : Nat) (d : Dev) : Option ForeignMaster :=
  match d.qualified raw (d.get Obj.ACTIVE_PORT) with
  | [] => none
  | m :: ms => some (ms.foldl betterMaster m)

/-- portState of the standard: 4 LISTENING, 6 MASTER, 9 SLAVE. -/
def Dev.selectMaster (raw : Nat) (d : Dev) : Dev :=
  let masterCapable := decide (d.get Obj.SLAVE_ONLY = 0)
  match d.bestMaster raw with
  | none => d.put Obj.PORT_STATE (if masterCapable then 6 else 4)
  | some m =>
    if masterCapable ∧ lexLess (announceKey d.ownData) (announceKey m.data) then d.put Obj.PORT_STATE 6
    else
      let changed := decide (ofLe (d.blob Obj.GM_IDENTITY 8) ≠ m.data.identity)
      let d1 := ((d.put Obj.PORT_STATE 9).putBlob Obj.GM_IDENTITY (le 8 m.data.identity)).puti 16 Obj.UTC_OFFSET
        m.data.utcOffset
      let d2 := if d.get Obj.SERVO_STATE = svHoldover then
          d1.put Obj.SERVO_STATE (if d.get Obj.STEPPED = 1 then svLocking else svFree)
        else d1
      if changed then
        d2.raise 0x4500 0x0F06 [m.data.identity % 2 ^ 32, m.data.identity / 2 ^ 32, m.data.stepsRemoved]
      else d2

/-- No qualified master remains on either port: HOLDOVER (R514), cause 1 announce timeout, 2 link lost. -/
def Dev.toHoldover (raw cause : Nat) (d : Dev) : Dev :=
  let st := d.get Obj.SERVO_STATE
  if d.qualified raw 0 = [] ∧ d.qualified raw 1 = [] ∧ (st = svLocking ∨ st = svLocked ∨ st = svPathHold) then
    let d1 := (((d.setRate raw d.clock.ii).onClock fun c => { c with within := 0, beyond := 0 }).put Obj.SERVO_STATE
      svHoldover).put Obj.PORT_STATE (if d.get Obj.SLAVE_ONLY = 0 then 6 else 4)
    d1.raise 0x4600 0x0F04 [cause, lowWord d1.clock.rho, highWord d1.clock.rho]
  else d

/-! ### PTP messages (R509 to R512) -/

/-- Receive and transmit timestamps at the medium in 2^−16 ns (R512). -/
def Dev.rxTime (port raw : Nat) (d : Dev) : Int := d.timeAt raw - d.geti 32 (Obj.INGRESS_LATENCY port)
def Dev.txTime (port raw : Nat) (d : Dev) : Int := d.timeAt raw + d.geti 32 (Obj.EGRESS_LATENCY port)

/-- The destination of PTP messages on a transport, of peer delay messages or the others (R510): MAC or IP address. -/
def ptpDestination (transport : Nat) (peer : Bool) : List Byte :=
  match transport, peer with
  | 0, false => [0x01, 0x1B, 0x19, 0, 0, 0]
  | 0, true => [0x01, 0x80, 0xC2, 0, 0, 0x0E]
  | 1, false => [224, 0, 1, 129]
  | 1, true => [224, 0, 0, 107]
  | _, false => [0xFF, 0x0E, 0, 0, 0, 0, 0, 0, 0, 0, 0, 0, 0, 0, 0x01, 0x81]
  | _, true => [0xFF, 0x02, 0, 0, 0, 0, 0, 0, 0, 0, 0, 0, 0, 0, 0, 0x6B]

/-- The UDP port of event and of general messages (R510); none on layer 2. -/
def ptpUdp (transport : Nat) (event : Bool) : Nat := if transport = 0 then 0 else if event then 319 else 320

/-- The message came on the transport, with the tag, in the domain and to the address and UDP port that the device listens to
(R509, R510, R65). -/
def Dev.ptpAddressed (event peer : Bool) (h : Ptp) (d : Dev) : Bool :=
  let c := h.carrier
  d.running && d.vlanOk h.port.val c.vlan
    && decide (c.transport.val = d.get Obj.TRANSPORT ∧ h.domain.toNat = d.get Obj.DOMAIN
        ∧ c.destination = ptpDestination c.transport.val peer ∧ c.udp = ptpUdp c.transport.val event)

/-- A message that the device listens to came on the PTP port (R510, R511). -/
def Dev.forPtp (event peer : Bool) (h : Ptp) (d : Dev) : Bool :=
  d.ptpAddressed event peer h && decide (h.port.val = d.get Obj.ACTIVE_PORT)

/-- A PTP message leaves the PTP port (R509 to R512), its timestamp field `time` in 2^−16 ns: the field takes the ns. -/
def Dev.sendPtp (kind : PtpKind) (event peer : Bool) (sequence : Nat) (time correction : Int) (d : Dev) : Dev :=
  let t := d.get Obj.TRANSPORT
  d.send (.ptp (d.get Obj.ACTIVE_PORT) t (ptpDestination t peer) (ptpUdp t event) (d.get Obj.DOMAIN) kind sequence
    (nsOf time) correction)

/-- T_FRAC of a time, which correctionField takes up (R512). -/
def fracOf (t : Int) : Int := t % 65536

/-- The message comes from the master that the port follows. -/
def Dev.fromMaster (h : Ptp) (d : Dev) : Bool :=
  match d.bestMaster h.raw with
  | some m => decide (m.data.identity = h.source ∧ d.get Obj.PORT_STATE = 9)
  | none => false

/-- t1 and t2 of a Sync are known: θ = t2 − t1 − correction − path delay − asymmetry (R513, R517). -/
def Dev.syncDone (raw : Nat) (t1 t2 correction : Int) (ts : Nat) (d : Dev) : Dev :=
  let t1c := t1 + correction
  ((d.onClock fun c => { c with t1 := t1c, t2 := t2, waiting := none }).thetaSample raw
    (t2 - t1c - d.geti 64 Obj.MEAN_PATH_DELAY - d.geti 64 Obj.ASYMMETRY) ts)

/-- SYNC (R513): a one-step Sync carries its origin time, a two-step Sync waits for its Follow_Up. -/
def syncMsg (h : Ptp) (twoStep : Bool) (origin : Int) (interval : Nat) (d0 : Dev) : Dev :=
  let d := d0.at h.raw
  if d.forPtp true false h && d.fromMaster h then
    let t2 := d.rxTime h.port.val h.raw
    if twoStep then d.onClock fun c => { c with waiting := some (h.source, h.sequence, t2, h.correction, interval) }
    else d.syncDone h.raw origin t2 h.correction interval
  else d

/-- FOLLOW_UP (R509): it supplies the origin time of the Sync with its sequenceId. -/
def followUpMsg (h : Ptp) (origin : Int) (d0 : Dev) : Dev :=
  let d := d0.at h.raw
  match d.clock.waiting with
  | some (src, seq, t2, corr, ts) =>
    if d.forPtp false false h ∧ src = h.source ∧ seq = h.sequence then d.syncDone h.raw origin t2 (corr + h.correction) ts else d
  | none => d

/-- DELAY_RESP (R515): meanPathDelay from t1, t2 of the last Sync, t3 of the Delay_Req and t4 received. -/
def delayRespMsg (h : Ptp) (received : Int) (d0 : Dev) : Dev :=
  let d := d0.at h.raw
  if d.forPtp false false h && d.fromMaster h
      && decide (d.get Obj.DELAY_MECHANISM = 1 ∧ h.requester = Config.clockIdentity ∧ h.sequence = d.clock.delaySeq) then
    d.delaySample h.raw ((d.clock.t2 - d.clock.t1 + (received - h.correction) - d.clock.delaySent) / 2)
  else d

/-- PDELAY_RESP (R515): meanLinkDelay from the peer's receive and transmit times. -/
def pdelayRespMsg (h : Ptp) (received sent : Int) (d0 : Dev) : Dev :=
  let d := d0.at h.raw
  if d.forPtp true true h
      && decide (d.get Obj.DELAY_MECHANISM = 2 ∧ h.requester = Config.clockIdentity ∧ h.sequence = d.clock.pdelaySeq) then
    d.delaySample h.raw
      ((d.rxTime h.port.val h.raw - d.clock.pdelaySent - (sent - received) - h.correction) / 2)
  else d

/-- PDELAY_REQ (R509, R512): a received Pdelay_Req is answered with a one-step Pdelay_Resp, whose correctionField takes the
turnaround. The spec gives no time to the answer: a free value (log entry 1). -/
def pdelayReqMsg (h : Ptp) (d0 : Dev) : Dev :=
  let d := d0.at h.raw
  if d.forPtp true true h && decide (d.get Obj.DELAY_MECHANISM = 2) then
    let f := d.takeFree
    f.2.sendPtp (.pdelayResp h.source) true true h.sequence 0 (h.correction + (f.1 : Int))
  else d

/-- DELAY_REQ (R512): as a slave the device transmits a timestamped Delay_Req. -/
def delayReqSend (raw : Nat) (d0 : Dev) : Dev :=
  let d := d0.at raw
  if d.running ∧ d.get Obj.PORT_STATE = 9 ∧ d.get Obj.DELAY_MECHANISM = 1 then
    let n := (d.clock.delaySeq + 1) % 2 ^ 16
    let t := d.txTime (d.get Obj.ACTIVE_PORT) raw
    (d.onClock fun c => { c with delaySeq := n, delaySent := t }).sendPtp .delayReq true false n t (fracOf t)
  else d

/-- PDELAY_REQ_INTERVAL (R509): with the peer-to-peer profile the device transmits a Pdelay_Req. -/
def pdelayReqSend (raw : Nat) (d0 : Dev) : Dev :=
  let d := d0.at raw
  if d.running ∧ d.get Obj.DELAY_MECHANISM = 2 then
    let n := (d.clock.pdelaySeq + 1) % 2 ^ 16
    let t := d.txTime (d.get Obj.ACTIVE_PORT) raw
    (d.onClock fun c => { c with pdelaySeq := n, pdelaySent := t }).sendPtp .pdelayReq true true n t (fracOf t)
  else d

/-- SYNC_INTERVAL (R509): as master the device transmits a one-step Sync. -/
def syncSend (raw : Nat) (d0 : Dev) : Dev :=
  let d := d0.at raw
  if d.running ∧ d.get Obj.PORT_STATE = 6 then
    let t := d.txTime (d.get Obj.ACTIVE_PORT) raw
    (d.onClock fun c => { c with syncSeq := (c.syncSeq + 1) % 2 ^ 16 }).sendPtp .sync true false d.clock.syncSeq t
      (fracOf t)
  else d

/-- ANNOUNCE_INTERVAL (R509): as master the device transmits an Announce. -/
def announceSend (raw : Nat) (d0 : Dev) : Dev :=
  let d := d0.at raw
  if d.running ∧ d.get Obj.PORT_STATE = 6 then
    (d.onClock fun c => { c with announceSeq := (c.announceSeq + 1) % 2 ^ 16 }).sendPtp (.announce d.ownData) false false
      d.clock.announceSeq 0 0
  else d

/-- DELAY_REQ_RECEIPT (R509): as master a received Delay_Req is answered with its receive time. -/
def delayReqReceived (h : Ptp) (d0 : Dev) : Dev :=
  let d := d0.at h.raw
  if d.forPtp true false h && decide (d.get Obj.PORT_STATE = 6 ∧ d.get Obj.DELAY_MECHANISM = 1) then
    let t := d.rxTime h.port.val h.raw
    d.sendPtp (.delayResp h.source) false false h.sequence t (h.correction - fracOf t)
  else d

/-- ANNOUNCE (R509, R511): heard on either port; it feeds the best master selection. -/
def announceMsg (h : Ptp) (a : AnnounceData) (d0 : Dev) : Dev :=
  let d := d0.at h.raw
  if d.ptpAddressed false false h then
    let same (m : ForeignMaster) : Bool := decide (m.port = h.port.val ∧ m.data.identity = a.identity)
    let recent (m : ForeignMaster) : Bool := same m && decide (h.raw ≤ m.at_ + d.announceWindow)
    let n := (d.clock.masters.filter recent).foldl (fun _ m => m.heard) 0
    let m : ForeignMaster := { port := h.port.val, data := a, at_ := h.raw, heard := n + 1 }
    (d.onClock fun c => { c with masters := m :: c.masters.filter fun m => ¬ same m }).selectMaster h.raw
  else d

/-- HOLDOVER (R514): no qualified master remains on either port. The cause is the lost link where the active port has none,
else the announce timeout (DEDUCED, log entry 27). -/
def holdoverEvent (raw : Nat) (d0 : Dev) : Dev :=
  let d := d0.at raw
  if d.running then d.toHoldover raw (if d.get (Obj.NET_LINK_STATE (d.get Obj.ACTIVE_PORT)) = 0 then 2 else 1) else d

/-- PATH_HOLD_END (R516). -/
def pathHoldEvent (raw : Nat) (d0 : Dev) : Dev :=
  let d := d0.at raw
  if d.running then d.endPathHold raw else d

/-- The PTP port moves to the other network port (R511): cause 1 link, 2 announce. -/
def Dev.movePtp (raw cause : Nat) (d : Dev) : Dev :=
  let old := d.get Obj.ACTIVE_PORT
  ((((d.put Obj.ACTIVE_PORT (1 - old)).raise 0x4500 0x0F07 [old, 1 - old, cause]).pathChange 3).enterPathHold
    raw).selectMaster raw

/-- PTP_PORT_SWITCH (R511): the active port has no link, or only the other port hears qualified masters. -/
def portSwitchEvent (raw : Nat) (d0 : Dev) : Dev :=
  let d := d0.at raw
  let p := d.get Obj.ACTIVE_PORT
  if d.running ∧ d.get (Obj.NET_LINK_STATE p) = 0 then d.movePtp raw 1
  else if d.running ∧ d.qualified raw p = [] ∧ d.qualified raw (1 - p) ≠ [] then d.movePtp raw 2
  else d

/-- STEP_AGAIN (R507): in SETUP and TEST with no job open the servo returns to FREE. -/
def clockCommand (q : Query) (value : Nat) (d : Dev) : Answer :=
  d.command q 1 value
    [(.stateForbids, ¬ (decide (d.mode = .setup ∨ d.mode = .test) && ¬ d.jobOpen)), (.range, value ≠ 1)]
    fun d => ((d.put Obj.CLOCK_COMMAND value).put Obj.SERVO_STATE svFree).onClock fun c => { c with again := true }

/-! ### Captures (R518 to R520) -/

/-- One capture joins the queue of 256 records, or is dropped (R519). `ps` is the instant in ps after RAW 0. -/
def Dev.capture (source edge ssn ps : Nat) (d : Dev) : Dev :=
  let raw := ps / 1000
  if 256 ≤ d.clock.captures.length then
    let d1 := (d.bump Obj.CAPTURE_OVERFLOWS).onClock fun c => { c with captureDrops := c.captureDrops + 1 }
    let due := match d.clock.captureEventAt with
      | none => true
      | some t => decide (t + 1000000000 ≤ raw)
    if due then
      (d1.raise 0x4600 0x0F09 [d1.clock.captureDrops]).onClock fun c =>
        { c with captureDrops := 0, captureEventAt := some raw }
    else d1.count 0x0F09
  else
    let t := d.timeAt raw + (ps % 1000 * 65536 / 1000 : Nat)
    let r : CaptureRecord :=
      { tNs := ofSigned 64 (nsOf t), raw := raw, tFrac := if source < 4 then 0 else ofSigned 16 t, ssn := ssn,
        seq := d.clock.captureSeq, source := source, edge := edge, servo := d.get Obj.SERVO_STATE }
    d.onClock fun c => { c with captures := c.captures ++ [r], captureSeq := (c.captureSeq + 1) % 2 ^ 32 }

/-- CAPTURE (R518): an enabled probe or interlock edge is stamped. -/
def captureEdge (e : CaptureEdge) (raw : Nat) (d0 : Dev) : Dev :=
  let d := d0.at raw
  if d.running then
    match e with
    | .probe n rising =>
      if d.bit Obj.PROBE_SELECT n.val then d.capture n.val (if rising then 1 else 2) d.ssnNext (raw * 1000) else d
    | .ilk n high =>
      if d.bit Obj.ILK_SELECT n.val then d.capture (4 + n.val) (if high then 1 else 2) d.ssnNext (raw * 1000) else d
  else d

/-- Captures of a strobe: source 8 at shot 0 of a stripe, source 9 at every MARKER_INTERVAL-th SSN (R518). -/
def Dev.captureStrobe (shot ssn ps : Nat) (d : Dev) : Dev :=
  let d1 := if d.get Obj.STRIPE_START = 1 ∧ shot = 0 then d.capture 8 1 ssn ps else d
  if d.get Obj.MARKER_INTERVAL ≠ 0 ∧ ssn % d.get Obj.MARKER_INTERVAL = 0 then d1.capture 9 1 ssn ps else d1

/-- CAPTURE_NEXT (R519). -/
def captureNextCommand (q : Query) (value : Nat) (d : Dev) : Answer :=
  d.command q 1 value [(.range, value ≠ 1)] fun d =>
    (d.put Obj.CAPTURE_NEXT value).onClock fun c => { c with captures := c.captures.drop 1 }

/-- The bytes of a capture record (R519). -/
def CaptureRecord.bytes (r : CaptureRecord) : List Byte :=
  le 1 0 ++ le 1 r.servo ++ le 1 r.edge ++ le 1 r.source ++ le 4 r.seq ++ le 6 r.ssn ++ le 2 r.tFrac ++ le 8 r.raw
    ++ le 8 r.tNs

/-! ### Scheduled frames (R521 to R523) -/

/-- Big-endian bytes. -/
def be (n v : Nat) : List Byte := (le n v).reverse

/-- The PTP Timestamp of a time in ns: 48-bit seconds, 32-bit nanoseconds, network order (R522). -/
def ptpTimestamp (ns : Nat) : List Byte := be 6 (ns / 1000000000) ++ be 4 (ns % 1000000000)

/-- Ones' complement sum of 16-bit network-order words, modulo 65,535. -/
def sumWords : List Byte → Nat
  | a :: b :: t => (a.toNat * 256 + b.toNat + sumWords t) % 65535
  | [a] => a.toNat * 256 % 65535
  | [] => 0

/-- The offset of the UDP header in a frame with an optional VLAN tag, and whether the frame is IPv6. -/
def udpAt (f : List Byte) : Option (Nat × Bool) :=
  let t0 := ofLe ((slice f 12 2).reverse)
  let (t, o) := if t0 = 0x8100 then (ofLe ((slice f 16 2).reverse), 18) else (t0, 14)
  if t = 0x0800 then some (o + 4 * ((f.getD o 0).toNat % 16), false)
  else if t = 0x86DD then some (o + 40, true)
  else none

/-- The UDP checksum corrected for the bytes that changed (R512, R522): for IPv6, and for IPv4 when it is not 0. -/
def fixChecksum (old new : List Byte) : List Byte :=
  match udpAt new with
  | none => new
  | some (o, v6) =>
    let hc := ofLe ((slice old (o + 6) 2).reverse)
    if ¬ v6 ∧ hc = 0 then new
    else
      let c := ((65535 - hc) + sumWords (new.drop o) + (65535 - sumWords (old.drop o))) % 65535
      let h := 65535 - c
      patch new (o + 6) (be 2 (if h = 0 then 65535 else h))

/-- The bytes sent for a launch entry with the time `ns` inserted, with the frame check sequence (R522). -/
def Dev.launchBytes (e ns : Nat) (d : Dev) : List Byte :=
  let f := (d.blob (Obj.FRAME e) 1536).take (d.get (Obj.LAUNCH_LENGTH e))
  let flags := d.get (Obj.LAUNCH_FLAGS e)
  let g := if bitAt flags 0 then patch f (d.get (Obj.TS_OFFSET e)) (ptpTimestamp ns) else f
  let h := if bitAt flags 2 then fixChecksum f g else g
  h ++ le 4 (etherFcs h)

/-- The time that `n` bytes take on a network port, in ns: 10 and 1 Gbit/s (R64). -/
def Dev.frameNs (p n : Nat) (d : Dev) : Nat := if d.get (Obj.NET_MODE p) = 1 then 8 * n else (4 * n + 4) / 5

/-- A frame that was launched still occupies the port at RAW `raw` (R523). -/
def Dev.portBusy (p raw : Nat) (d : Dev) : Bool := decide (raw < Map.get 0 d.clock.portBusy p)

/-- A launch entry is sent at RAW `raw` with STATUS `st` and the time `ns` inserted. -/
def Dev.launchSend (e st ns raw : Nat) (d : Dev) : Dev :=
  let p := d.get (Obj.LAUNCH_PORT e)
  let bytes := d.launchBytes e ns
  (((d.put (Obj.LAUNCH_STATUS e) st).put (Obj.SENT_AT e) (ofSigned 64 (nsOf (d.txTime p raw)))).onClock fun c =>
    { c with portBusy := Map.insert p (raw + d.frameNs p bytes.length) c.portBusy }).send (.netFrame p bytes)

/-- A launch entry whose time has passed (R523): sent late with the actual time inserted, or discarded. -/
def Dev.launchLate (e raw : Nat) (d : Dev) : Dev :=
  let now := ofSigned 64 (nsOf (d.txTime (d.get (Obj.LAUNCH_PORT e)) raw))
  let late := now - d.get (Obj.TIME_NS e)
  if d.bit (Obj.LAUNCH_FLAGS e) 1 then (d.launchSend e 4 now raw).raise 0x4600 0x0F08 [e, late, 4]
  else (d.put (Obj.LAUNCH_STATUS e) 3).raise 0x4600 0x0F08 [e, late, 3]

/-- COMMAND of a launch entry (R521, R523). -/
def launchCommand (q : Query) (e value : Nat) (d : Dev) : Answer :=
  let len := d.get (Obj.LAUNCH_LENGTH e)
  let badLength := decide (len < 60 ∨ 1536 < len)
  let badOffset := d.bit (Obj.LAUNCH_FLAGS e) 0 && decide (len < d.get (Obj.TS_OFFSET e) + 10)
  d.command q 1 value
    [(.range, decide (value ≠ 1 ∧ value ≠ 2) || (decide (value = 1) && (badLength || badOffset)))]
    fun d =>
      let d1 := d.put (Obj.LAUNCH_COMMAND e) value
      if value = 2 then d1.put (Obj.LAUNCH_STATUS e) 6
      else if (d.get (Obj.TIME_NS e) : Int) < nsOf (d.txTime (d.get (Obj.LAUNCH_PORT e)) d.clock.raw) then
        if d.get (Obj.NET_LINK_STATE (d.get (Obj.LAUNCH_PORT e))) = 0 then d1.put (Obj.LAUNCH_STATUS e) 5
        else if d.bit (Obj.LAUNCH_FLAGS e) 1 && d.portBusy (d.get (Obj.LAUNCH_PORT e)) d.clock.raw then
          d1.put (Obj.LAUNCH_STATUS e) 1
        else d1.launchLate e d.clock.raw
      else d1.put (Obj.LAUNCH_STATUS e) 1

/-- Whether another armed entry of the same port goes first: in T_L order, then entry order (R523). -/
def Dev.launchBehind (e : Nat) (d : Dev) : Bool :=
  (List.range 64).any fun f =>
    decide (f ≠ e ∧ d.get (Obj.LAUNCH_STATUS f) = 1 ∧ d.get (Obj.LAUNCH_PORT f) = d.get (Obj.LAUNCH_PORT e) ∧
      (d.get (Obj.TIME_NS f) < d.get (Obj.TIME_NS e) ∨ d.get (Obj.TIME_NS f) = d.get (Obj.TIME_NS e) ∧ f < e))

/-- SCHEDULED_LAUNCH (R522, R523): the port reaches the entry at RAW `raw`. The accuracy is 6.4 ns on 10GBASE-R and
8 ns on 1000BASE-X, in 2^−16 ns. -/
def scheduledLaunchEvent (e raw : Nat) (d0 : Dev) : Dev :=
  let d := d0.at raw
  let p := d.get (Obj.LAUNCH_PORT e)
  if d.running ∧ d.get (Obj.LAUNCH_STATUS e) = 1 ∧ ¬ d.launchBehind e ∧ ¬ d.portBusy p raw then
    let acc : Int := if d.get (Obj.NET_MODE p) = 1 then 524288 else 419430
    let t := d.txTime p raw
    let tl := (d.get (Obj.TIME_NS e) : Int) * 65536
    if t + acc < tl then d
    else if d.get (Obj.NET_LINK_STATE p) = 0 then d.put (Obj.LAUNCH_STATUS e) 5
    else if tl + acc < t then d.launchLate e raw
    else d.launchSend e 2 (d.get (Obj.TIME_NS e)) raw
  else d

/-! ### What the time objects read -/

/-- Objects of 16_time that show the clock's own state. -/
def Dev.timeValue (k : Nat) (d : Dev) : Option Nat :=
  if k = Obj.RATE then some (ofSigned 64 d.clock.rho)
  else if k = Obj.OFFSET_NS then some (ofSigned 64 (nsOf d.clock.omega))
  else if k = Obj.OFFSET_FRAC then some (ofSigned 16 d.clock.omega)
  else if k = Obj.CAPTURE_PENDING then some d.clock.captures.length
  else if k = Obj.HOLD_REMAINING then
    some (if d.get Obj.SERVO_STATE = svPathHold then
      d.get Obj.HOLD_TIME - (d.clock.raw - d.clock.holdAt) / 1000000 else 0)
  else none

/-- Byte objects of 16_time that show the clock's own state (R508, R519). -/
def Dev.timeBytes (k : Nat) (d : Dev) : Option (List Byte) :=
  if k = Obj.TIME_NOW then
    some (le 8 d.clock.raw ++ le 8 d.tNs ++ le 2 (ofSigned 16 (d.timeAt d.clock.raw)) ++ le 1 (d.get Obj.SERVO_STATE)
      ++ List.replicate 5 0)
  else if k = Obj.CAPTURE_RECORD then
    some (match d.clock.captures with
      | r :: _ => r.bytes
      | [] => List.replicate 32 0)
  else none

/-! ### Rules on writes of time objects -/

/-- Tests beyond the permitted values: an armed entry keeps its fields (R521); a probe is claimed (R520). -/
def Dev.timeTests (index sub v : Nat) (d : Dev) : List (Abort × Bool) :=
  if 0x9040 ≤ index ∧ index < 0x9080 then [(.stateForbids, decide (d.get (Obj.LAUNCH_STATUS (index - 0x9040)) = 1))]
  else if index = 0x9030 ∧ sub = 1 then
    [(.resourceBusy, (List.range 4).any fun n =>
      bitAt v n && ¬ d.bit Obj.PROBE_SELECT n && ¬ d.free? (Obj.PROBE_OWNER n) 0x0500)]
  else []

/-- What a write of a time object does beside storing it: PROBE_SELECT claims and releases probes (R520). -/
def Dev.timeWritten (index sub v : Nat) (d : Dev) : Dev :=
  if index = 0x9030 ∧ sub = 1 then
    d.each (List.range 4) fun n d =>
      if bitAt v n then d.claim (Obj.PROBE_OWNER n) 0x0500 else d.unclaim (Obj.PROBE_OWNER n) 0x0500
  else d

/-! ### The meanings -/

def execSync (h : Ptp) (twoStep : Bool) (origin : Int) (interval : Nat) (s : State) :
    Host.Outcome State Fault Refusal := s.next (syncMsg h twoStep origin interval)
def execFollowUp (h : Ptp) (origin : Int) (s : State) : Host.Outcome State Fault Refusal := s.next (followUpMsg h origin)
def execDelayResp (h : Ptp) (received : Int) (s : State) : Host.Outcome State Fault Refusal :=
  s.next (delayRespMsg h received)
def execPdelayReq (h : Ptp) (s : State) : Host.Outcome State Fault Refusal := s.next (pdelayReqMsg h)
def execPdelayResp (h : Ptp) (received sent : Int) (s : State) : Host.Outcome State Fault Refusal :=
  s.next (pdelayRespMsg h received sent)
def execDelayReq (raw : Nat) (s : State) : Host.Outcome State Fault Refusal := s.next (delayReqSend raw)
def execAnnounce (h : Ptp) (a : AnnounceData) (s : State) : Host.Outcome State Fault Refusal := s.next (announceMsg h a)
def execHoldover (raw : Nat) (s : State) : Host.Outcome State Fault Refusal := s.next (holdoverEvent raw)
def execPathHoldEnd (raw : Nat) (s : State) : Host.Outcome State Fault Refusal := s.next (pathHoldEvent raw)
def execPtpPortSwitch (raw : Nat) (s : State) : Host.Outcome State Fault Refusal := s.next (portSwitchEvent raw)
def execStepAgain (r : Req) (s : State) : Host.Outcome State Fault Refusal :=
  s.next (Dev.serveCommand (r.write 0x9003 0) (clockCommand (r.write 0x9003 0) 1))
def execCapture (e : CaptureEdge) (raw : Nat) (s : State) : Host.Outcome State Fault Refusal := s.next (captureEdge e raw)
def execCaptureNext (r : Req) (s : State) : Host.Outcome State Fault Refusal :=
  s.next (Dev.serveCommand (r.write 0x9032 0) (captureNextCommand (r.write 0x9032 0) 1))
def execLaunchArm (r : Req) (entry : Fin 64) (s : State) : Host.Outcome State Fault Refusal :=
  s.next (Dev.serveCommand (r.write (0x9040 + entry.val) 7) (launchCommand (r.write (0x9040 + entry.val) 7) entry.val 1))
def execLaunchCancel (r : Req) (entry : Fin 64) (s : State) : Host.Outcome State Fault Refusal :=
  s.next (Dev.serveCommand (r.write (0x9040 + entry.val) 7) (launchCommand (r.write (0x9040 + entry.val) 7) entry.val 2))
def execScheduledLaunch (entry : Fin 64) (raw : Nat) (s : State) : Host.Outcome State Fault Refusal :=
  s.next (scheduledLaunchEvent entry.val raw)
def execSyncInterval (raw : Nat) (s : State) : Host.Outcome State Fault Refusal := s.next (syncSend raw)
def execAnnounceInterval (raw : Nat) (s : State) : Host.Outcome State Fault Refusal := s.next (announceSend raw)
def execDelayReqReceipt (h : Ptp) (s : State) : Host.Outcome State Fault Refusal := s.next (delayReqReceived h)
def execPdelayReqInterval (raw : Nat) (s : State) : Host.Outcome State Fault Refusal := s.next (pdelayReqSend raw)

end Sys2Proof.Machine
end

