-- ==== Sys2Proof/Machine/Pages.lean ====
section
/-!
DEFINITION. Sys2Proof/Machine/Pages.lean: store pages and the translation table (14_layout_store, R465 to R468).
-/
namespace Sys2Proof.Machine

/-- The entry of the translation table (R465). -/
def StoreState.entry (t : StoreState) (p : Nat) : Nat :=
  match t.physical p with
  | none => 0
  | some x =>
    let rank := x / 32768
    let u := x % 32768
    0x80000000 + rank / 4 * 2 ^ 27 + rank % 4 * 2 ^ 25 + u % 32 * 2 ^ 20 + u / 32 * 1024 + bit01 (t.awaiting.contains p)

/-- Pages with VALID set. -/
def StoreState.mapped (t : StoreState) : Nat :=
  let n := min storePages (t.layout.length * t.perRank)
  let gone := (t.remap.filter fun e => e.2.isNone).length
  n - gone

/-- The pages that `n` bytes from `a` on touch, at least one. -/
def pagesOf (a n : Nat) : List Nat :=
  let first := a / pageBytes
  (List.range ((a + (n - 1)) / pageBytes + 1 - first)).map fun i => first + i

/-- `n` bytes from `a` on lie within the populated store (R468). -/
def Dev.populated (a n : Nat) (d : Dev) : Bool :=
  decide (a + n ≤ storePages * pageBytes) && (pagesOf a n).all fun p => (d.dram.physical p).isSome

/-- Two ranges of bytes overlap. -/
def overlaps (a n b m : Nat) : Bool := decide (a < b + m ∧ b < a + n)

/-- Changes the store's state. -/
def Dev.onStore (f : StoreState → StoreState) (d : Dev) : Dev := { d with dram := f d.dram }

/-! ### Free physical pages (R468, R482, R486) -/

/-- A rank's pages that no page of the default layout uses, from page `u` on. -/
def StoreState.spareFrom (t : StoreState) (rank : Nat) : List Nat :=
  if t.spares.contains rank then List.range t.perRank
  else
    match t.layout.idxOf? rank with
    | none => []
    | some k => (List.range t.perRank).filter fun u => storePages ≤ u * t.layout.length + k

/-- The physical pages that remap entries use. -/
def StoreState.usedTargets (t : StoreState) : List Nat := t.remap.filterMap fun e => if t.physical e.1 = e.2 then e.2 else none

/-- The ranks from which free pages are taken, in order: spares, then in-service ranks, while they do not retire. -/
def Dev.donorRanks (d : Dev) : List Nat :=
  (d.dram.spares ++ d.dram.layout).filter fun r =>
    let role := d.get (Obj.RANK_ROLE (r / 4) (r % 4))
    role = 1 ∨ role = 2

/-- The free physical pages of a rank. -/
def Dev.freeOfRank (r : Nat) (d : Dev) : List Nat :=
  let used := d.dram.usedTargets
  ((d.dram.spareFrom r).map fun u => 32768 * r + u).filter fun x => ¬ used.contains x

/-- The next free physical page. -/
def Dev.freePage (d : Dev) : Option Nat := d.donorRanks.findSome? fun r => (d.freeOfRank r).head?

/-- PAGES_FREE. -/
def Dev.pagesFree (d : Dev) : Nat := d.donorRanks.foldl (fun n r => n + (d.freeOfRank r).length) 0

end Sys2Proof.Machine
end

