-- ==== Sys2Proof/Machine/Expansion.lean ====
section
/-!
DEFINITION. Sys2Proof/Machine/Expansion.lean: expansion engines and stream contexts (06_expansion, R193 to R234).
Stripes in progress, contexts and their units of work, the basket, freezing at deadlines, check jobs, cells.
-/
namespace Sys2Proof.Machine

/-- The SOURCE code of UNFOLD (R527). -/
def srcUnfold : Nat := 0x4000

/-! ### Stripes in progress -/

/-- Changes expansion's state. -/
def Dev.onUnfold (f : Unfold → Unfold) (d : Dev) : Dev := { d with unfold := f d.unfold }

/-- The stripe of an opening number. -/
def Dev.stripe? (uid : Nat) (d : Dev) : Option Stripe := d.stripes.find? fun s => s.uid = uid

/-- Changes a stripe. -/
def Dev.onStripe (uid : Nat) (f : Stripe → Stripe) (d : Dev) : Dev :=
  { d with stripes := d.stripes.map fun s => if s.uid = uid then f s else s }

/-- The stripe that a slot serves (R193). -/
def Dev.slotStripe (slot : Nat) (d : Dev) : Option Stripe := d.stripes.find? fun s => s.slot = slot

/-- A value that the stripe took at its opening (R44). -/
def Stripe.val (k : Nat) (s : Stripe) : Nat := Map.get (dfltOf k) s.vals k

/-- A table that the stripe took at its opening. -/
def Dev.stripeTab (k n : Nat) (s : Stripe) (d : Dev) : List Byte :=
  match Map.get [] s.tabs k with
  | [] => d.dfltBytes k n
  | b => b

/-- The package of the open job. -/
def Dev.package (d : Dev) : Package :=
  match d.ledger.job with
  | some j => { base := j.offset, length := j.length }
  | none => { base := 0, length := 0 }

/-- The identity of a pixel row for tagging (R544). -/
def Stripe.rowTag (y : Nat) (s : Stripe) : List Byte := le 4 s.number ++ le 4 y ++ le 1 s.kind

/-- The journal KIND of R259 and the 0x3020:08 KIND agree: 0 writing, 1 mend pass, 2 MEASURE. -/
def Stripe.shotOf (y : Nat) (s : Stripe) : Nat := s.ssnBase + y

/-- SSN whose shot boundary is row `y`'s deadline (R208). -/
def Stripe.deadline (y : Nat) (s : Stripe) : Nat := s.ssnBase + (y - 256)

/-! ### Contexts -/

/-- A context's state. -/
def Dev.ctx (q : Nat) (d : Dev) : Option Context := Map.find d.unfold.contexts q

/-- The reads of a context are real-time (R474): contexts 0 to 127 and those of MEASURE. -/
def Dev.readsReal (q : Nat) (d : Dev) : Bool := decide (q < 128 ∨ d.get (Obj.CONTEXT_OWNER (q - 128)) / 256 = 7)

/-- A context asks the store for its data: its read goes behind those that wait (R475). -/
def Dev.ask (q : Nat) (d : Dev) : Dev :=
  if d.dram.queue.any fun r => decide (r.asker = q) then d
  else
    let r : ColumnRequest := { asker := q, real := d.readsReal q, start := 0, stop := 0, done0 := 0, done1 := 0, last := 0 }
    { d with dram := { d.dram with queue := d.dram.queue ++ [r] } }

/-- Stores a context's state; one that awaits data has a read in the store's queue. -/
def Dev.setCtx (q : Nat) (c : Context) (d : Dev) : Dev :=
  let d1 := d.onUnfold fun u => { u with contexts := Map.insert q c u.contexts }
  if c.state = 1 then d1.ask q else d1.unask q

/-- A context is a seam-neighbour context (R193). -/
def isSeam (q : Nat) : Bool := decide (64 ≤ q ∧ q < 96)

/-- The neighbour tile columns of R249 for an overlap of `o` px. -/
def plusColumn (o c : Nat) : Bool := decide (o / 256 ≤ c ∧ c ≤ (o + 31) / 256)
def minusColumn (o c : Nat) : Bool := decide ((8160 - o) / 256 ≤ c ∧ c ≤ (8191 - o) / 256)

/-- The neighbour stripe whose tile column `c` the stripe needs (R249). -/
def Stripe.neighbour (c : Nat) (s : Stripe) : Option Nat :=
  let o := s.val Obj.SEAM_OVERLAP
  if plusColumn o c ∧ s.plus.isSome then s.plus else if minusColumn o c then s.minus else none

/-- The tile of a stripe; unselected columns of MEASURE are EMPTY (R231). -/
def Stripe.tileAt (mem : Map Byte) (t tc : Nat) (s : Stripe) : TileEntry :=
  if s.kind = 2 ∧ ¬ bitAt s.columns tc then
    { kind := kEmpty, blocks := 0, scale := 0x4000, dataOffset := 0, level := 0, dataLength := 0 }
  else s.src.tile mem t tc

/-- What a context works on: the stripe it serves, where its tiles lie, whether they are a neighbour's and mirrored
(R247), the tile row whose data are expanded (R249), and its tile. -/
structure Work where
  st : Stripe
  src : Source
  seam : Bool
  mirror : Bool
  origin : Nat
  tile : TileEntry
  deriving DecidableEq, Repr

/-- The work of context `q`; none for check jobs. -/
def Dev.work (q : Nat) (c : Context) (mem : Map Byte) (d : Dev) : Option Work :=
  match d.stripe? c.uid with
  | none => none
  | some s =>
    if isSeam q then
      match s.neighbour c.column with
      | none => none
      | some i =>
        let src := d.package.source mem i
        let t := src.chain mem c.column c.row
        some { st := s, src := src, seam := true, mirror := decide ((d.package.stripe mem i).direction ≠ s.direction),
               origin := t, tile := src.tile mem t c.column }
    else
      some { st := s, src := s.src, seam := false, mirror := false, origin := c.row, tile := s.src.tile mem c.row c.column }

/-- The own row that a row of the source serves (R247). -/
def Work.ownRow (w : Work) (y : Nat) : Nat := if w.mirror then w.src.length - 1 - y else y

/-- The own row that a row of the source serves, where it serves one: rows of a source beyond its last serve none
(R120, R247). -/
def Work.serves (w : Work) (y : Nat) : Option Nat := if y < w.src.length then some (w.ownRow y) else none

/-- First own row of the rows `y0` to `y1` of the source. -/
def Work.firstOwn (w : Work) (y0 y1 : Nat) : Nat := if w.mirror then w.ownRow y1 else y0

/-- The engine class of a tile kind (R201). -/
def kindClass (kind : Nat) : Nat := if kind = kTrap then 1 else if kind = kCell then 2 else 0

/-- Classes by number (R233). -/
def classNum : EngineClass → Nat
  | .decoder => 0
  | .rasterizer => 1
  | .placer => 2

/-- Engines of a class (R201). -/
def engineCount (cls : Nat) : Nat := if cls = 0 then 16 else if cls = 1 then 8 else 4

/-- Whether a tile's data must be read from the store. -/
def TileEntry.needsData (e : TileEntry) : Bool := e.hasData

/-- The state in which a unit of a tile waits: for its data, or ready (0x4100 + q:01). -/
def TileEntry.waitState (e : TileEntry) : Nat := if e.needsData then 1 else 2

/-- Rows already in a context's tile. -/
def Context.rowsDone (c : Context) : Nat := c.hist.length / 256

/-- Last row of the source in a context's tile. -/
def Context.lastRow (c : Context) (w : Work) : Nat := min (256 * c.row + 255) (w.src.length - 1)

/-- The deadline of a context's unit: that of its first row (R203, R208). -/
def Context.deadline (c : Context) (w : Work) : Nat :=
  w.st.deadline (w.firstOwn (256 * c.row + c.rowsDone) (c.lastRow w))

/-- Every row of the tile has a slot in the basket or the edge store (R208, log entry 30). -/
def Dev.hasRoom (c : Context) (w : Work) (d : Dev) : Bool :=
  let y := if w.mirror then w.ownRow (256 * c.row) else c.lastRow w
  decide (w.st.entry + y < d.front + 1024)

/-- The identity of an expansion unit for tagging (R544). -/
def unitTag (q cls engine : Nat) (c : Context) (number : Nat) : List Byte :=
  le 1 q ++ le 1 cls ++ le 1 engine ++ le 4 number ++ le 4 c.row ++ le 4 c.seq

/-- A context comes to its next unit in a given state; a unit that is ready is a candidate of tag kind 3. -/
def Dev.setReady (q : Nat) (c : Context) (number cls : Nat) (d : Dev) : Dev :=
  let d1 := d.setCtx q { c with state := 2 }
  d1.tagCandidate 3 (unitTag q cls 0 c number)

/-- A context before its next unit: nothing of it is read or fed to the check unit, and its window is empty (R194). -/
def Context.newUnit (c : Context) : Context :=
  { c with downs := 0, waits := 0, pages := [], bitPos := 0, adapt := Adapt.start, part := [], window := [], windowAt := 0,
           waited := false }

/-- A context begins a tile row of its source: the block sequence is that of R200. -/
def Dev.startTile (q : Nat) (c : Context) (row : Nat) (mem : Map Byte) (d : Dev) : Dev :=
  let c0 := { c.newUnit with row := row, block := 0, offset := 0, hist := [], begun := false }
  match d.work q c0 mem with
  | none => d.dropCtx q
  | some w =>
    let c1 := { c0 with seq := w.src.seqAt mem c.column w.origin, cls := kindClass w.tile.kind }
    if w.tile.needsData then d.setCtx q { c1 with state := 1 }
    else d.setReady q c1 w.st.number (kindClass w.tile.kind)

/-- A seam context starts with a stripe at the tile row that its own row 0 needs (R249). -/
def Dev.startSeam (s : Stripe) (tc : Nat) (mem : Map Byte) (d : Dev) : Dev :=
  let c := Context.fresh s.uid tc
  match d.work (64 + tc) c mem with
  | none => d
  | some w => d.startTile (64 + tc) c (if w.mirror then w.src.tileRows - 1 else 0) mem

/-- Seam contexts that are idle or done start with a stripe. -/
def Dev.openSeam (s : Stripe) (mem : Map Byte) (d : Dev) : Dev :=
  d.each (List.range 32) fun tc d =>
    match d.ctx (64 + tc) with
    | none => d.startSeam s tc mem
    | some c => if 5 ≤ c.state then d.startSeam s tc mem else d

/-- The contexts of an opened stripe start at tile row 0 (R193, R195, R198). -/
def Dev.openContexts (uid : Nat) (mem : Map Byte) (d : Dev) : Dev :=
  match d.stripe? uid with
  | none => d
  | some s =>
    if s.slot ≤ 3 then
      let d1 := d.each (List.range 32) fun tc d =>
        (d.dropCtx (32 * s.slot + tc)).startTile (32 * s.slot + tc) (Context.fresh uid tc) 0 mem
      if s.kind = 0 then d1.openSeam s mem else d1
    else
      d.each (List.range 32) fun q d =>
        let o := d.get (Obj.CONTEXT_OWNER q)
        if o / 256 = 7 then d.startTile (128 + q) (Context.fresh uid (o % 256)) 0 mem else d

/-! ### Parts of rows (R208, R209) -/

/-- Every part of a row is complete. -/
def Dev.rowComplete (s : Stripe) (y : Nat) (d : Dev) : Bool :=
  (List.range 32).all fun tc => (d.part? s y tc).any fun p => p.reason = 0

/-- Writes a part into the basket or, for a seam context, the edge store. -/
def Dev.writePart (seam : Bool) (k : Nat) (p : Part) (d : Dev) : Dev :=
  d.onUnfold fun u =>
    if seam then { u with edges := Map.insert k p u.edges } else { u with parts := Map.insert k p u.parts }

/-- Row stamp 1 of tagging: the last part is complete or frozen. -/
def Dev.tagFinished (s : Stripe) (y : Nat) (d : Dev) : Dev :=
  if d.rowFinished s y then d.tagStamp 1 (s.rowTag y) 1 false [] else d

/-- A context completes a part: nothing happens after the row's deadline (R210). -/
def Dev.deliver (w : Work) (tc y : Nat) (p : Part) (d : Dev) : Dev :=
  match d.stripe? w.st.uid, w.serves y with
  | none, _ => d
  | _, none => d
  | some s, some own =>
    if own < s.frozen ∨ s.src.length ≤ own then d
    else
      let d1 := d.writePart w.seam (s.partKey own tc) p
      if w.seam then d1 else d1.tagFinished s own

/-- Rows `v` on of a context's tile, 256 samples each (R209). -/
def Dev.deliverRows (w : Work) (c : Context) (scale : Nat) : Nat → List Nat → Nat → Dev → Dev
  | 0, _, _, d => d
  | n + 1, l, v, d =>
    Dev.deliverRows w c scale n (l.drop 256) (v + 1)
      (d.deliver w c.column (256 * c.row + v) { samples := l.take 256, scale := scale, reason := 0 })

/-- Rows `v` to 255 of a context's tile take a reason (R217). -/
def Dev.failRows (w : Work) (c : Context) (reason v : Nat) (d : Dev) : Dev :=
  d.each (List.range (256 - v)) fun i d =>
    let p : Part := { samples := List.replicate 256 0, scale := 0, reason := reason }
    d.deliver w c.column (256 * c.row + v + i) p

/-- FIRST_ROWS_READY (R211): rows 0 to 257 of the most recently opened stripe; those frozen were frozen complete. -/
def Dev.noteFirstRows (d : Dev) : Dev :=
  match d.stripes.getLast? with
  | none => d
  | some s =>
    if d.get Obj.FIRST_ROWS_READY = 0 ∧ ! s.spoiled ∧
        (List.range (min 258 s.src.length)).all (fun y => decide (y < s.frozen) || d.rowComplete s y) then
      d.put Obj.FIRST_ROWS_READY 1
    else d

/-! ### Freezing (R208 to R211, R216, R220) -/

/-- Ends a run of rows and reports it. -/
def Dev.endRun (k : Nat) (report : Run → Dev → Dev) (d : Dev) : Dev :=
  match Map.find d.unfold.runs k with
  | none => d
  | some r => report r (d.onUnfold fun u => { u with runs := Map.erase k u.runs })

/-- A row joins the run `k` where it goes on with it, or ends it and begins another. -/
def Dev.addRun (k stripe y code limit : Nat) (report : Run → Dev → Dev) (d : Dev) : Dev :=
  let fresh (d : Dev) : Dev :=
    let r : Run := { stripe := stripe, first := y, rows := 1, code := code }
    d.onUnfold fun u => { u with runs := Map.insert k r u.runs }
  match Map.find d.unfold.runs k with
  | none => fresh d
  | some r =>
    if r.stripe = stripe ∧ r.first + r.rows = y ∧ r.code = code ∧ y % limit ≠ 0 then
      d.onUnfold fun u => { u with runs := Map.insert k { r with rows := r.rows + 1 } u.runs }
    else fresh (d.endRun k report)

/-- ROWS_LATE (R220). -/
def reportLate (tc : Nat) (r : Run) (d : Dev) : Dev :=
  d.raise srcUnfold 0x0402 [r.stripe, tc * 256 + r.code, r.first, r.rows]

/-- The context that expands tile column `tc` of a stripe for itself. -/
def Dev.columnContext (uid tc : Nat) (d : Dev) : Option Context :=
  (d.unfold.contexts.find? fun e => ¬ isSeam e.1 && decide (e.2.uid = uid ∧ e.2.column = tc)).map Prod.snd

/-- The placements of a CELL tile's data. -/
def tilePlacements (data : List Byte) : List Placement := placements data ((data.length - 12) / 8)

/-- A tile places a cell whose refill has not completed (R228). -/
def Dev.needsRefill (mem : Map Byte) (src : Source) (e : TileEntry) (d : Dev) : Bool :=
  decide (e.kind = kCell) && ! d.unfold.refills.isEmpty
    && (tilePlacements (src.data mem e)).any fun p => (Map.find d.unfold.refills p.cell).isSome

/-- The reason of a part that is incomplete at its deadline (R209, R216, R218, R228). -/
def Dev.lateReason (mem : Map Byte) (s : Stripe) (t tc : Nat) (d : Dev) : Nat :=
  let waits := match d.columnContext s.uid tc with
    | none => 0
    | some c => if c.row = t ∧ c.state = 4 then c.waits else 0
  if waits = 1 then rStore
  else if waits = 2 ∨ d.needsRefill mem s.src (s.src.tile mem (s.src.chain mem tc t) tc) then rMemory
  else rLate

/-- Counts a blanked part and keeps runs of LATE, STORE and MEMORY within a tile (R220). -/
def Dev.noteFrozen (s : Stripe) (y tc reason : Nat) (d : Dev) : Dev :=
  let d1 := if reason = 0 then d else d.bump (Obj.BLANKED_PARTS (reason - 1))
  if reason = rLate ∨ reason = rStore ∨ reason = rMemory then d1.addRun tc s.number y reason 256 (reportLate tc)
  else d1.endRun tc (reportLate tc)

/-- Freezes one part of row `y`. -/
def Dev.freezePart (mem : Map Byte) (s : Stripe) (y tc : Nat) (d : Dev) : Dev :=
  match d.part? s y tc with
  | some p => d.noteFrozen s y tc p.reason
  | none =>
    let t := y / 256
    let e := s.src.tile mem (s.src.chain mem tc t) tc
    if e.kind ≤ kFill then
      let level := if e.kind = kEmpty then 0 else e.level
      let p : Part := { samples := List.replicate 256 level, scale := (s.src.tile mem t tc).scale, reason := 0 }
      (d.writePart false (s.partKey y tc) p).noteFrozen s y tc 0
    else
      let r := d.lateReason mem s t tc
      let p : Part := { samples := List.replicate 256 0, scale := 0, reason := r }
      (d.writePart false (s.partKey y tc) p).noteFrozen s y tc r

/-- Freezes row `y` of a stripe. -/
def Dev.freezeRow (mem : Map Byte) (uid y : Nat) (d : Dev) : Dev :=
  match d.stripe? uid with
  | none => d
  | some s =>
    let d1 := d.each (List.range 32) fun tc d => d.freezePart mem s y tc
    let bad := decide (y < 258) && ! d1.rowComplete s y
    (d1.onStripe uid fun s => { s with frozen := y + 1, spoiled := s.spoiled || bad }).tagFinished s y

/-- Freezes the rows of a stripe whose deadline is the boundary of shot index `k` or earlier: rows up to k + 256. -/
def Dev.freezeTo (mem : Map Byte) (uid k : Nat) (d : Dev) : Dev :=
  match d.stripe? uid with
  | none => d
  | some s =>
    let n := min (k + 257) s.src.length
    let d1 := d.each (List.range (n - s.frozen)) fun i d => d.freezeRow mem uid (s.frozen + i)
    let d2 := if n = s.src.length then d1.each (List.range 32) fun tc d => d.endRun tc (reportLate tc) else d1
    d2.noteFirstRows

/-- A part of the basket or the edge store is lost to a memory error. -/
def Part.lost (_p : Part) : Part := { samples := List.replicate 256 0, scale := 0, reason := rMemory }

/-- A part of the basket is lost (array 5 in R494): one of a row that is frozen counts as blanked, and its row is a run of
its own (R220). -/
def Dev.partLost (entry tc : Nat) (d : Dev) : Dev :=
  match Map.find d.unfold.parts (32 * entry + tc) with
  | none => d
  | some p =>
    let d1 := d.writePart false (32 * entry + tc) p.lost
    match d.rowOfEntry entry with
    | some (s, y) =>
      if y < s.frozen ∧ p.reason = 0 then
        (d1.bump (Obj.BLANKED_PARTS (rMemory - 1))).raise srcUnfold 0x0402 [s.number, tc * 256 + rMemory, y, 1]
      else d1
    | none => d1

/-! ### The lead -/

/-- LEAD_MIN follows LEAD_ROWS down. -/
def Dev.noteLead (d : Dev) : Dev :=
  let n := d.leadRows
  if n < d.get Obj.LEAD_MIN then d.put Obj.LEAD_MIN n else d

/-- ENTRY_ROW (0x4012:04). -/
def Dev.entryRow (d : Dev) : Nat :=
  match d.stripes.find? fun s => s.entered < s.rowsIn with
  | some s => s.entered
  | none => 0

/-! ### Taking up and putting down (R202 to R205) -/

/-- The key of an engine. -/
def engineKey (cls n : Nat) : Nat := 32 * cls + n

/-- The context that an engine holds. -/
def Dev.holder (cls n : Nat) (d : Dev) : Option Nat := (Map.find d.unfold.engines (engineKey cls n)).map fun v => v - 1

/-- An engine takes up context `q`. -/
def Dev.hold (cls n q : Nat) (d : Dev) : Dev :=
  d.onUnfold fun u => { u with engines := Map.insert (engineKey cls n) (q + 1) u.engines }

/-- An engine puts its context down. -/
def Dev.unhold (cls n : Nat) (d : Dev) : Dev :=
  d.onUnfold fun u => { u with engines := Map.erase (engineKey cls n) u.engines }

/-- The deadline of context `q` where it holds a ready real-time unit of a class that has room. -/
def Dev.readyUnit (cls q : Nat) (c : Context) (mem : Map Byte) (d : Dev) : Option Nat :=
  if c.state ≠ 2 ∨ c.serves ≠ Serves.tiles ∨ d.isCheckJob q then none
  else
    match d.work q c mem with
    | none => none
    | some w => if kindClass w.tile.kind = cls ∧ d.hasRoom c w then some (c.deadline w) else none

/-- The key of a refill in the list of engines and of units (R206). -/
def refillKey (cell : Nat) : Nat := 256 + cell

/-- The deadline that the refill of a cell takes: the earliest of the tiles that wait for it (R206). -/
def Dev.refillDeadline (cell : Nat) (mem : Map Byte) (d : Dev) : Option Nat :=
  let ds := d.unfold.contexts.filterMap fun e =>
    if e.2.state = 4 ∧ e.2.waits = 2 ∧ e.2.waitCell = cell then (d.work e.1 e.2 mem).map e.2.deadline else none
  match ds with
  | [] => none
  | t :: l => some (l.foldl min t)

/-- The ready real-time units of a class: deadline, and context or refill. -/
def Dev.realUnits (cls : Nat) (mem : Map Byte) (d : Dev) : List (Nat × Nat) :=
  d.unfold.contexts.filterMap (fun e => (d.readyUnit cls e.1 e.2 mem).map fun t => (t, e.1))
    ++ (if cls = 0 then d.unfold.refills.filterMap fun e =>
          if e.2.state = 2 then (d.refillDeadline e.1 mem).map fun t => (t, refillKey e.1) else none
        else [])

/-- The real-time unit that goes first (R203, R206): earliest deadline, then lower context number. -/
def Dev.bestUnit (cls : Nat) (mem : Map Byte) (d : Dev) : Option Nat :=
  let better (b : Option (Nat × Nat)) (e : Nat × Nat) : Option (Nat × Nat) :=
    match b with
    | none => some e
    | some (t0, q0) => if e.1 < t0 then some e else some (t0, q0)
  ((d.realUnits cls mem).foldl better none).map Prod.snd

/-- A context does background work (R203): a check job, cell-cache fill, deficit-map output. -/
def Dev.background (q : Nat) (c : Context) (d : Dev) : Bool := d.isCheckJob q || decide (c.serves ≠ Serves.tiles)

/-- What an engine holds is a background unit (R203): a context's, or a refill that no tile waits for. -/
def Dev.holdsBackground (h : Nat) (mem : Map Byte) (d : Dev) : Bool :=
  if 256 ≤ h then (d.refillDeadline (h - 256) mem).isNone else (d.ctx h).any fun c => d.background h c

/-- The background unit that goes first: the ready one of lowest context number, then a refill that no tile waits for
(log entry 31). -/
def Dev.bestBackground (mem : Map Byte) (d : Dev) : Option Nat :=
  match d.unfold.contexts.find? fun e => decide (e.2.state = 2) && d.background e.1 e.2 with
  | some e => some e.1
  | none =>
    (d.unfold.refills.find? fun e => decide (e.2.state = 2) && (d.refillDeadline e.1 mem).isNone).map fun e => refillKey e.1

/-- The check parameters that the device sets before a unit (R213), with the running value of check_start. -/
def Dev.loadCheck (q a b s : Nat) (d : Dev) : Dev :=
  (((((((d.put (Obj.POLY q) 0x1EDC6F41).put (Obj.CTX_WIDTH q) 32).put (Obj.INIT q) 0xFFFFFFFF).put
    (Obj.XOROUT q) 0xFFFFFFFF).put (Obj.CTX_FLAGS q) 7).put (Obj.FOLD q) (fold a b s)).put
    (Obj.RUNNING q) (0xFFFFFFFF ^^^ fold a b s))

/-- Tag kind 1, stamp 0: the first unit of a tile row is taken up; its pixel rows are candidates in row order. -/
def Dev.beginTileRow (s : Stripe) (t : Nat) (d : Dev) : Dev :=
  if t < s.begun then d
  else
    let d1 := d.onStripe s.uid fun s => { s with begun := t + 1 }
    d1.each (List.range (min 256 (s.src.length - 256 * t))) fun i d => d.tagCandidate 1 (s.rowTag (256 * t + i))

/-- The identity of a tagged unit takes its engine's number. -/
def Dev.tagEngine (old new : List Byte) (d : Dev) : Dev :=
  let f (p : Nat × TagRecord) : Nat × TagRecord :=
    if p.2.follows 3 old then (p.1, { p.2 with identity := padTo 24 new }) else p
  d.onTag fun t => { t with records := t.records.map f }

/-- One byte into a check unit of `w` bits (R212). -/
def checkByte (w poly : Nat) (refin : Bool) (r : Nat) (b : Byte) : Nat :=
  let x := if refin then bitRev 8 b.toNat else b.toNat
  (List.range 8).foldl (fun r i =>
    let top := r / 2 ^ (w - 1) % 2
    let s := r * 2 % 2 ^ w
    if top ≠ x / 2 ^ (7 - i) % 2 then s ^^^ poly else s) r

/-- check_start of a context's parameters. -/
def Dev.checkStart (q : Nat) (d : Dev) : Nat :=
  let r := if bitAt (d.get (Obj.CTX_FLAGS q)) 2 then d.get (Obj.INIT q) ^^^ d.get (Obj.FOLD q)
    else d.get (Obj.INIT q)
  r % 2 ^ d.get (Obj.CTX_WIDTH q)

/-- check_end of a context's running value. -/
def Dev.checkEnd (q : Nat) (d : Dev) : Nat :=
  let w := d.get (Obj.CTX_WIDTH q)
  let r := d.get (Obj.RUNNING q)
  ((if bitAt (d.get (Obj.CTX_FLAGS q)) 1 then bitRev w r else r) ^^^ d.get (Obj.XOROUT q)) % 2 ^ w

/-- Bytes into a context's check unit. -/
def Dev.feedCheck (q : Nat) (b : List Byte) (d : Dev) : Dev :=
  let w := d.get (Obj.CTX_WIDTH q)
  let p := d.get (Obj.POLY q)
  let refin := bitAt (d.get (Obj.CTX_FLAGS q)) 0
  d.put (Obj.RUNNING q) (b.foldl (checkByte w p refin) (d.get (Obj.RUNNING q)))

/-- The bytes of a check job's unit, as its input window holds them. -/
def Dev.checkUnit (q : Nat) (c : Context) (mem : Map Byte) (d : Dev) : List Byte :=
  let done := d.get (Obj.CHECK_DONE_BYTES (q - 128))
  let m := min 4096 (d.get (Obj.CHECK_LENGTH (q - 128)) - done)
  patch (storeBytes mem (d.get (Obj.CHECK_ADDR (q - 128)) + done) m) 0 (c.window.take m)

/-- The package whose cells are decoded: that of the open job, or of the acceptance that runs (R225). -/
def Dev.cellPackage (d : Dev) : Package :=
  match d.ledger.job, d.unfold.fill with
  | none, some f => f.package
  | _, _ => d.package

/-- What a context's unit decodes as a PRED block or reads as a tile: the data, and the fold's first two values. -/
structure UnitData where
  pred : Bool
  width : Nat
  blocks : Nat
  data : List Byte
  a : Nat
  b : Nat

/-- The data of a cell, to be decoded (R147, R132). -/
def Dev.cellUnit (id : Nat) (mem : Map Byte) (d : Dev) : UnitData :=
  let p := d.cellPackage
  let e := p.cellEntry mem id
  { pred := true, width := field e 0 2, blocks := field e 2 2, data := p.bytes mem (field e 8 8) (field e 4 4),
    a := 0xFFFFFFFF - id, b := 0 }

/-- The data of a tile; nothing for a tile without data. -/
def Work.unit (w : Work) (column : Nat) (mem : Map Byte) : UnitData :=
  { pred := decide (w.tile.kind = kPred), width := 256, blocks := w.tile.blocks,
    data := if w.tile.needsData then w.src.data mem w.tile else [], a := w.src.foldA, b := column }

/-- The data as the unit reads it: where the input window holds it, from there. -/
def UnitData.through (c : Context) (u : UnitData) : UnitData :=
  if c.window = [] then u else { u with data := patch u.data c.windowAt c.window }

/-- The unit of a context; none for check jobs and the deficit map. -/
def Dev.unitOf (q : Nat) (c : Context) (mem : Map Byte) (d : Dev) : Option UnitData :=
  match c.serves with
  | .tiles => (d.work q c mem).map fun w => (w.unit c.column mem).through c
  | .cell id => some ((d.cellUnit id mem).through c)
  | .map => none
  | .range => none

/-- Where the decoding of a context's block has come to. -/
def Context.resume (c : Context) : Resume := { part := c.part, adapt := c.adapt, bitPos := c.bitPos }

/-- The input window fills when the store's data reaches a context: 16 KiB from the byte that the unit reads next. -/
def Context.fillWindow (c : Context) (u : UnitData) : Context :=
  let at_ := c.offset + c.bitPos / 8
  { c with window := (u.data.drop at_).take 16384, windowAt := at_ }

/-- A context's state as it is stored when its engine puts it down before the unit's end (R194, R202, R205): how far the unit
has come is not stated (log entry 1), but the running value and the adaptive contexts are those of that place. -/
def Dev.saveUnit (q : Nat) (c : Context) (mem : Map Byte) (d : Dev) : Context × Dev :=
  let v := d.takeFree
  match d.unitOf q c mem with
  | none =>
    if c.serves = Serves.range then
      let unit := d.checkUnit q c mem
      let n := max (c.bitPos / 8) (v.1 % (unit.length + 1))
      ({ c with bitPos := 8 * n }, v.2.feedCheck q ((unit.take n).drop (c.bitPos / 8)))
    else (c, d)
  | some u =>
    if u.pred then
      let z := c.resume.goOn u.width u.width u.blocks u.data c.offset c.block (v.1 % (u.width * u.width + 1)) c.hist
      ({ c with part := z.part, adapt := z.adapt, bitPos := z.bitPos },
       v.2.put (Obj.RUNNING q) (checkRegister u.a u.b c.seq (sampleBytes z.part.reverse)))
    else if u.data = [] then (c, d)
    else
      let n := max (c.bitPos / 8) (v.1 % (u.data.length - 3))
      ({ c with bitPos := 8 * n }, v.2.put (Obj.RUNNING q) (checkRegister u.a u.b c.seq (u.data.take n)))

/-- Changes the refill of a cell. -/
def Dev.onRefill (cell : Nat) (f : Context → Context) (d : Dev) : Dev :=
  d.onUnfold fun u => { u with refills := u.refills.map fun e => if e.1 = cell then (e.1, f e.2) else e }

/-- The stripe that a context's events name (0x4100 + q:02): a stripe's number, a seam neighbour's, a cell's identity, the
stripe of a deficit map. -/
def Dev.sourceOf (q : Nat) (c : Context) (d : Dev) : Nat :=
  match c.serves with
  | .cell id => id
  | .map => d.get Obj.DMAP_STRIPE
  | .range => 0
  | .tiles =>
    match d.stripe? c.uid with
    | none => 0
    | some s => if isSeam q then (s.neighbour c.column).getD 0 else s.number

/-- The stripe by which tagging names a context's unit (R544). -/
def Dev.tagNumber (c : Context) (d : Dev) : Nat :=
  match c.serves, d.stripe? c.uid with
  | .tiles, some s => s.number
  | .cell id, _ => id
  | _, _ => 0

/-- A unit that begins takes the check parameters and the start value; one that goes on keeps its running value (R202,
R213). -/
def Dev.loadUnit (q : Nat) (c : Context) (mem : Map Byte) (d : Dev) : Dev :=
  if 0 < c.downs then d
  else
    match d.unitOf q c mem with
    | some u => if u.data = [] then d else d.loadCheck q u.a u.b c.seq
    | none => d

/-- An engine takes up context `q` for a unit (R202), or a refill. -/
def Dev.grant (cls n q : Nat) (mem : Map Byte) (d : Dev) : Dev :=
  if 256 ≤ q then (d.onRefill (q - 256) fun c => { c with state := 3, begun := true }).hold cls n q
  else
    match d.ctx q with
    | none => d
    | some c =>
      let d1 := ((d.setCtx q { c with state := 3, begun := true }).hold cls n q).loadUnit q c mem
      let d2 := match d.work q c mem with
        | some w => if w.seam ∨ c.serves ≠ Serves.tiles then d1 else d1.beginTileRow w.st c.row
        | none => d1
      let k := d.tagNumber c
      (d2.tagEngine (unitTag q cls 0 c k) (unitTag q cls n c k)).tagStamp 3 (unitTag q cls n c k) 1 false []

/-- A context is put down before its unit ends, in the given state (R204, R205). -/
def Dev.putDown (cls n q state waits cell : Nat) (mem : Map Byte) (d : Dev) : Dev :=
  if 256 ≤ q then (d.onRefill (q - 256) fun c => { c with state := 2, downs := c.downs + 1 }).unhold cls n
  else
    match d.ctx q with
    | none => d.unhold cls n
    | some c =>
      let (c1, d1) := d.saveUnit q c mem
      let waited := c1.waited || decide (state = 1 ∨ waits = 2)
      let d2 := (d1.setCtx q { c1 with state := state, waits := waits, waitCell := cell, downs := c.downs + 1,
                                       waited := waited }).unhold cls n
      let k := d.tagNumber c
      (d2.tagStamp 3 (unitTag q cls n c k) 2 false []).tagEngine (unitTag q cls n c k) (unitTag q cls 0 c k)

/-- Every engine of a class is held. -/
def Dev.allHeld (cls : Nat) (d : Dev) : Bool := (List.range (engineCount cls)).all fun n => (d.holder cls n).isSome

/-- UNIT_TAKE_UP: the engine takes the real-time unit of earliest deadline, where none is ready a background unit; when
every engine of the class is held, a real-time unit takes the engine of a background unit (R203, R204). -/
def takeUp (cls n : Nat) (mem : Map Byte) (d : Dev) : Dev :=
  if engineCount cls ≤ n then d
  else
    match d.bestUnit cls mem, d.holder cls n with
    | some q, none => d.grant cls n q mem
    | some q, some h =>
      if d.allHeld cls ∧ d.holdsBackground h mem then (d.putDown cls n h 2 0 0 mem).grant cls n q mem else d
    | none, none =>
      match d.bestBackground mem with
      | some q => if cls = 0 then d.grant cls n q mem else d
      | none => d
    | none, some _ => d

/-- The unit of a context reads the store. -/
def Dev.readsStore (q : Nat) (c : Context) (mem : Map Byte) (d : Dev) : Bool :=
  match d.unitOf q c mem with
  | some u => decide (u.data ≠ [])
  | none => d.isCheckJob q

/-- STALL_RELEASE: an engine whose unit waits for store data longer than STALL_RELEASE is put down (R205). -/
def stallRelease (cls n : Nat) (mem : Map Byte) (d : Dev) : Dev :=
  match d.holder cls n with
  | none => d
  | some q =>
    if 256 ≤ q then d.putDown cls n q 2 0 0 mem
    else if (d.ctx q).all fun c => d.readsStore q c mem then d.putDown cls n q 1 0 0 mem
    else d

/-! ### Cells (R225 to R228) -/

/-- A cell that has been decoded goes into the cache; one that failed is counted and recorded (R226). -/
def Dev.takeCell (cell : Nat) (data : CellData) (d : Dev) : Dev :=
  let d1 := d.onUnfold fun u => { u with cells := Map.insert cell data u.cells }
  match data.fail with
  | none => d1
  | some (r, b) => (d1.bump Obj.CELLS_FAILED).raise srcUnfold 0x0403 [cell, r, b]

/-- A cell refill starts; it decodes the cell from its first block. -/
def Dev.startRefill (cell : Nat) (d : Dev) : Dev :=
  if (Map.find d.unfold.refills cell).isSome then d
  else
    let c : Context := { Context.fresh 0 0 with serves := .cell cell, state := 2 }
    d.onUnfold fun u => { u with refills := Map.insert cell c u.refills }

/-- The cache form of a cell fails its check (cause 1) or is struck by an on-chip error (2): it is refilled from the store
(R228). -/
def Dev.cellLost (cell cause : Nat) (d : Dev) : Dev :=
  if (Map.find d.unfold.refills cell).isSome then d
  else ((d.bump Obj.REFILLS).raise srcUnfold 0x0407 [cell, cause]).startRefill cell

/-- A refill ends with the cell decoded anew or failed; the contexts that waited for it go on. -/
def Dev.endRefill (cell : Nat) (data : CellData) (d : Dev) : Dev :=
  let f (e : Nat × Context) : Nat × Context :=
    if e.2.state = 4 ∧ e.2.waits = 2 ∧ e.2.waitCell = cell then (e.1, { e.2 with state := 2, waits := 0 }) else e
  (d.onUnfold fun u => { u with contexts := u.contexts.map f, refills := Map.erase cell u.refills,
                                engines := u.engines.filter fun e => e.2 ≠ refillKey cell + 1 }).takeCell cell data

/-- CELL_REFILL_DONE (R228): the refill has decoded the cell from the store. -/
def cellRefilled (cell : Nat) (mem : Map Byte) (d : Dev) : Dev :=
  if (Map.find d.unfold.refills cell).isSome then d.endRefill cell (d.cellPackage.cell mem cell) else d

/-- A cell as its blocks gave it: its raster and the bytes of its cache form (R225, R227). -/
def cellOf (id width : Nat) (out : List Nat) : CellData :=
  { size := width, raster := out.reverse, fail := none,
    bytes := (compress width (0xFFFFFFFF - id) 0 (compressBlocks width) 0 out.reverse []).length }

/-- A cell whose decoding failed at a block. -/
def cellFailedAt (width reason block : Nat) : CellData := { size := width, raster := [], fail := some (reason, block), bytes := 0 }

/-- What a block of a cell leads to: the cell, or its next block. -/
inductive CellStep where
  | done (data : CellData)
  | more (c : Context)

/-- One block of a cell is decoded (R202, R225). -/
def Context.cellBlock (id : Nat) (u : UnitData) (fault : UnitFault) (c : Context) : CellStep :=
  match fault with
  | .memory _ _ => .done (cellFailedAt u.width rMemory c.block)
  | _ =>
    match predBlockFrom c.resume u.width u.width u.blocks u.data c.offset c.block u.a u.b c.seq c.hist with
    | .error r => .done (cellFailedAt u.width r c.block)
    | .ok (o, next) =>
      if c.block + 1 = u.blocks then .done (cellOf id u.width o)
      else .more { c.newUnit with block := c.block + 1, row := c.row + 1, offset := next, seq := c.seq + 1, hist := o }

/-- The next cell of the acceptance goes to pool context `q`; with none left it is done. -/
def Dev.nextCell (q : Nat) (mem : Map Byte) (d : Dev) : Dev :=
  match d.unfold.fill with
  | none => d
  | some f =>
    if f.next < f.package.cellCount mem then
      (d.onUnfold fun u => { u with fill := some { f with next := f.next + 1 } }).setCtx q
        { Context.fresh 0 0 with serves := .cell f.next, state := 1 }
    else d.setCtx q { Context.fresh 0 0 with serves := .cell (f.package.cellCount mem - 1), state := 5 }

/-- A pool context has decoded a cell of the acceptance, which goes into the cache where it fits (R225). -/
def Dev.cellFilled (q id : Nat) (data : CellData) (mem : Map Byte) (d : Dev) : Dev :=
  (d.when (decide (cacheBytes d.unfold.cells + data.bytes ≤ d.get Obj.CAPACITY)) (Dev.takeCell id data)).nextCell q mem

/-! ### A unit completes (R209, R217, R220) -/

/-- The pixels of a tile that a placement covers (R617). -/
def coverage (cells : Map CellData) (p : Placement) : Nat :=
  match Map.find cells p.cell with
  | none => 0
  | some c =>
    let span (x : Int) : Nat := ((min 256 (x + c.size)) - max 0 x).toNat
    span p.dx * span p.dy

/-- The least and the most WU of a PRED block of rows of a width (R617). -/
def blockBounds (width : Nat) (data : List Byte) (off : Nat) : Nat × Nat :=
  let px := field data off 2 * width
  (px, px + (field data (off + 4) 4 + 3) / 4 + 16)

/-- The least and the most WU of a tile's unit (R617). -/
def unitBounds (cells : Map CellData) (e : TileEntry) (data : List Byte) (off : Nat) : Nat × Nat :=
  if e.kind ≤ kFill then (16384, 16384)
  else if e.kind = kRaw ∨ e.kind = kRepeat then (65536, 65536)
  else if e.kind = kPred then blockBounds 256 data off
  else if e.kind = kTrap then
    let w := 65536 + 64 * ((e.dataLength - 20) / 16)
    (w, w)
  else
    let m := (e.dataLength - 12) / 8
    (65536 + 256 * m, 65536 + (placements data m).foldl (fun n p => n + 256 + coverage cells p) 0)

/-- The work of a unit that ends (R617): at least the least figure, and without input waits and cell refills at most the
most. -/
def boundedWork (waited : Bool) (b : Nat × Nat) (work : Nat) : Nat :=
  if waited then max b.1 work else min b.2 (max b.1 work)

/-- WU of a tile row (R207): COST_EXCEEDED when the count first passes the declared cost. The work of a seam neighbour
belongs to no tile row (log entry 92). -/
def Dev.addWork (w : Work) (c : Context) (cls work : Nat) (mem : Map Byte) (d : Dev) : Dev :=
  if w.seam then d
  else
    match d.stripe? w.st.uid with
    | none => d
    | some s =>
      let k := 4 * c.row + cls
      let before := Map.get 0 s.used k
      let after := before + work
      let d1 := d.onStripe s.uid fun s => { s with used := Map.put 0 k after s.used }
      if before ≤ s.src.cost mem c.row cls ∧ s.src.cost mem c.row cls < after then
        d1.raise srcUnfold 0x0404 [s.number, c.row, cls, after]
      else d1

/-- The context goes on with its next tile, a seam context after its last with the stripe in slot 1 (R249). -/
def Dev.nextTile (q : Nat) (c : Context) (w : Work) (ended : Nat) (mem : Map Byte) (d : Dev) : Dev :=
  let more := if w.mirror then decide (0 < c.row) else decide (c.row + 1 < w.src.tileRows)
  if more then d.startTile q c (if w.mirror then c.row - 1 else c.row + 1) mem
  else
    let d1 := d.setCtx q { c with state := ended, begun := true }
    if w.seam then
      match d1.slotStripe 1 with
      | some s => if s.uid ≠ c.uid then d1.startSeam s c.column mem else d1
      | none => d1
    else d1

/-- TILE_FAILED (R220); a MEMORY failure is reported with the rows as they freeze. LAST_FAILURE follows tiles (log entry
92). -/
def Dev.noteTileFailed (q : Nat) (c : Context) (number reason seq : Nat) (d : Dev) : Dev :=
  let d1 := (((((d.put Obj.LASTFAIL_STRIPE number).put Obj.LASTFAIL_TILE_ROW c.row).put Obj.LASTFAIL_TILE_COLUMN
    c.column).put Obj.REASON reason).put Obj.CONTEXT q).put Obj.LASTFAIL_BLOCK_SEQ seq
  if reason = rMemory then d1 else d1.raise srcUnfold 0x0401 [number, c.row, c.column * 256 + reason, seq]

/-- The stripe number that a context's events name (0x4100 + q:02). -/
def Work.number (w : Work) (c : Context) : Nat :=
  if w.seam then (w.st.neighbour c.column).getD 0 else w.st.number

/-- A context expands another tile row's tile for its own: a REPEAT of a seam neighbour (R249). -/
def Work.copies (w : Work) (c : Context) : Bool := decide (w.origin ≠ c.row)

/-- The tile fails in the unit in progress (R217): its remaining rows take the reason, all of them where it is a REPEAT, and
the repeat store holds the failure (R130). -/
def Dev.unitFails (q cls n : Nat) (c : Context) (w : Work) (reason : Nat) (mem : Map Byte) (d : Dev) : Dev :=
  let v := if w.copies c then 0 else c.rowsDone
  let d1 := (d.failRows w c reason v).noteTileFailed q c (w.number c) reason c.seq
  let c1 := if w.tile.kind = kRepeat then c else { c with rep := [], repFail := reason }
  let d2 := (d1.tagStamp 3 (unitTag q cls n c w.st.number) 3 false []).unhold cls n
  d2.nextTile q c1 w 6 mem

/-- The unit of a PRED tile ends with the tile's samples so far (newest first) and the offset of the next block. -/
def Dev.blockDone (q : Nat) (c : Context) (w : Work) (out : List Nat) (next : Nat) (mem : Map Byte) (d : Dev) : Dev :=
  let last := decide (c.block + 1 = w.tile.blocks)
  let v := if w.copies c then 0 else c.rowsDone
  let rows := if w.copies c && ! last then 0 else out.length / 256 - v
  let scale := (w.src.tile mem c.row c.column).scale
  let d1 := d.deliverRows w c scale rows ((out.reverse).drop (256 * v)) v
  if last then d1.nextTile q { c with rep := out.reverse, repFail := 0 } w 5 mem
  else d1.setCtx q { c.newUnit with block := c.block + 1, offset := next, seq := c.seq + 1, hist := out, state := 1 }

/-- A whole tile is done. -/
def Dev.tileDone (q : Nat) (c : Context) (w : Work) (l : List Nat) (mem : Map Byte) (d : Dev) : Dev :=
  let scale := (w.src.tile mem c.row c.column).scale
  let d1 := d.deliverRows w c scale 256 l 0
  let c1 := if w.tile.kind = kRepeat then c else { c with rep := l, repFail := 0 }
  d1.nextTile q c1 w 5 mem

/-- The running value once the check unit has been fed a unit's bytes (R212). -/
def Dev.fedCheck (q : Nat) (c : Context) (u : UnitData) (m : List Byte) (d : Dev) : Dev :=
  d.put (Obj.RUNNING q) (checkRegister u.a u.b c.seq m)

/-- The running value when a block ends or fails: the samples that the block gave have been fed (R209, R212). -/
def Dev.fedBlock (q : Nat) (c : Context) (u : UnitData) (d : Dev) : Dev :=
  d.fedCheck q c u (sampleBytes (fedSamples c.resume u.width u.width u.blocks u.data c.offset c.block c.hist).reverse)

/-- The first cell that a CELL tile places and that the cache does not hold now: it is being refilled, or it is absent
after a reset of the main die (log entry 95). -/
def Dev.cellMissing (data : List Byte) (d : Dev) : Option Nat :=
  ((tilePlacements data).find? fun p =>
    (Map.find d.unfold.refills p.cell).isSome || (Map.find d.unfold.cells p.cell).isNone).map Placement.cell

/-- The tile unit of context `q` completes on an engine. -/
def Dev.completeTile (q cls n : Nat) (c : Context) (w : Work) (work : Nat) (fault : UnitFault) (mem : Map Byte)
    (d : Dev) : Dev :=
  let u := (w.unit c.column mem).through c
  let placedHere (id : Nat) : Bool :=
    decide (w.tile.kind = kCell) && (tilePlacements u.data).any fun p => decide (p.cell = id)
  match fault with
  | .cell id cause addr =>
    if placedHere id ∧ (cause = 1 ∨ cause = 2) then
      (((d.addWork w c cls work mem).when (decide (cause = 2)) (Dev.memUncorrectable 8 0 addr 0)).cellLost id cause).putDown
        cls n q 4 2 id mem
    else d
  | .memory array addr =>
    ((d.addWork w c cls work mem).memUncorrectable array (if array = 6 ∨ array = 7 then q else 0) addr 0).unitFails q cls n c
      w rMemory mem
  | .none =>
    let wu := boundedWork c.waited (unitBounds d.unfold.cells w.tile u.data c.offset) work
    let d1 := d.addWork w c cls wu mem
    let extra := le 2 (c.downs + 1) ++ le 4 wu
    let tagged (d : Dev) : Dev :=
      (d.tagStamp 3 (unitTag q cls n c w.st.number) 2 false []).tagStamp 3 (unitTag q cls n c w.st.number) 3 false []
        |>.tagStamp 3 (unitTag q cls n c w.st.number) 4 true extra
    if w.tile.kind = kRepeat then
      if c.repFail ≠ 0 then d1.unitFails q cls n c w c.repFail mem
      else ((tagged d1).unhold cls n).tileDone q c w c.rep mem
    else if w.tile.kind = kPred then
      match predBlockFrom c.resume 256 256 w.tile.blocks u.data c.offset c.block u.a u.b c.seq c.hist with
      | .error r => (d1.fedBlock q c u).unitFails q cls n c w r mem
      | .ok (out, next) => (((tagged d1).unhold cls n).fedBlock q c u).blockDone q c w out next mem
    else
      let guarded := u.data.take (u.data.length - 4)
      let d2 := if u.data = [] then d1 else d1.fedCheck q c u guarded
      let asks := if w.tile.kind = kCell ∧ tileCheckOk u.a u.b c.seq u.data ∧ ! cellRefFails u.data (d.get Obj.CELL_COUNT)
        then d.cellMissing u.data else none
      match asks with
      | some id => (d2.startRefill id).putDown cls n q 4 2 id mem
      | none =>
        match wholeTile d.unfold.cells (d.get Obj.CELL_COUNT) w.tile u.data u.a u.b c.seq with
        | .error r => d2.unitFails q cls n c w r mem
        | .ok l => ((tagged d2).unhold cls n).tileDone q c w l mem

/-- A unit of cell-cache fill completes on a pool context (R202, R225). -/
def Dev.completeCell (q cls n id work : Nat) (c : Context) (fault : UnitFault) (mem : Map Byte) (d : Dev) : Dev :=
  let u := (d.cellUnit id mem).through c
  let tag := unitTag q cls n c id
  let wu := boundedWork c.waited (blockBounds u.width u.data c.offset) work
  let d1 := match fault with
    | .memory array addr => d.memUncorrectable array q addr 0
    | _ => d
  let d2 := ((((d1.unhold cls n).fedBlock q c u).tagStamp 3 tag 2 false []).tagStamp 3 tag 3 false []).tagStamp 3 tag 4 true
    (le 2 (c.downs + 1) ++ le 4 wu)
  match c.cellBlock id u fault with
  | .done data => d2.cellFilled q id data mem
  | .more c1 => d2.setCtx q { c1 with state := 1 }

/-- A unit of a refill completes (R228). -/
def Dev.completeRefill (cls n id : Nat) (fault : UnitFault) (mem : Map Byte) (d : Dev) : Dev :=
  match Map.find d.unfold.refills id with
  | none => d.unhold cls n
  | some c =>
    match c.cellBlock id (d.cellUnit id mem) fault with
    | .done data => d.endRefill id data
    | .more c1 => (d.onRefill id fun _ => { c1 with state := 2 }).unhold cls n

/-! ### Check jobs (R212, R214, R215, R232) -/

/-- CHECK_JOB_DONE (R232, R233). -/
def Dev.checkJobDone (j code : Nat) (d : Dev) : Dev :=
  let r := d.checkEnd (128 + j)
  (d.put (Obj.CHECK_RESULT j) code).raise srcUnfold 0x0405 [128 + j, code, r % 2 ^ 32, r / 2 ^ 32]

/-- A 4 KiB unit of a check job completes; `fault` is an uncorrectable error in its input. -/
def Dev.completeCheck (q cls n : Nat) (c : Context) (fault : UnitFault) (mem : Map Byte) (d : Dev) : Dev :=
  let j := q - 128
  let d0 := d.unhold cls n
  if fault ≠ .none then (d0.setCtx q { c with state := 6 }).checkJobDone j 5
  else
    let done := d.get (Obj.CHECK_DONE_BYTES j)
    let len := d.get (Obj.CHECK_LENGTH j)
    let unit := d.checkUnit q c mem
    let m := unit.length
    let d1 := (d0.feedCheck q (unit.drop (c.bitPos / 8))).put (Obj.CHECK_DONE_BYTES j) (done + m)
    if len ≤ done + m then
      let code := if d1.checkEnd q = d.get (Obj.EXPECT j) then 3 else 4
      (d1.setCtx q { c with state := 5, held := 0 }).checkJobDone j code
    else if c.held = 2 then (d1.setCtx q { c with state := 4, held := 0 }).put (Obj.CHECK_RESULT j) 2
    else d1.setCtx q { c.newUnit with state := 1 }

/-- UNIT_COMPLETE: the engine's unit ends (R209). -/
def unitComplete (cls n work : Nat) (fault : UnitFault) (mem : Map Byte) (d : Dev) : Dev :=
  match d.holder cls n with
  | none => d
  | some q =>
    if 256 ≤ q then d.completeRefill cls n (q - 256) fault mem
    else
      match d.ctx q with
      | none => d
      | some c =>
        if d.isCheckJob q then d.completeCheck q cls n c fault mem
        else
          match c.serves with
          | .cell id => d.completeCell q cls n id work c fault mem
          | .map => d
          | .range => d
          | .tiles =>
            match d.work q c mem with
            | none => d.unhold cls n
            | some w => (d.completeTile q cls n c w work fault mem).noteFirstRows

/-- A context is ready with its data, a candidate of tag kind 3. -/
def Dev.filled (q : Nat) (c : Context) (mem : Map Byte) (d : Dev) : Dev :=
  let c1 := match d.unitOf q c mem with
    | some u => c.fillWindow u
    | none => c
  d.setReady q c1 (d.tagNumber c) c.cls

/-- Data of the store reaches a context (R205, R218): it is ready, or it waits for the refetch of pages; a check job with
uncorrectable data ends with a store error (R232), and a cell whose data is uncorrectable fails (R226). -/
def Dev.dataArrives (q : Nat) (correct : Bool) (pages : List Nat) (mem : Map Byte) (d : Dev) : Dev :=
  match d.ctx q with
  | none => d
  | some c =>
    if c.state ≠ 1 then d
    else if d.isCheckJob q then
      if correct then d.setReady q { c with window := (d.checkUnit q { c with window := [] } mem) } 0 0
      else (d.setCtx q { c with state := 6 }).checkJobDone (q - 128) 5
    else
      match c.serves, correct with
      | .cell id, false => d.cellFilled q id (cellFailedAt (d.cellUnit id mem).width rStore c.block) mem
      | _, true => d.filled q c mem
      | _, false => d.setCtx q { c with state := 4, waits := 1, pages := pages }

/-- A page has been refetched: the contexts that waited for it, and wait for no other page, read their data again (R218). -/
def Dev.refetched (page : Nat) (d : Dev) : Dev :=
  d.each d.unfold.contexts fun e d =>
    if e.2.state = 4 ∧ e.2.waits = 1 ∧ e.2.pages.contains page then
      let left := e.2.pages.filter (· ≠ page)
      d.setCtx e.1 (if left = [] then { e.2 with state := 1, waits := 0, pages := [] } else { e.2 with pages := left })
    else d

/-- The tests of a check-job command or write beside its own (R215, R229). -/
def Dev.checkJobBusy (q : Query) (j : Nat) (d : Dev) : Bool :=
  let o := d.get (Obj.CONTEXT_OWNER j)
  decide (o ≠ 0 ∧ o ≠ 0x0600 + q.session ∧ o ≠ 0x0800 + q.session)

/-- The context of a check job waits for store data, is suspended, runs. -/
def Dev.checkJobResult (j : Nat) (d : Dev) : Nat := d.get (Obj.CHECK_RESULT j)

/-- Check-job COMMAND (R232); which command fits which state of the job is log entry 92's. -/
def checkJobCommand (q : Query) (j cmd : Nat) (d : Dev) : Answer :=
  let res := d.checkJobResult j
  let mine := decide (d.get (Obj.CONTEXT_OWNER j) = 0x0800 + q.session)
  let fits := match cmd with
    | 1 => mine && decide (res ≠ 1 ∧ res ≠ 2)
    | 2 => mine && decide (res = 1)
    | 3 => mine && decide (res = 2)
    | 4 => mine
    | _ => true
  let a := d.get (Obj.CHECK_ADDR j)
  let n := d.get (Obj.CHECK_LENGTH j)
  let c0 : Context := { Context.fresh 0 0 with serves := .range }
  d.command q 1 cmd
    [(.stateForbids, !fits && !d.checkJobBusy q j), (.resourceBusy, d.checkJobBusy q j),
     (.range, decide (cmd = 0 ∨ 4 < cmd ∨ (cmd = 1 ∧ (n = 0 ∨ ¬ d.populated a n))))]
    fun d =>
      match cmd with
      | 1 => (((d.put (Obj.RUNNING (128 + j)) (d.checkStart (128 + j))).put (Obj.CHECK_DONE_BYTES j) 0).put
          (Obj.CHECK_RESULT j) 1).setCtx (128 + j) { c0 with state := 1 }
      | 2 =>
        match d.ctx (128 + j) with
        | some c =>
          if c.state = 3 ∨ 0 < c.downs then d.setCtx (128 + j) { c with held := 2 }
          else (d.setCtx (128 + j) { c with state := 4 }).put (Obj.CHECK_RESULT j) 2
        | none => d
      | 3 => (d.setCtx (128 + j) { c0 with state := 1 }).put (Obj.CHECK_RESULT j) 1
      | _ =>
        let d1 := if res = 1 ∨ res = 2 then d.checkJobDone j 6 else d
        ((d1.dropCtx (128 + j)).put (Obj.CONTEXT_OWNER j) 0).claimMap

/-- Tests of writes to the check objects of contexts and to check jobs (R214, R215, R229); RUNNING takes a value below 2^w
(log entry 92). -/
def Dev.contextTests (session index sub v : Nat) (d : Dev) : List (Abort × Bool) :=
  if 0x4100 ≤ index ∧ index < 0x41A0 then
    let q := index - 0x4100
    let o := if 128 ≤ q then d.get (Obj.CONTEXT_OWNER (q - 128)) else 0
    let w := d.get (Obj.CTX_WIDTH q)
    [(.stateForbids, decide (o / 256 ≠ 8)), (.stateForbids, decide (d.checkJobResult (q - 128) = 1)),
     (.resourceBusy, decide (o ≠ 0x0800 + session)),
     (.range, decide ((sub = 5 ∨ sub = 7 ∨ sub = 8 ∨ sub = 11) ∧ 2 ^ w ≤ v)),
     (.range, decide (sub = 6 ∧ (v = 0 ∨ 64 < v))),
     (.range, decide (sub = 9 ∧ 8 ≤ v))]
  else if 0x4200 ≤ index ∧ index < 0x4220 then
    let o := d.get (Obj.CONTEXT_OWNER (index - 0x4200))
    [(.resourceBusy, decide (o ≠ 0 ∧ o ≠ 0x0600 + session ∧ o ≠ 0x0800 + session))]
  else if index = 0x4030 then [(.range, decide (sub = 1 ∧ v % 64 ≠ 0))]
  else []

/-- A write of ADDR or LENGTH claims the context as a check job's (R229). -/
def Dev.contextWritten (session index sub : Nat) (d : Dev) : Dev :=
  if 0x4200 ≤ index ∧ index < 0x4220 ∧ (sub = 1 ∨ sub = 2) then
    d.put (Obj.CONTEXT_OWNER (index - 0x4200)) (0x0800 + session)
  else d

/-! ### Exchange, withdrawal, STOP (R197, R199) -/

/-- The number under which a context goes on after the exchange. -/
def exchanged (q : Nat) : Nat := if q < 32 then q + 32 else if q < 64 then q - 32 else q

/-- The check-unit objects of a context (0x4100 + q:05 to 0B). -/
def checkObjects (q : Nat) : List Nat :=
  [Obj.POLY q, Obj.CTX_WIDTH q, Obj.INIT q, Obj.XOROUT q, Obj.CTX_FLAGS q, Obj.FOLD q, Obj.RUNNING q]

/-- The check units of two contexts change places. -/
def Dev.swapCheck (a b : Nat) (d : Dev) : Dev :=
  d.each ((checkObjects a).zip (checkObjects b)) fun p d => (d.put p.1 (d.get p.2)).put p.2 (d.get p.1)

/-- The exchange of slots 0 and 1 (R197): context c and context 32 + c change places with all their state, on an engine or
waiting for data as they are; the stripe whose last row entered S0 has no slot any more. -/
def Dev.exchangeSlots (d : Dev) : Dev :=
  let ctxs := d.unfold.contexts.foldl (fun m e => Map.insert (exchanged e.1) e.2 m) []
  let engines := d.unfold.engines.map fun e => (e.1, if e.2 ≤ 256 then exchanged (e.2 - 1) + 1 else e.2)
  let d1 := (d.onUnfold fun u => { u with contexts := ctxs, engines := engines }).each (List.range 32) fun c d =>
    d.swapCheck c (32 + c)
  let queue := d1.dram.queue.map fun r => { r with asker := exchanged r.asker }
  { d1 with dram := { d1.dram with queue := queue },
            stripes := d1.stripes.map fun s => if s.slot = 0 then { s with slot := 9 }
                         else if s.slot = 1 then { s with slot := 0 } else s }

/-- Rows of a stripe that are in the basket and have not entered S0. -/
def Dev.basketRows (s : Stripe) (d : Dev) : Nat :=
  let es := d.unfold.parts.map fun e => e.1 / 32
  ((es.filter fun e => s.entry + s.entered ≤ e ∧ e < s.entry + s.src.length).eraseDups).length

/-- A row of `s` that has not entered S0. -/
def Stripe.waitingKey (s : Stripe) (k : Nat) : Bool :=
  decide (s.entry + s.entered ≤ k / 32 ∧ k / 32 < s.entry + s.src.length)

/-- Discards the contexts and rows of a stripe and records EXPANSION_DISCARDED (R199): cause 1 withdrawal, 2 STOP. -/
def Dev.discardStripe (s : Stripe) (cause : Nat) (d : Dev) : Dev :=
  let mine (e : Nat × Context) : Bool := decide (e.2.uid = s.uid ∧ e.1 < 128)
  let qs := (d.unfold.contexts.filter mine).map fun e => e.1 + 1
  let rows := d.basketRows s
  if qs.isEmpty ∧ rows = 0 then d
  else
    let drop (u : Unfold) : Unfold :=
      { u with
        contexts := u.contexts.filter fun e => ¬ mine e,
        engines := u.engines.filter fun e => ¬ qs.contains e.2,
        parts := u.parts.filter fun e => ¬ s.waitingKey e.1,
        edges := u.edges.filter fun e => ¬ s.waitingKey e.1 }
    let d1 := (d.each (List.range 32) fun tc d => d.endRun tc (reportLate tc)).each qs fun v d => d.unask (v - 1)
    let gone (b : List Byte) : Bool := decide (b.take 4 = le 4 s.number ∧ s.entered ≤ field b 4 4 ∧ field b 8 1 = s.kind)
    let goneUnit (b : List Byte) : Bool := decide (slice b 3 4 = le 4 s.number)
    (((d1.onUnfold drop).tagAbandon 1 gone).tagAbandon 3 goneUnit).raise srcUnfold 0x0406
      [s.number, s.entered, rows, cause]

/-! ### Admission (R221, R222, R250) -/

/-- The neighbours of stripe `i` of a package in a SEAM_MODE (R246): at −x and at +x; with another length none. -/
def Package.neighbours (p : Package) (mem : Map Byte) (mode i : Nat) : Option Nat × Option Nat :=
  let use (j : Nat) : Option Nat :=
    if j < p.stripeCount mem ∧ (p.stripe mem j).length = (p.stripe mem i).length then some j else none
  let before := if i = 0 then none else use (i - 1)
  let after := use (i + 1)
  if mode = 1 then (before, after) else if mode = 2 then (after, before) else (none, none)

/-- The floors of the seam tiles assigned to tile row `t` of stripe `i` for a neighbour `j` (R250). -/
def Package.seamFloor (p : Package) (mem : Map Byte) (i t j cls : Nat) (cols : Nat → Bool) : Nat :=
  let l := (p.stripe mem i).length
  let src := p.source mem j
  let mirror := decide ((p.stripe mem j).direction ≠ (p.stripe mem i).direction)
  let y0 := 256 * t
  let y1 := min (256 * t + 255) (l - 1)
  let (a, b) := if mirror then (l - 1 - y1, l - 1 - y0) else (y0, y1)
  let tiles := if a / 256 = b / 256 then [a / 256] else [a / 256, b / 256]
  tiles.foldl (fun n u => (List.range 32).foldl (fun n tc =>
    if cols tc then n + tileFloor (src.tile mem (src.chain mem tc u) tc) cls else n) n) 0

/-- C of R221 for a stripe's tile row: the declared cost, and the seam floors of a writing stripe. -/
def Package.admissionCost (p : Package) (mem : Map Byte) (mode o i t cls : Nat) : Nat :=
  let (mi, pl) := p.neighbours mem mode i
  let m := match mi with
    | some j => p.seamFloor mem i t j cls (minusColumn o)
    | none => 0
  let q := match pl with
    | some j => p.seamFloor mem i t j cls (plusColumn o)
    | none => 0
  (p.source mem i).cost mem t cls + m + q

/-- N · R · 256 · U of a class. -/
def classShare (cls u : Nat) : Nat :=
  (if cls = 0 then 16 * 1200000000 else if cls = 1 then 8 * 4800000000 else 4 * 4800000000) * 256 * u

/-- A cost passes at shot rate `f` (R221). -/
def admitted (f u cls c : Nat) : Bool := decide (c = 0 ∨ 100 * c * f ≤ classShare cls u)

/-- Every tile row of a package, in stripe and tile-row order. -/
def Package.tileRows (p : Package) (mem : Map Byte) : List (Nat × Nat) :=
  (List.range (p.stripeCount mem)).flatMap fun i => (List.range (p.stripe mem i).tileRows).map fun t => (i, t)

/-- The first tile row that R221 fails, and MAX_SHOT_RATE (R222). -/
def Package.admission (p : Package) (mem : Map Byte) (mode o f u : Nat) : Option (Nat × Nat × Nat) :=
  let rows := p.tileRows mem
  let fails (x : Nat × Nat) : Bool :=
    (List.range 3).any fun cls => ¬ admitted f u cls (p.admissionCost mem mode o x.1 x.2 cls)
  match rows.find? fails with
  | none => none
  | some (i, t) =>
    let bounds := rows.flatMap fun x => (List.range 3).filterMap fun cls =>
      let c := p.admissionCost mem mode o x.1 x.2 cls
      if c = 0 then none else some (classShare cls u / (100 * c))
    let m := bounds.foldl min 2000000
    some (i, t, if m < 1000 then 0 else m)

/-! ### MEASURE (R231) -/

/-- The MEASURE stripe in the store: its entry and its source. -/
def Dev.measureSource (mem : Map Byte) (d : Dev) : StripeEntry × Source :=
  let a := d.get Obj.MEASURE_STRIPE_ADDR
  let e := stripeEntry (storeBytes mem a 64)
  (e, { base := a, foldA := 0x80000000 + d.get Obj.MEASURE_SEQUENCE, indexOffset := e.indexOffset, length := e.length,
        tileRows := e.tileRows })

/-- The tests of MEASURE that answer CHECK (R231); index and data may lie up to the end of the 4 TiB (log entry 92). -/
def Dev.measureFails (mem : Map Byte) (d : Dev) : Bool :=
  let a := d.get Obj.MEASURE_STRIPE_ADDR
  let (e, src) := d.measureSource mem
  let cols := d.get Obj.MEASURE_COLUMNS
  let hi := storePages * pageBytes - a
  !d.populated a 64 || stripeEntryBad (storeBytes mem a 64) || stripeValuesBad 64 hi e
    || ((src.rowFaults mem 0 64 hi).any fun x => x.2.isSome)
    || (List.range src.tileRows).any fun t =>
      ((List.range 32).any fun tc => bitAt cols tc && decide ((src.tile mem t tc).kind = kCell))
        || (List.range 3).any fun cls =>
          ¬ admitted (d.get Obj.JOB_SHOT_RATE) (d.get Obj.ADMISSION_SHARE) cls (src.cost mem t cls)

/-- The columns that MEASURE selects. -/
def Dev.measureColumns (d : Dev) : List Nat := (List.range 32).filter fun c => bitAt (d.get Obj.MEASURE_COLUMNS) c

/-- MEASURE claims one context for each selected column (R231). -/
def Dev.claimMeasure (d : Dev) : Dev :=
  d.each (d.freePool.zip d.measureColumns) fun p d => d.put (Obj.CONTEXT_OWNER p.1) (0x0700 + p.2)

/-! ### Objects -/

/-- What the accepted MEASURE command names is taken (R231): where its entry and data lie, direction, origin and columns. -/
def Dev.takeMeasure (mem : Map Byte) (d : Dev) : Dev :=
  let (e, src) := d.measureSource mem
  { d with measuring := { src := src, direction := e.direction, origin := e.origin, columns := d.get Obj.MEASURE_COLUMNS } }

/-- The role of a context (0x4100 + q:0C). -/
def Dev.roleOf (q : Nat) (d : Dev) : Nat :=
  if q < 64 then 0 else if q < 96 then 1 else if q < 128 then 2
  else
    let o := d.get (Obj.CONTEXT_OWNER (q - 128))
    if o = 0x0600 then (if d.unfold.map = some (q - 128) then 6 else 3)
    else if o / 256 = 7 then 4
    else if o / 256 = 8 then 5
    else 0xFF

/-- Objects of 06_expansion that show the state of contexts, basket and cache. -/
def Dev.expansionValue (k : Nat) (d : Dev) : Option Nat :=
  if k = Obj.LEAD_ROWS then some d.leadRows
  else if k = Obj.ENTRY_ROW then some d.entryRow
  else if k = Obj.BYTES_USED then some (cacheBytes d.unfold.cells)
  else if k = Obj.CELLS_RESIDENT then some (d.unfold.cells.filter fun e => e.2.fail.isNone).length
  else if 0x410000 ≤ k ∧ k < 0x41A000 then
    let q := (k - 0x410000) / 256
    let c := d.ctx q
    match k % 256 with
    | 1 => some ((c.map (·.state)).getD 0)
    | 2 => some ((c.map fun c => d.sourceOf q c).getD 0)
    | 3 => some ((c.map (·.row)).getD 0)
    | 4 => some ((c.map (·.seq)).getD 0)
    | 12 => some (d.roleOf q)
    | _ => none
  else none

end Sys2Proof.Machine
end

