-- ==== Sys2Proof/Machine/Fetch.lean ====
section
/-!
DEFINITION. Sys2Proof/Machine/Fetch.lean: how the store serves its reads (14_layout_store, R474 to R477, R483).
The bursts of requests, the arbiter of a subchannel, and the bytes that a context reads.
-/
namespace Sys2Proof.Machine

/-! ### Banks (R476) -/

/-- A bank after an access to a row (R476): its 2-bit counter and its open row + 1, 0 where it closes. -/
def bankAfter (row : Nat) (b : Nat × Nat) : Nat × Nat :=
  let n := if b.2 = row + 1 then min 3 (b.1 + 1) else if b.2 = 0 then b.1 else b.1 - 1
  (n, if 2 ≤ n then row + 1 else 0)

/-- Where a burst lies (R466): rank, the key of its bank, row. Bursts count 64 bytes from store address 0. -/
def StoreState.place (t : StoreState) (burst : Nat) : Option (Nat × Nat × Nat) :=
  (t.physical (burst / 32768)).map fun x =>
    let r := x / 32768
    let u := x % 32768
    (r, 64 * r + 32 * (burst % 2) + u % 32, 128 * (u / 32) + burst % 32768 / 256)

/-- A burst is accessed: its bank's counter and row, and power-down of its rank ends (R476, R477). -/
def Dev.touchBurst (burst : Nat) (d : Dev) : Dev :=
  match d.dram.place burst with
  | none => d
  | some (r, key, row) =>
    d.onStore fun t =>
      { t with banks := Map.insert key (bankAfter row (Map.get (2, 0) t.banks key)) t.banks,
               powerDown := t.powerDown.filter fun q => q ≠ r }

/-- The row of a burst is open. -/
def StoreState.rowOpen (t : StoreState) (burst : Nat) : Bool :=
  (t.place burst).any fun x => (Map.get (2, 0) t.banks x.2.1).2 = x.2.2 + 1

/-! ### Requests (R474) -/

/-- The bytes that a unit reads next, from its first byte: those of a PRED block, or the whole data (R200, R205). -/
def UnitData.reads (c : Context) (u : UnitData) : Nat × Nat :=
  let start := c.offset + c.bitPos / 8
  let stop := if u.pred ∧ c.offset + 8 ≤ u.data.length then min u.data.length (c.offset + 12 + field u.data (c.offset + 4) 4)
    else u.data.length
  (start, stop - start)

/-- Store address of the first byte of a context's unit data. -/
def Dev.unitBase (q : Nat) (c : Context) (mem : Map Byte) (d : Dev) : Nat :=
  match c.serves with
  | .tiles => ((d.work q c mem).map fun w => w.src.base + w.tile.dataOffset).getD 0
  | .cell id => d.cellPackage.base + field (d.cellPackage.cellEntry mem id) 8 8
  | .map => 0
  | .range => 0

/-- The bytes that a context reads (R205, R232): its unit's data, or the next unit of its check job. -/
def Dev.readRange (q : Nat) (mem : Map Byte) (d : Dev) : Nat × Nat :=
  match d.ctx q with
  | none => (0, 0)
  | some c =>
    if d.isCheckJob q then
      let done := d.get (Obj.CHECK_DONE_BYTES (q - 128))
      (d.get (Obj.CHECK_ADDR (q - 128)) + done, min 4096 (d.get (Obj.CHECK_LENGTH (q - 128)) - done))
    else
      match d.unitOf q c mem with
      | none => (0, 0)
      | some u => (d.unitBase q c mem + (u.reads c).1, (u.reads c).2)

/-- The request goes on with the read from burst `start` on: at most 4 KiB within one store page (R474). -/
def ColumnRequest.read (start last : Nat) (r : ColumnRequest) : ColumnRequest :=
  { r with start := start, stop := min last (min (start + 64) ((start / 32768 + 1) * 32768)), done0 := 0, done1 := 0,
           last := last }

/-- The request takes a range of bytes. -/
def ColumnRequest.sized (v : Nat × Nat) (r : ColumnRequest) : ColumnRequest :=
  if v.2 = 0 then r else r.read (v.1 / 64) ((v.1 + v.2 - 1) / 64 + 1)

/-- Every request whose bytes are not named yet takes those that its context reads. -/
def Dev.sizeReads (mem : Map Byte) (d : Dev) : Dev :=
  let size (r : ColumnRequest) : ColumnRequest := if r.last = 0 then r.sized (d.readRange r.asker mem) else r
  d.onStore fun t => { t with queue := t.queue.map size }

/-- The next burst of a request's read on subchannel `p`. -/
def ColumnRequest.next (p : Nat) (r : ColumnRequest) : Option Nat :=
  let first := if r.start % 2 = p then r.start else r.start + 1
  let n := first + 2 * (if p = 0 then r.done0 else r.done1)
  if n < r.stop then some n else none

/-- Every burst of the read in progress has been issued. -/
def ColumnRequest.spent (r : ColumnRequest) : Bool := (r.next 0).isNone && (r.next 1).isNone

/-! ### The arbiter (R475) -/

/-- The ready column commands of a class on subchannel `p` of a channel, in arrival order: asker and burst. The fetch master
keeps at most 8 real-time reads at a channel. -/
def Dev.ready (real : Bool) (ch p : Nat) (d : Dev) : List (Nat × Nat) :=
  let at_ := d.dram.queue.filter fun r => decide (r.real = real ∧ (d.dram.rankOf r.start).map (· / 4) = some ch)
  (if real then at_.take 8 else at_).filterMap fun r => (r.next p).map fun n => (r.asker, n)

/-- The command that goes first within a class: a row hit before a row miss, each in arrival order. -/
def Dev.firstColumn (l : List (Nat × Nat)) (d : Dev) : Option (Nat × Nat) :=
  (l.find? fun e => d.dram.rowOpen e.2).or l.head?

/-- A subchannel issues its next column command (R475): a background command where no real-time command is ready or none of
the last 3 was one (log entry 96). -/
def Dev.column (ch p : Nat) (d : Dev) : Dev :=
  let rt := d.ready true ch p
  let bg := d.ready false ch p
  let last := Map.get [] d.dram.recent (2 * ch + p)
  let back := ! bg.isEmpty && (rt.isEmpty || ! last.contains true)
  match d.firstColumn (if back then bg else rt) with
  | none => d
  | some (q, n) =>
    let count (r : ColumnRequest) : ColumnRequest :=
      if r.asker ≠ q ∨ r.next p ≠ some n then r
      else if p = 0 then { r with done0 := r.done0 + 1 } else { r with done1 := r.done1 + 1 }
    (d.touchBurst n).onStore fun t =>
      { t with queue := t.queue.map count, recent := Map.insert (2 * ch + p) ((back :: last).take 3) t.recent }

/-- Requests whose read is over go on with their next read, behind those that wait, or leave the queue. -/
def Dev.nextReads (d : Dev) : Dev :=
  let done (r : ColumnRequest) : Bool := r.spent && decide (r.last ≠ 0)
  d.onStore fun t =>
    { t with queue := (t.queue.filter fun r => ! done r)
               ++ (t.queue.filter fun r => done r && decide (r.stop < r.last)).map fun r => r.read r.stop r.last }

/-- The rest of a read that lies on no mapped page is not issued. -/
def Dev.skipRead (q : Nat) (d : Dev) : Dev :=
  let skip (r : ColumnRequest) : ColumnRequest := if r.asker = q then { r with done0 := r.stop, done1 := r.stop } else r
  (d.onStore fun t => { t with queue := t.queue.map skip }).nextReads

/-- The channels of a request's reads issue commands until its last burst has been issued. -/
def Dev.serveReads (q : Nat) : Nat → Dev → Dev
  | 0, d => d
  | n + 1, d =>
    match d.dram.queue.find? fun r => decide (r.asker = q ∧ r.last ≠ 0) with
    | none => d
    | some r =>
      match d.dram.rankOf r.start with
      | none => Dev.serveReads q n (d.skipRead q)
      | some k => Dev.serveReads q n (((d.column (k / 4) 0).column (k / 4) 1).nextReads)

/-- The read of context `q` is issued, with the commands that go before it or between its own. -/
def Dev.issueRead (q : Nat) (mem : Map Byte) (d : Dev) : Dev :=
  let d1 := d.sizeReads mem
  d1.serveReads q ((d1.dram.queue.map fun r => r.last - r.start).sum + 1)

/-- An access of `n` bytes from `a` on that no context asks for (R474): a DMA unit, a grid row, a patrol read. -/
def Dev.access (real : Bool) (a n : Nat) (mem : Map Byte) (d : Dev) : Dev :=
  if n = 0 then d
  else
    let r : ColumnRequest := { asker := 256, real := real, start := 0, stop := 0, done0 := 0, done1 := 0, last := 0 }
    (d.onStore fun t => { t with queue := t.queue ++ [r.sized (a, n)] }).issueRead 256 mem

/-- A rank has a request in the queue; `onlyReal` asks for a real-time one (R477, R478). -/
def Dev.rankAsked (onlyReal : Bool) (r : Nat) (mem : Map Byte) (d : Dev) : Bool :=
  (d.sizeReads mem).dram.queue.any fun q => (q.real || ! onlyReal) && decide (d.dram.rankOf q.start = some r ∧ q.last ≠ 0)

/-! ### Pages that cannot be read (R483) -/

/-- Some page of `n` bytes from `a` on awaits its refetch (R483). -/
def Dev.awaits (a n : Nat) (d : Dev) : Bool := (pagesOf a n).any fun p => d.dram.awaiting.contains p

end Sys2Proof.Machine
end

