-- ==== Sys2Proof/Machine/Press.lean ====
section
/-!
DEFINITION. Sys2Proof/Machine/Press.lean: in-line dose correction (07_dose_correction, R235 to R256).
The corrected target, density window, long-range map, seam weights, clipping, the line store and the output queue.
-/
namespace Sys2Proof.Machine

/-- The SOURCE code of PRESS (R527). -/
def srcPress : Nat := 0x4100

/-! ### The arithmetic of a pixel (R236) -/

/-- The scaled sample. -/
def scaledSample (s ts js : Nat) : Nat := (s * ts * js + 2 ^ 27) / 2 ^ 28

/-- d before the clip. -/
def targetRaw (a f m w : Nat) : Nat := (a * ((f * m * w + 2 ^ 27) / 2 ^ 28) + 2 ^ 13) / 2 ^ 14

/-- D′ in eighths of a DU, clipped at 30,720. -/
def target (a f m w : Nat) : Nat := min 30720 (targetRaw a f m w)

/-- Factor 1 ("off", R237). -/
def factorOff : Nat := 0x4000

/-! ### Rows of samples (R239, R240) -/

/-- The job scale that a stripe's samples take (R237). -/
def Stripe.sampleScale (s : Stripe) : Nat := if s.kind = 0 then s.jobScale else 0x4000

/-- The scaled samples of a part; a mend raster's samples are targets (R237). -/
def Part.scaled (p : Part) (s : Stripe) : List Nat :=
  if p.reason ≠ 0 then List.replicate 256 0
  else if s.kind = 1 then p.samples
  else p.samples.map fun v => scaledSample v p.scale s.sampleScale

/-- The own parts of a row; an absent part is LATE. -/
def Dev.rowParts (s : Stripe) (y : Nat) (d : Dev) : List Part :=
  (List.range 32).map fun tc => (d.part? s y tc).getD { samples := List.replicate 256 0, scale := 0, reason := rLate }

/-- The 32 neighbour columns from column `x0` on for own row `y`: scaled samples, and the smallest reason among the
parts that are missing (0 where all are known) (R240, R249). -/
def Dev.edgeColumns (s : Stripe) (y x0 : Nat) (d : Dev) : List Nat × Nat :=
  let part (tc : Nat) : Part :=
    match Map.find d.unfold.edges (s.partKey y tc) with
    | some p => p
    | none => { samples := [], scale := 0, reason := rLate }
  let tcs := if x0 / 256 = (x0 + 31) / 256 then [x0 / 256] else [x0 / 256, (x0 + 31) / 256]
  let vals := (List.range 32).map fun i =>
    let p := part ((x0 + i) / 256)
    if p.reason ≠ 0 then 0 else scaledSample (p.samples.getD ((x0 + i) % 256) 0) p.scale s.sampleScale
  let reasons := (tcs.map fun tc => (part tc).reason).filter fun r => r ≠ 0
  (vals, reasons.foldl (fun m r => if m = 0 then r else min m r) 0)

/-- The row with its edges as the line store keeps it: min(a, 32,767) of 32 + 8,192 + 32 columns, and the reasons of
left edge, parts, right edge. -/
def Dev.basketRow (s : Stripe) (y : Nat) (d : Dev) : LineRow :=
  let o := s.val Obj.SEAM_OVERLAP
  let parts := d.rowParts s y
  let left := if s.minus.isSome then d.edgeColumns s y (8160 - o) else (List.replicate 32 0, 0)
  let right := if s.plus.isSome then d.edgeColumns s y o else (List.replicate 32 0, 0)
  { a := (left.1 ++ parts.flatMap (fun p => p.scaled s) ++ right.1).map (min 32767),
    reasons := left.2 :: parts.map (·.reason) ++ [right.2] }

/-- Row `y` of a stripe for the window (R240): beyond the stripe nothing is exposed and nothing is unknown. -/
def Dev.windowRow (s : Stripe) (y : Int) (d : Dev) : LineRow :=
  if y < 0 ∨ (s.src.length : Int) ≤ y then { a := List.replicate 8256 0, reasons := List.replicate 34 0 }
  else
    match Map.find d.unfold.line (s.entry + y.toNat) with
    | some r => r
    | none => d.basketRow s y.toNat

/-- The 65 rows of the window of row `y`. -/
def Dev.windowRows (s : Stripe) (y : Nat) (d : Dev) : List LineRow :=
  (List.range 65).map fun (i : Nat) => d.windowRow s ((y : Int) - 32 + (i : Nat))

/-- Column sums V over the window's rows (R239). -/
def columnSums (rows : List LineRow) : List Nat :=
  rows.foldl (fun v r => List.zipWith (fun n a => n + a / 32) v r.a) (List.replicate 8256 0)

/-- Running sums: the entering values are added, the leaving ones subtracted. -/
def slideSums : Nat → List Nat → List Nat → List Nat
  | s, e :: es, l :: ls => s :: slideSums (s + e - l) es ls
  | s, _, _ => [s]

/-- S of every own column (R239). -/
def windowSums (v : List Nat) : List Nat := slideSums ((v.take 65).foldl (· + ·) 0) (v.drop 65) v

/-- The density factors of a row (R239). -/
def densityFactors (table : List Byte) (v : List Nat) : List Nat :=
  (windowSums v).map fun s => field table (2 * (s / 4225)) 2

/-- The smallest non-zero reason among the parts whose samples the window of tile column `tc` holds (R241). -/
def gapReason (rows : List LineRow) (tc : Nat) : Nat :=
  let rs := rows.flatMap fun r => (r.reasons.drop tc).take 3
  (rs.filter fun r => r ≠ 0).foldl (fun m r => if m = 0 then r else min m r) 0

/-! ### Long-range map (R242 to R245) -/

/-- Grid rows of a stripe of L rows. -/
def gridRows (l : Nat) : Nat := (l - 1) / 64 + 2

/-- The map's first byte for stripe `i` of the package, from MAP_BASE. -/
def Package.mapOffset (p : Package) (mem : Map Byte) (i : Nat) : Nat :=
  (List.range i).foldl (fun n j => n + 264 * gridRows (p.stripe mem j).length) 0

/-- MAP_LENGTH: bytes of the map area of all stripes (R244). -/
def Package.mapLength (p : Package) (mem : Map Byte) : Nat := p.mapOffset mem (p.stripeCount mem)

/-- A grid-row record holds (R243). -/
def gridRowOk (i gy : Nat) (b : List Byte) : Bool :=
  decide (field b 258 2 = 0 ∧ foldedCheck (0xC0000000 + i) 0 gy (b.take 260) = field b 260 4)

/-- The key of a grid row. -/
def gridKey (uid gy : Nat) : Nat := 2 ^ 20 * uid + gy

/-- M of a column between two grid rows (R242). -/
def mapFactor (g0 g1 : List Nat) (x y : Nat) : Nat :=
  let gx := x / 64
  let fx := x % 64
  let fy := y % 64
  ((64 - fx) * (64 - fy) * g0.getD gx 0 + fx * (64 - fy) * g0.getD (gx + 1) 0 + (64 - fx) * fy * g1.getD gx 0
    + fx * fy * g1.getD (gx + 1) 0 + 2048) / 4096

/-- MAP_GRID_ROW_FETCH (R245): the record is tested, read once more where it fails or the store returns it
uncorrectable, and after two failures the rows that use it are blanked. `first` and `second` say whether the store
returns each read correct; a page that awaits its refetch it does not (R483). -/
def gridFetch (stripe gy : Nat) (first second : Bool) (mem : Map Byte) (d0 : Dev) : Dev :=
  match d0.stripes.find? fun s => s.kind = 0 ∧ s.number = stripe with
  | none => d0
  | some s =>
    if d0.get Obj.MAP_ON = 0 ∨ gridRows s.src.length ≤ gy ∨ (Map.find d0.unfold.grid (gridKey s.uid gy)).isSome then d0
    else
      let a := d0.get Obj.MAP_BASE + d0.package.mapOffset mem stripe + 264 * gy
      let b := storeBytes mem a 264
      let here := ! d0.awaits a 264
      let good := gridRowOk stripe gy b && here
      let again := ! (first && good)
      let d := (d0.access true a 264 mem).when again fun d => d.access true a 264 mem
      let note (v : Option (List Nat)) (d : Dev) : Dev :=
        d.onUnfold fun u => { u with grid := Map.insert (gridKey s.uid gy) v u.grid }
      if (first ∨ second) ∧ good then note (some ((List.range 129).map fun i => field b (2 * i) 2)) d
      else
        ((note none d).bump Obj.MAP_FAILURES).raise srcPress 0x0502
          [stripe, gy, if second && here then 1 else 2, 64 * (gy - 1)]

/-! ### Seam (R247, R248) -/

/-- The seam weight of column `x`. -/
def Dev.seamWeight (s : Stripe) (ramp : List Byte) (x : Nat) : Nat :=
  let o := s.val Obj.SEAM_OVERLAP
  if x < o ∧ s.minus.isSome then field ramp (2 * ((2 * x + 1) * 32 / o)) 2
  else if 8192 - o ≤ x ∧ x < 8192 ∧ s.plus.isSome then
    factorOff - field ramp (2 * ((2 * (x - (8192 - o)) + 1) * 32 / o)) 2
  else factorOff

/-! ### Forming a row (R236 to R241, R251, R252) -/

/-- A row as press forms it: d before the clip for each pixel, and the reasons of its parts. -/
structure PressRow where
  raw : List Nat
  reasons : List Nat
  /-- The tile columns whose window held an unknown sample. -/
  gaps : List Nat
  deriving DecidableEq, Repr

/-- The grid rows that row `y` uses are fetched (R245). -/
def Dev.gridReady (s : Stripe) (y : Nat) (d : Dev) : Bool :=
  s.kind ≠ 0 || d.get Obj.MAP_ON = 0 ||
    ((Map.find d.unfold.grid (gridKey s.uid (y / 64))).isSome
      && (Map.find d.unfold.grid (gridKey s.uid (y / 64 + 1))).isSome)

/-- Row `y` of a stripe by R236 to R241. -/
def Dev.pressRow (s : Stripe) (y : Nat) (d : Dev) : PressRow :=
  let parts := d.rowParts s y
  let a := parts.flatMap fun p => p.scaled s
  let dense := decide (s.kind = 0 ∧ s.val Obj.DENSITY_ON = 1)
  let rows := if dense then d.windowRows s y else []
  let fs := if dense then densityFactors (d.stripeTab Obj.FACTOR_TABLE 2048 s) (columnSums rows)
    else List.replicate 8192 factorOff
  let gap (tc : Nat) : Nat := if dense then gapReason rows tc else 0
  let mapped := decide (s.kind = 0 ∧ d.get Obj.MAP_ON = 1)
  let g (gy : Nat) : Option (List Nat) := (Map.find d.unfold.grid (gridKey s.uid gy)).getD none
  let mapFails := mapped && ((g (y / 64)).isNone || (g (y / 64 + 1)).isNone)
  let m (x : Nat) : Nat :=
    if mapped then mapFactor ((g (y / 64)).getD []) ((g (y / 64 + 1)).getD []) x y else factorOff
  let ramp := d.stripeTab Obj.RAMP_TABLE 128 s
  let w (x : Nat) : Nat := if s.kind = 0 then Dev.seamWeight s ramp x else factorOff
  let reason (tc : Nat) (p : Part) : Nat :=
    if p.reason ≠ 0 then p.reason
    else if mapFails then rLate
    else if s.val Obj.GAP_POLICY = 1 then gap tc
    else 0
  let reasons := (List.range 32).zipWith (fun tc p => reason tc p) parts
  let px := (List.range 8192).zip (a.zip fs)
  { raw := px.map fun q => if reasons.getD (q.1 / 256) 0 ≠ 0 then 0 else targetRaw q.2.1 q.2.2 (m q.1) (w q.1),
    reasons := reasons,
    gaps := (List.range 32).filter fun tc => gap tc ≠ 0 }

/-- WINDOW_GAP (R241, R255). -/
def reportGap (tc : Nat) (r : Run) (d : Dev) : Dev :=
  d.raise srcPress 0x0505 [r.stripe, r.first, r.rows, tc * 256 + r.code]

/-- The gaps of a row are counted and their runs kept (R241). -/
def Dev.noteGaps (s : Stripe) (y : Nat) (gaps : List Nat) (d : Dev) : Dev :=
  d.each (List.range 32) fun tc d =>
    if gaps.contains tc then
      (d.bump Obj.GAP_PARTS).addRun (64 + tc) s.number y (s.val Obj.GAP_POLICY) (2 ^ 64) (reportGap tc)
    else d.endRun (64 + tc) (reportGap tc)

/-- Clips of a row are counted (R251). -/
def Dev.noteClips (s : Stripe) (raw : List Nat) (d : Dev) : Dev :=
  let clipped := raw.filter fun v => 30720 < v
  let top := clipped.foldl max 0
  if clipped = [] then d
  else
    let d1 := (d.add 64 Obj.CLIPPED_PIXELS clipped.length).bump Obj.CLIPPED_ROWS
    let d2 := if d.get Obj.MAX_BEFORE_CLIP < top then d1.put Obj.MAX_BEFORE_CLIP top else d1
    d2.onStripe s.uid fun s =>
      { s with clipPixels := s.clipPixels + clipped.length, clipRows := s.clipRows + 1, clipMax := max s.clipMax top }

/-- CLIP_SUMMARY after the last row (R251). -/
def Dev.clipSummary (uid : Nat) (d : Dev) : Dev :=
  match d.stripe? uid with
  | none => d
  | some s =>
    if 0 < s.clipRows then
      d.raise srcPress 0x0501 [s.number, min 0xFFFFFFFF s.clipPixels, s.clipRows, s.clipMax]
    else d

/-- Row `y` takes its place in the line store, in place of row y − 64 (R252). -/
def Dev.storeLine (s : Stripe) (y : Nat) (d : Dev) : Dev :=
  let r := d.basketRow s y
  d.onUnfold fun u => { u with line := Map.insert (s.entry + y) r (u.line.filter fun e => s.entry + y < e.1 + 64) }

/-- The runs of a stripe's gaps end with its last row. -/
def Dev.endGaps (d : Dev) : Dev := d.each (List.range 32) fun tc d => d.endRun (64 + tc) (reportGap tc)

/-- Forms row `y` (R252): the row joins the output queue. -/
def Dev.formRow (s : Stripe) (y : Nat) (d : Dev) : Dev :=
  let r := d.pressRow s y
  let row : FormedRow := { uid := s.uid, y := y, target := r.raw.map (min 30720), reasons := r.reasons }
  let d1 := ((d.noteGaps s y r.gaps).noteClips s r.raw).storeLine s y
  let d2 := (d1.onUnfold fun u => { u with queue := u.queue ++ [row] }).onStripe s.uid fun s => { s with formed := y + 1 }
  let d3 := d2.tagStamp 1 (s.rowTag y) 2 false []
  if y + 1 = s.src.length then (d3.endGaps).clipSummary s.uid else d3

/-- The edge-store data of own row `y` are complete or frozen (R252). -/
def Dev.edgesReady (s : Stripe) (y : Nat) (d : Dev) : Bool :=
  decide (y < s.frozen) || (List.range 32).all fun tc =>
    (s.neighbour tc).isNone || (Map.find d.unfold.edges (s.partKey y tc)).any fun p => p.reason = 0

/-- Every part of own row `y` is complete or frozen (R208, R209, R252): a part that failed waits for the freeze. -/
def Dev.partsReady (s : Stripe) (y : Nat) (d : Dev) : Bool := decide (y < s.frozen) || d.rowComplete s y

/-- The row that press forms next: the first stripe in entry order with rows left. -/
def Dev.nextToForm (d : Dev) : Option Stripe := d.stripes.find? fun s => s.formed < s.src.length ∧ s.last.isNone

/-- ROW_FORMED (R252). -/
def rowFormed (d : Dev) : Dev :=
  match d.nextToForm with
  | none => d
  | some s =>
    let y := s.formed
    let n := min (y + 32) (s.src.length - 1) + 1 - y
    let ready := (List.range n).all fun i => d.partsReady s (y + i) && (s.kind ≠ 0 || d.edgesReady s (y + i))
    if ready ∧ d.gridReady s y ∧ d.unfold.queue.length < 32 then d.formRow s y else d

/-! ### S0 takes a row (R253) -/

/-- PRESS_LATE (R253). -/
def reportPressLate (r : Run) (d : Dev) : Dev := d.raise srcPress 0x0503 [r.stripe, r.first, r.rows]

/-- Row `y` leaves basket and edge store. -/
def Dev.dropRow (s : Stripe) (y : Nat) (d : Dev) : Dev :=
  let e := s.entry + y
  d.onUnfold fun u => { u with parts := u.parts.filter (fun p => p.1 / 32 ≠ e), edges := u.edges.filter fun p => p.1 / 32 ≠ e }

/-- The reasons of a row that press has not formed: the basket's before LATE (R238, R253). -/
def Dev.lateReasons (s : Stripe) (y : Nat) (d : Dev) : List Nat :=
  (d.rowParts s y).map fun p => if p.reason ≠ 0 then p.reason else rLate

/-- S0 takes row `y` of a stripe: its targets and reasons, and the device after. A row that press has not formed
enters blanked as LATE and is abandoned (R253). -/
def Dev.takeRow (s : Stripe) (y : Nat) (d : Dev) : List Nat × List Nat × Dev :=
  let n := d.unfold.queue.length
  let d1 := if n < d.get Obj.QUEUE_MIN then d.put Obj.QUEUE_MIN n else d
  let late (_ : Unit) : List Nat × List Nat × Dev :=
    let d2 := (d1.storeLine s y).onStripe s.uid fun s => { s with formed := max s.formed (y + 1) }
    let d3 := (d2.bump Obj.LATE_ROWS).addRun 32 s.number y 0 (2 ^ 64) reportPressLate
    let d4 := if y + 1 = s.src.length then (d3.endRun 32 reportPressLate).endGaps else d3
    (List.replicate 8192 0, d.lateReasons s y, d4.dropRow s y)
  match d1.unfold.queue with
  | r :: rest =>
    if r.uid = s.uid ∧ r.y = y then
      let d2 := (d1.onUnfold fun u => { u with queue := rest }).endRun 32 reportPressLate
      (r.target, r.reasons, d2.dropRow s y)
    else late ()
  | [] => late ()

/-- Press discards the rows of a withdrawn stripe that it has formed (R254); its run of late rows ends (R253). -/
def Dev.discardFormed (s : Stripe) (d : Dev) : Dev :=
  let own (k : Nat) : Bool := decide (s.entry + s.entered ≤ k ∧ k < s.entry + s.src.length)
  (d.onUnfold fun u =>
    { u with queue := u.queue.filter (fun r => r.uid ≠ s.uid), line := u.line.filter (fun e => ¬ own e.1),
             grid := u.grid.filter fun e => e.1 / 2 ^ 20 ≠ s.uid }).endGaps.endRun 32 reportPressLate

/-- The 0x4803 values of the most recently opened stripe. -/
def Dev.pressInEffect (s : Stripe) (d : Dev) : Dev :=
  ((((((d.put Obj.FACTOR_CHECK (crc32c (d.stripeTab Obj.FACTOR_TABLE 2048 s))).put Obj.RAMP_CHECK
    (crc32c (d.stripeTab Obj.RAMP_TABLE 128 s))).put Obj.NEIGHBOUR_MINUS_X (s.minus.getD 0xFFFFFFFF)).put
    Obj.NEIGHBOUR_PLUS_X (s.plus.getD 0xFFFFFFFF)).put Obj.QUEUE_MIN 32).put Obj.MAX_BEFORE_CLIP 0)

/-- Tests of writes to press objects (R256). -/
def Dev.pressTests (index sub v : Nat) (d : Dev) : List (Abort × Bool) :=
  if index = 0x4800 ∧ (sub = 2 ∨ sub = 3) then
    [(.stateForbids, d.jobOpen), (.range, decide (sub = 3 ∧ v % 64 ≠ 0))]
  else []

/-- A RAMP_TABLE with an entry above 0x4000 is refused (R256). -/
def rampBad (b : List Byte) : Bool := (List.range 64).any fun k => 0x4000 < field b (2 * k) 2

/-- Objects of 07_dose_correction that show press's state. -/
def Dev.pressValue (k : Nat) (d : Dev) : Option Nat :=
  if k = Obj.NEXT_ROW then some ((d.nextToForm.map (·.formed)).getD 0)
  else if k = Obj.QUEUE_ROWS then some d.unfold.queue.length
  else none

/-! ### The meanings of 06_expansion and 07_dose_correction whose effect is expansion's or press's alone -/

def execUnitTakeUp (cls : EngineClass) (engine : Nat) (s : State) : Host.Outcome State Fault Refusal :=
  s.nextMem (takeUp (classNum cls) engine)
def execStallRelease (cls : EngineClass) (engine : Nat) (s : State) : Host.Outcome State Fault Refusal :=
  s.nextMem (stallRelease (classNum cls) engine)
def execCellRefillDone (cell : Nat) (s : State) : Host.Outcome State Fault Refusal := s.nextMem (cellRefilled cell)
def execRowFormed (s : State) : Host.Outcome State Fault Refusal := s.next rowFormed
def execMapGridRowFetch (stripe gy : Nat) (first second : Bool) (s : State) : Host.Outcome State Fault Refusal :=
  s.nextMem (gridFetch stripe gy first second)

/-- A check-job command of session `r` (R232). -/
def checkJobExec (r : Req) (j cmd : Nat) (s : State) : Host.Outcome State Fault Refusal :=
  let q := r.write (0x4200 + j) 4
  s.next (Dev.serveCommand q (checkJobCommand q j cmd))

def execCheckJobStart (r : Req) (job : Fin 32) (s : State) : Host.Outcome State Fault Refusal := checkJobExec r job.val 1 s
def execCheckJobSuspend (r : Req) (job : Fin 32) (s : State) : Host.Outcome State Fault Refusal := checkJobExec r job.val 2 s
def execCheckJobResume (r : Req) (job : Fin 32) (s : State) : Host.Outcome State Fault Refusal := checkJobExec r job.val 3 s
def execCheckJobAbort (r : Req) (job : Fin 32) (s : State) : Host.Outcome State Fault Refusal := checkJobExec r job.val 4 s

end Sys2Proof.Machine
end

