-- ==== Sys2Proof/Machine/Conveyor.lean ====
section
/-!
DEFINITION. Sys2Proof/Machine/Conveyor.lean: the mangle's rows, engines and commit queue
(08_conveyor_and_dose_engines, R257 to R291; the split of R54 to R57).
-/
namespace Sys2Proof.Machine

/-! ### Small helpers -/

/-- Changes the conveyor. -/
def Dev.onConv (f : Conveyor → Conveyor) (d : Dev) : Dev := { d with conv := f d.conv }

/-- The key of a slot. -/
def slotKey (seg slot : Nat) : Nat := 128 * seg + slot

/-- The row in a slot. -/
def Dev.rowIn (seg slot : Nat) (d : Dev) : Option ConvRow := Map.find d.conv.rows (slotKey seg slot)

/-- Writes a row into a slot. -/
def Dev.setRow (seg slot : Nat) (r : ConvRow) (d : Dev) : Dev :=
  d.onConv fun c => { c with rows := Map.insert (slotKey seg slot) r c.rows }

/-- A slot becomes empty (VALID 0). -/
def Dev.clearRow (seg slot : Nat) (d : Dev) : Dev :=
  d.onConv fun c => { c with rows := Map.erase (slotKey seg slot) c.rows }

/-- The rows of a segment. -/
def Dev.rowsOf (seg : Nat) (d : Dev) : Map ConvRow := d.conv.rows.filter fun e => e.1 / 128 = seg

/-- The conveyor holds no row (R288). -/
def Dev.conveyorEmpty (d : Dev) : Bool := d.conv.rows.isEmpty && d.conv.landing.isEmpty

/-- The stripe whose origin is armed. -/
def Dev.armedStripe (d : Dev) : Option Stripe := d.stripes.find? fun s => s.armed

/-- Shots of a stripe (R28). -/
def Stripe.shots (s : Stripe) : Nat := s.src.length + 8176

/-- The first SSN that no stripe of the sequence takes (R34, R35). -/
def Dev.nextBase (d : Dev) : Nat :=
  d.stripes.foldl (fun n s => if s.last.isNone ∧ s.sequence = d.sequence then max n (s.ssnBase + s.shots) else n) d.ssnNext

/-- The SSN of the next advance: of the stripe that shoots, of the next stripe that waits, or of the next to open. -/
def Dev.nextAdvanceSsn (d : Dev) : Nat :=
  let left (s : Stripe) : Bool := decide (s.advanced < s.shots) && s.last.isNone
  match d.stripes.find? fun s => s.armed && left s with
  | some s => s.ssnBase + s.advanced
  | none =>
    match d.stripes.find? fun s => left s with
    | some s => s.ssnBase
    | none => d.nextBase

/-- Shots are being issued: from the arming of an origin until the stripe's last strobe. -/
def Dev.issuing (d : Dev) : Bool := d.armedStripe.isSome

/-- A stripe's shots belong to the sequence of SSNs in use (R34, R38). -/
def Dev.ofSequence (uid : Nat) (d : Dev) : Bool :=
  d.stripes.any fun s => decide (s.uid = uid ∧ s.sequence = d.sequence)

/-- An event marked J of a stripe: an entry of the open job only where the stripe belongs to its sequence (R38). -/
def Dev.raiseOf (uid source code ssn : Nat) (params : List Nat) (data : List Byte) (d : Dev) : Dev :=
  if d.ofSequence uid then d.raiseJ source code ssn params data else d.raise source code params

/-- The residual that marks LOST (R260). -/
def lostMark : Nat := 0x8000

/-! ### The split (R57) -/

/-- Rounds n ÷ m to the nearest integer, half to even. -/
def roundHalfEven (n m : Nat) : Nat :=
  let q := n / m
  let r := n % m
  if m < 2 * r ∨ (2 * r = m ∧ q % 2 = 1) then q + 1 else q

/-- Code and residual after a delivered visit (R57). -/
def split (res : Int) (g n : Nat) : Nat × Int :=
  if res ≤ 0 then (0, res)
  else
    let code := min (roundHalfEven (res.toNat * 1024) (g * n)) 63
    let sub := roundHalfEven (g * code) 1024
    (code, res - sub)

/-- A visit as an engine computes it (R274): `res` is the stored word; a mismatch changes nothing. The result says
whether the visit would be delivered. -/
def engineVisit (res g n : Nat) (pix blank : Bool) (mm : Bool) : Nat × Nat × Bool :=
  if ¬ pix ∨ blank ∨ res = lostMark ∨ n = 0 ∨ g = 0 then (0, res, false)
  else if mm then (0, res, true)
  else
    let (code, r) := split (toSigned 16 res) g n
    (code, ofSigned 16 r, true)

/-! ### Beams and the live-visits table (R26, R32, R280) -/

/-- The physical beam row of a logical row, and the reverse (R26). -/
def beamRow (direction rho : Nat) : Nat := if direction = 0 then rho else 511 - rho

/-- The segment that serves beam row `r`, and the visit it makes. -/
def beamSegment (direction r : Nat) : Nat := beamRow direction r / 8
def beamVisit (direction r : Nat) : Nat := beamRow direction r / 16

/-- Whether a beam is live. -/
def Lvt.live (t : Lvt) (r c : Nat) : Bool :=
  decide (Map.get 0 t.gains (512 * r + c) ≠ 0) && ¬ bitAt t.blanked (beamSegment t.direction r)

/-- The entry of a beam: live beams of its column and phase at its visit and later. -/
def Lvt.entry (t : Lvt) (r c : Nat) : Nat :=
  if t.live r c then
    ((List.range 32).filter fun m =>
      let r2 := 16 * m + r % 16
      t.live r2 c && decide (beamVisit t.direction r ≤ beamVisit t.direction r2)).length
  else 0

/-- Beams with a non-zero entry. -/
def Lvt.liveBeams (t : Lvt) : Nat := (t.gains.filter fun e => t.live (e.1 / 512) (e.1 % 512)).length

/-- The table's bytes (0x5021). -/
def Lvt.bytes (t : Lvt) : List Byte := (List.range 262144).flatMap fun i => le 1 (t.entry (i / 512) (i % 512))

/-- The segments without an engine. -/
def Dev.blankedSegments (d : Dev) : Nat :=
  (List.range 64).foldl (fun n s => if d.get (Obj.ENGINE_MAP s) = 0xFF then n + 2 ^ s else n) 0

/-- The table is switched at SSN `x` (R281, R282): recorded with the segments that have no engine. -/
def Dev.switchTable (t : Lvt) (cause x : Nat) (d : Dev) : Dev :=
  let d1 := d.raiseJ 0x1000 0x0605 x [lo32 x, hi16 x, t.liveBeams, cause] (le 8 t.blanked ++ le 4 t.liveBeams)
  let d2 := d1.onConv fun c => { c with lvt := t }
  ((d2.put Obj.SWITCH_SSN x).put Obj.LVT_LIVE_BEAMS t.liveBeams).put Obj.CAUSE cause

/-- The table as the engine map now has it. -/
def Dev.rebuilt (d : Dev) : Lvt := { d.conv.lvt with blanked := d.blankedSegments }

/-- The table is to be rebuilt for a cause (R282); a table that waits already keeps its own switch (R42). -/
def Dev.rebuildTable (cause : Nat) (regain : Option (Nat × Nat)) (d : Dev) : Dev :=
  let n : LvtNext := { at_ := d.clock.raw, shots := Config.rebuildShots, cause := cause, regain := regain }
  d.onConv fun c => { c with lvtNext := c.lvtNext ++ [n] }

/-! ### Engines (R276, R277, R279, R283) -/

/-- An engine waits for the switch at which it takes up a segment (R283). -/
def Dev.regains (e : Nat) (d : Dev) : Bool := d.conv.lvtNext.any fun n => decide (n.regain.map Prod.snd = some e)

/-- The lowest-numbered spare that may be darned: it has passed since its last attachment (R278), and waits for no
segment. -/
def Dev.spareEngine (d : Dev) : Option Nat :=
  (List.range 68).find? fun e => decide (d.get (Obj.ENGINE_STATE e) = 1) && d.conv.passed.contains e && ! d.regains e

/-- An engine takes over a segment from SSN `x` on. -/
def Dev.attach (e seg x : Nat) (d : Dev) : Dev :=
  let d1 := d.raiseJ (0x2000 + e) 0x0603 x [e, seg, lo32 x, hi16 x] []
  ((d1.put (Obj.ENGINE_MAP seg) e).put (Obj.ENGINE_STATE e) 0).onConv fun c => { c with passed := c.passed.filter (· ≠ e) }

/-- A retirement takes effect at its shot boundary: a spare takes over, or the segment has no engine. -/
def Dev.darn (n : Darn) (d : Dev) : Dev :=
  match d.spareEngine with
  | some e => d.attach e n.segment n.due
  | none =>
    let d1 := d.raiseJ (0x1000 + n.segment) 0x0604 n.due [n.segment, lo32 n.due, hi16 n.due] []
    (d1.put (Obj.ENGINE_MAP n.segment) 0xFF).rebuildTable 2 none

/-- An attached engine retires at SSN `m` (R276, R289, R290): cause 1 mismatches, 2 command; `x` is the first shot without
it. -/
def Dev.noteRetired (e seg m x cause : Nat) (d : Dev) : Dev :=
  (d.raiseJ (0x2000 + e) 0x0602 x [e, seg, lo32 m, cause] []).put (Obj.ENGINE_STATE e) 2

/-- A retirement that takes effect at the boundary of SSN m + 2 (R277). -/
def Dev.retire (e seg m cause : Nat) (d : Dev) : Dev :=
  let n : Darn := { due := m + 2, segment := seg, engine := e }
  (d.noteRetired e seg m (m + 2) cause).onConv fun c => { c with darns := c.darns ++ [n] }

/-- A table that waits is due: its shots have passed, or 1 ms since its cause. -/
def LvtNext.due (now : Nat) (n : LvtNext) : Bool := decide (n.shots = 0 ∨ n.at_ + 1000000 ≤ now)

/-- A table switch at SSN `x`: a segment regains its engine with it (R283); a spare that has failed meanwhile is not
darned (R278), and its table is not switched to. -/
def Dev.switchDue (x : Nat) (n : LvtNext) (d : Dev) : Dev :=
  match n.regain with
  | none => d.switchTable d.rebuilt n.cause x
  | some (seg, e) =>
    if d.get (Obj.ENGINE_STATE e) ≠ 1 then d
    else
      let d1 := d.attach e seg x
      d1.switchTable d1.rebuilt n.cause x

/-- Retirements and table switches that fall due at the advance of SSN `x` (R262, R277, R282, R283). -/
def Dev.switchEngines (x : Nat) (d : Dev) : Dev :=
  let due := d.conv.darns.filter fun n => n.due ≤ x
  let d1 := d.onConv fun c => { c with darns := c.darns.filter fun n => ¬ n.due ≤ x }
  let d2 := d1.each due Dev.darn
  let now := d2.clock.raw
  let waits := (d2.conv.lvtNext.filter fun n => ! n.due now).map fun n => { n with shots := n.shots - 1 }
  (d2.onConv fun c => { c with lvtNext := waits }).each (d2.conv.lvtNext.filter fun n => n.due now) (Dev.switchDue x)

/-- One mismatching code of engine `e` of a segment at SSN `m` (R275, R276). -/
def Dev.mismatch (uid e seg m row col : Nat) (d : Dev) : Dev :=
  let beam := row * 65536 + col
  let d1 := d.raiseOf uid (0x2000 + e) 0x0601 m [e * 256 + seg, lo32 m, hi16 m, beam] []
  let d2 := (((((d1.bump (Obj.ENGINE_MISMATCHES e)).add 64 Obj.MISMATCHES 1).put Obj.ENGINE e).put Obj.SEGMENT seg).put
    Obj.SSN m).put Obj.BEAM beam
  let past := Map.get [] d.conv.mismatches e
  let d3 := d2.onConv fun c => { c with mismatches := Map.insert e ((m :: past).take 2) c.mismatches }
  match past with
  | [_, m2] => if m ≤ m2 + 1048575 ∧ d.get (Obj.ENGINE_STATE e) = 0 then d3.retire e seg m 1 else d3
  | _ => d3

/-! ### LOST words (R260) -/

/-- Splits a list into pieces of `n`. -/
def pieces {α : Type} (n : Nat) : Nat → List α → List (List α)
  | 0, _ => []
  | fuel + 1, l => if l.isEmpty then [] else l.take n :: pieces n fuel (l.drop n)

/-- The data of RESIDUAL_LOST entries: up to 14 words in each (R440). -/
def lostData (words : List Nat) : List (List Byte) :=
  (pieces 14 (words.length + 1) words).map fun l => (l ++ List.replicate (14 - l.length) 0xFFFE).flatMap (le 2)

/-- The event of RESIDUAL_LOST with every entry of its list (R260, R440); `all` marks the whole row. -/
def Dev.raiseLost (seg ssn : Nat) (r : ConvRow) (words : List Nat) (all : Bool) (d : Dev) : Dev :=
  let ps := [seg, r.number, r.y, if all then 2048 else words.length]
  let data := if all then [le 2 0xFFFF ++ (List.replicate 13 0xFFFE).flatMap (le 2)] else lostData words
  (d.when (d.ofSequence r.uid) fun d => d.each data fun b d => d.journal 0x0609 ssn (.event ps b)).raise (0x1000 + seg) 0x0609 ps

/-- A plane with the word of columns 4m to 4m + 3 marked. -/
def markWord (m : Nat) (plane : List Nat) : List Nat :=
  plane.zipIdx.map fun q => if q.2 / 4 = m then lostMark else q.1

/-- A row with words (128 · plane + group) marked LOST. -/
def ConvRow.mark (words : List Nat) (r : ConvRow) : ConvRow :=
  let f (planes : List (List Nat)) (w : Nat) : List (List Nat) :=
    planes.zipIdx.map fun q => if q.2 = w / 128 then markWord (w % 128) q.1 else q.1
  { r with planes := words.foldl f r.planes, lostWords := min 0xFFFF (r.lostWords + words.length) }

/-- A word of a row already carries the LOST mark. -/
def ConvRow.isLost (r : ConvRow) (w : Nat) : Bool :=
  decide (((r.planes.getD (w / 128) []).getD (4 * (w % 128)) 0) = lostMark)

/-- Every word of a row. -/
def allWords : List Nat := List.range 2048

/-- The words of a row that a loss newly marks. -/
def ConvRow.newlyLost (words : List Nat) (all : Bool) (r : ConvRow) : List Nat :=
  (if all then allWords else words).filter fun w => ¬ r.isLost w

/-- Words of a row that a segment holds are lost (R260): recorded and counted, at the first shot whose visits they undo. -/
def Dev.noteLost (seg ssn : Nat) (r : ConvRow) (words : List Nat) (all : Bool) (d : Dev) : Dev :=
  let new := r.newlyLost words all
  if new.isEmpty then d
  else
    ((d.raiseLost seg ssn r new all).add 32 (Obj.UNCORRECTABLE_WORDS seg) new.length).add 64 Obj.LOST_WORDS new.length

/-- Words of the row in a slot are marked LOST (R260). -/
def Dev.markLost (seg slot ssn : Nat) (words : List Nat) (all : Bool) (d : Dev) : Dev :=
  match d.rowIn seg slot with
  | none => d
  | some r => (d.setRow seg slot (r.mark (r.newlyLost words all))).noteLost seg ssn r words all

/-! ### Sub-array repair (R284 to R286) -/

/-- The spare sub-array of a segment is in use or a repair waits. -/
def Dev.spareInUse (seg : Nat) (d : Dev) : Bool :=
  decide (0x100 ≤ d.get (Obj.SEGMENT_MEMORY seg)) || d.conv.repairs.any fun r => r.segment = seg

/-- SUBARRAY_REPAIRED. -/
def Dev.repairDone (r : Repair) (x : Nat) (d : Dev) : Dev :=
  (d.raiseJ (0x1000 + r.segment) 0x060E x [r.segment, r.sub, lo32 x, hi16 x] []).put (Obj.SEGMENT_MEMORY r.segment)
    (0x200 + r.sub)

/-- SUBARRAY_REPAIR starts at SSN `x`; a segment without rows is repaired at once (R285). -/
def Dev.startRepair (r : Repair) (x : Nat) (d : Dev) : Dev :=
  let d1 := d.raiseJ (0x1000 + r.segment) 0x060C x [r.segment, r.sub, lo32 x, r.cause] []
  if (d.rowsOf r.segment).isEmpty then d1.repairDone r x
  else
    (d1.put (Obj.SEGMENT_MEMORY r.segment) (0x100 + r.sub)).onConv fun c =>
      { c with repairs := c.repairs ++ [{ r with started := true, slots := 0xFFFF, steps := 0 }] }

/-- A repair is asked for; it waits for the next advance while shots are issued. -/
def Dev.askRepair (seg sub cause : Nat) (d : Dev) : Dev :=
  if d.spareInUse seg then d
  else
    let r : Repair := { segment := seg, sub := sub, cause := cause, started := false, slots := 0xFFFF, steps := 0 }
    if d.issuing then d.onConv fun c => { c with repairs := c.repairs ++ [r] } else d.startRepair r d.nextAdvanceSsn

/-- A row lands in a slot: a repair of its sub-array has one slot less to wait for. -/
def Dev.noteLanding (seg slot : Nat) (d : Dev) : Dev :=
  let f (r : Repair) : Repair :=
    if r.started ∧ r.segment = seg ∧ r.sub = slot / 16 then { r with slots := setBit r.slots (slot % 16) false } else r
  d.onConv fun c => { c with repairs := c.repairs.map f }

/-- An advance or drain step at SSN `x`: repairs that wait start, repairs that are complete end (R284, R285). -/
def Dev.stepRepairs (x : Nat) (d : Dev) : Dev :=
  let waiting := d.conv.repairs.filter fun r => ¬ r.started
  let running := (d.conv.repairs.filter fun r => r.started).map fun r => { r with steps := r.steps + 1 }
  let done := running.filter fun r => r.slots = 0 ∨ 128 ≤ r.steps
  let d1 := d.onConv fun c => { c with repairs := running.filter fun r => ¬ (r.slots = 0 ∨ 128 ≤ r.steps) }
  (d1.each done fun r d => d.repairDone r x).each waiting fun r d => d.startRepair r x

/-- A corrected word of a sub-array at SSN `x` (R284). -/
def Dev.noteCorrected (seg sub x : Nat) (d : Dev) : Dev :=
  let l := (x :: Map.get [] d.conv.corrected (8 * seg + sub)).filter fun y => x < y + 1048576
  let d1 := (d.bump (Obj.CORRECTED_WORDS seg)).onConv fun c =>
    { c with corrected := Map.insert (8 * seg + sub) l c.corrected }
  if d.get Obj.REPAIR_THRESHOLD ≤ l.length then d1.askRepair seg sub 2 else d1

/-- The rows of a slot lie on the spare sub-array: its sub-array is repaired, or being repaired and the slot has taken a
new row (R284, R285). -/
def Dev.onSpare (seg slot : Nat) (d : Dev) : Bool :=
  let v := d.get (Obj.SEGMENT_MEMORY seg)
  decide (v % 256 = slot / 16) &&
    (decide (v / 256 = 2) || d.conv.repairs.any fun r => r.started && decide (r.segment = seg) && ! bitAt r.slots (slot % 16))

/-- The word address in segment memory of word 128 · plane + group of a slot (R257, R258); the spare sub-array follows
the eight (log entry 74). -/
def Dev.wordAddress (seg slot w : Nat) (d : Dev) : Nat :=
  if d.onSpare seg slot then 262144 + 2048 * (slot % 16) + w else 2048 * slot + w

/-! ### The computation of a shot (R263, R264) -/

/-- The slot of logical row 8s + i at shot index k. -/
def visitSlot (k i : Nat) : Nat := (k + 128 - 16 * i) % 128

/-- The phase plane of a logical row (R263). -/
def visitPlane (direction rho : Nat) : Nat := if direction = 0 then rho % 16 else 15 - rho % 16

/-- The row that logical row 8s + i visits at shot k, where its slot is valid. -/
def Dev.visitedRow (s : Stripe) (k seg i : Nat) (d : Dev) : Option ConvRow :=
  match d.rowIn seg (visitSlot k i) with
  | some r => if r.uid = s.uid ∧ r.y + 16 * (8 * seg + i) = k ∧ r.y < s.src.length then some r else none
  | none => none

/-- The codes of logical row 8s + i and the plane after the visits; the columns whose visit is delivered. -/
def Dev.computeRow (s : Stripe) (t : Shot) (seg i : Nat) (mm : List Nat) (d : Dev) :
    List Nat × Option (List Nat) × List Nat :=
  match d.visitedRow s t.k seg i with
  | some r =>
    let rho := 8 * seg + i
    let br := beamRow s.direction rho
    let plane := r.planes.getD (visitPlane s.direction rho) []
    let vs := plane.zipIdx.map fun q =>
      (engineVisit q.1 (Map.get 0 s.gains (512 * br + q.2)) (t.lvt.entry br q.2) true
        (decide (r.reasons.getD (q.2 / 16) 0 ≠ 0)) (mm.contains (512 * i + q.2)), q.2)
    (vs.map fun v => v.1.1, some (vs.map fun v => v.1.2.1), (vs.filter fun v => v.1.2.2).map Prod.snd)
  | none => (List.replicate 512 0, none, [])

/-- A half's entry that nothing has disposed of. -/
def Half.pending : Half := { done := 0, primary := none, secondary := none, conflict := false, applied := false }

/-- The entry of a segment without an engine: codes of 0 and no new residual (R279). -/
def SegShot.idle : SegShot :=
  { codes := List.replicate 4096 0, planes := List.replicate 8 none, half0 := Half.pending, half1 := Half.pending }

/-- The engine of a segment at a shot; 0xFF for none. -/
def Shot.engine (seg : Nat) (t : Shot) : Nat := t.engines.getD seg 0xFF

/-- Changes shot `ssn`. -/
def Dev.onShot (ssn : Nat) (f : Shot → Shot) (d : Dev) : Dev :=
  d.onConv fun c => { c with shots := c.shots.map fun t => if t.ssn = ssn then f t else t }

/-- The oldest shot that a segment has not computed and that is not launched. -/
def Dev.toCompute (seg : Nat) (d : Dev) : Option Shot :=
  d.conv.shots.find? fun t => ¬ t.launched && (Map.find t.segs seg).isNone

/-- COMPUTE_COMPLETE: the engine of a segment completes the codes of the oldest shot that it owes (R264, R274). -/
def computeComplete (seg : Nat) (f : ComputeFaults) (d : Dev) : Dev :=
  match d.toCompute seg with
  | none => d
  | some t =>
    match d.stripe? t.uid with
    | none => d
    | some s =>
      if t.engine seg = 0xFF ∨ t.ssn < Map.get 0 d.conv.slices seg then d
      else
        let d1 := d.each (List.range 8) fun i d =>
          let plane := visitPlane s.direction (8 * seg + i)
          let ws := (f.lost.filter fun w => w / 128 = i ∧ w < 1024).map fun w => 128 * plane + w % 128
          if ws.isEmpty ∨ (d.visitedRow s t.k seg i).isNone then d
          else
            let d0 := d.each ws fun w d => d.memUncorrectable 0 seg (d.wordAddress seg (visitSlot t.k i) w) 0
            (d0.markLost seg (visitSlot t.k i) t.ssn ws false).askRepair seg (visitSlot t.k i / 16) 1
        let d2 := d1.each (f.corrected.filter fun w => w < 1024) fun w d =>
          let slot := visitSlot t.k (w / 128)
          let addr := d.wordAddress seg slot (128 * visitPlane s.direction (8 * seg + w / 128) + w % 128)
          (d.memCorrected 0 seg addr 0).noteCorrected seg (slot / 16) t.ssn
        let rows := (List.range 8).map fun i => d2.computeRow s t seg i (f.mismatches ++ f.returns)
        let g : SegShot := { codes := rows.flatMap fun r => r.1, planes := rows.map fun r => r.2.1,
                             half0 := Half.pending, half1 := Half.pending }
        let d3 := d2.onShot t.ssn fun t => { t with segs := Map.insert seg g t.segs }
        let n := d3.pendingIn seg
        let d3 := if seg = 0 ∧ (d2.visitedRow s t.k 0 0).isSome then d3.tagStamp 1 (s.rowTag t.k) 4 false [] else d3
        let d4 := if d3.get Obj.COMMIT_PENDING < n then d3.put Obj.COMMIT_PENDING n else d3
        d4.each (f.mismatches ++ f.returns.filter fun b => ! f.mismatches.contains b) fun b d =>
          if f.returns.contains b || (rows.getD (b / 512) ([], none, [])).2.2.contains (b % 512) then
            d.mismatch s.uid (t.engine seg) seg t.ssn (beamRow s.direction (8 * seg + b / 512)) (b % 512)
          else d

/-! ### Commit and discard (R266) -/

/-- Writes a new plane over the stored one; LOST marks stay (R260). -/
def mergePlane (old new : List Nat) : List Nat :=
  old.zipWith (fun o n => if o = lostMark then o else n) new

/-- The words of a plane of a commit entry that carry the LOST mark, as words of plane `v` of the row. -/
def lostIn (v : Nat) (p : List Nat) : List Nat :=
  p.zipIdx.filterMap fun q => if q.1 = lostMark ∧ q.2 % 4 = 0 then some (128 * v + q.2 / 4) else none

/-- The residuals of half `h` of a shot's entry go into segment memory; a word that the entry itself lost is marked there
(R260; array 2 in R494). -/
def Dev.commitHalf (s : Stripe) (k seg h : Nat) (g : SegShot) (d : Dev) : Dev :=
  d.each (List.range 4) fun j d =>
    let i := 4 * h + j
    match d.visitedRow s k seg i, g.planes.getD i none with
    | some r, some p =>
      let v := visitPlane s.direction (8 * seg + i)
      let lost := r.newlyLost (lostIn v p) false
      let r1 := r.mark lost
      let planes := r1.planes.zipIdx.map fun q => if q.2 = v then mergePlane q.1 p else q.1
      (d.setRow seg (visitSlot k i) { r1 with planes := planes }).noteLost seg d.nextAdvanceSsn r lost false
    | _, _ => d

/-- The rows that half `h` of a segment visits at shot k. -/
def halfRows (l k seg h : Nat) : List Nat :=
  ((List.range 4).filterMap fun j =>
    let rho := 8 * seg + 4 * h + j
    if 16 * rho ≤ k ∧ k - 16 * rho < l then some (k - 16 * rho) else none)

/-- Sets UNCERTAIN for every part of rows of a stripe (R268). -/
def Dev.markUncertain (uid : Nat) (ys : List Nat) (d : Dev) : Dev :=
  let f (e : Nat × ConvRow) : Nat × ConvRow :=
    if e.2.uid = uid ∧ ys.contains e.2.y then (e.1, { e.2 with uncertain := 0xFFFFFFFF }) else e
  d.onConv fun c => { c with rows := c.rows.map f }

/-- The half's state in a segment's entry. -/
def SegShot.half (g : SegShot) (h : Nat) : Half := if h = 0 then g.half0 else g.half1

/-- Sets the half's state. -/
def SegShot.setHalf (h : Nat) (v : Half) (g : SegShot) : SegShot :=
  if h = 0 then { g with half0 := v } else { g with half1 := v }

/-- Changes the half of a shot's entry. -/
def Dev.onHalf (ssn seg h : Nat) (f : Half → Half) (d : Dev) : Dev :=
  d.onShot ssn fun t =>
    match Map.find t.segs seg with
    | some g => { t with segs := Map.insert seg (g.setHalf h (f (g.half h))) t.segs }
    | none => t

/-- Every half of every segment's entry of a shot is disposed of. -/
def Shot.disposed (t : Shot) : Bool := t.segs.all fun e => e.2.half0.disposed && e.2.half1.disposed

/-- A half's entry that is to be written and has not been is written. -/
def Dev.applyHalf (ssn seg h : Nat) (d : Dev) : Dev :=
  match d.conv.shots.find? fun t => decide (t.ssn = ssn) with
  | none => d
  | some t =>
    match d.stripe? t.uid, Map.find t.segs seg with
    | some s, some g =>
      let v := g.half h
      if (v.done = 1 ∨ v.done = 3) ∧ ! v.applied then
        (d.commitHalf s t.k seg h g).onHalf ssn seg h fun v => { v with applied := true }
      else d
    | _, _ => d

/-- Decided entries of a segment are written in SSN order, up to the first that is not decided (R266). -/
def Dev.applyEntries (seg : Nat) : List Shot → Dev → Dev
  | [], d => d
  | t :: ts, d =>
    match Map.find t.segs seg with
    | none => d.applyEntries seg ts
    | some g =>
      let d1 := (d.applyHalf t.ssn seg 0).applyHalf t.ssn seg 1
      if g.half0.done ≠ 0 ∧ g.half1.done ≠ 0 then d1.applyEntries seg ts else d1

/-- How a half's entry ends is decided, and the segment's entries that may be written are. -/
def Dev.decided (ssn seg h done : Nat) (d : Dev) : Dev :=
  let d1 := d.onHalf ssn seg h fun v => { v with done := done }
  d1.applyEntries seg d1.conv.shots

/-- Shots whose reports no longer matter leave the list: the 32 newest are kept. -/
def Dev.pruneShots (d : Dev) : Dev :=
  let n := d.conv.shots.length
  d.onConv fun c => { c with shots := c.shots.zipIdx.filterMap fun q =>
    if q.2 + 32 < n ∧ q.1.disposed ∧ q.1.struck.isSome then none else some q.1 }

/-- Every shot below it has been disposed of (R441). -/
def Dev.disposedSsn (d : Dev) : Nat :=
  match d.conv.shots.find? fun t => d.ofSequence t.uid && ¬ (t.launched && t.disposed) with
  | some t => t.ssn
  | none => d.ssnNext

/-! ### Rows enter and move (R257, R259, R269 to R271) -/

/-- The planes of a row from its pixels. -/
def planesOf (px : List Nat) : List (List Nat) :=
  (List.range 16).map fun p => (px.zipIdx.filter fun q => q.2 % 16 = p).map Prod.fst

/-- Row `y` of a stripe enters S0 with its targets and reasons (R54, R259, R281). -/
def Dev.enterRow (s : Stripe) (y : Nat) (targets reasons : List Nat) (d : Dev) : Dev :=
  let r : ConvRow :=
    { uid := s.uid, y := y, number := s.number, kind := s.kind, direction := s.direction, entrySsn := s.ssnBase + y,
      reasons := reasons, uncertain := 0, lostWords := 0, planes := planesOf targets }
  ((d.setRow 0 (y % 128) r).noteLanding 0 (y % 128)).tagStamp 1 (s.rowTag y) 3 false []

/-- The bytes of a slot in byte order (R257). -/
def ConvRow.bytes (r : ConvRow) : List Byte := r.planes.flatMap fun p => p.flatMap (le 2)

/-- ROW_CHECK as segment `s` sends the row (R259). -/
def ConvRow.check (r : ConvRow) (s : Nat) : Nat :=
  crc32cFrom (0xFFFFFFFF ^^^ (r.y ^^^ (s * 2 ^ 25 % 2 ^ 32))) r.bytes

/-- The row header of 64 bytes (R259). -/
def ConvRow.header (r : ConvRow) (s : Nat) : List Byte :=
  let reasons := r.reasons.zipIdx.foldl (fun n q => n + q.1 * 16 ^ q.2) 0
  le 64 (2 ^ 195 + r.direction * 2 ^ 196 + r.kind * 2 ^ 197 + r.y * 2 ^ 199 + r.number * 2 ^ 224 + r.lostWords * 2 ^ 256
    + r.entrySsn * 2 ^ 272 + reasons * 2 ^ 320 + r.uncertain * 2 ^ 448 + r.check s * 2 ^ 480)

/-- The row in a segment's landing buffer goes into its slot once that is free (R270). -/
def Dev.land (seg : Nat) (d : Dev) : Dev :=
  match Map.find d.conv.landing seg with
  | none => d
  | some r =>
    let slot := r.y % 128
    if (d.rowIn seg slot).isSome then d
    else ((d.setRow seg slot r).onConv fun c => { c with landing := Map.erase seg c.landing }).noteLanding seg slot

/-- The segment after `s` accepts a row: it lies in the landing buffer and, where its slot is free, in its slot; the slot
that it leaves is free for the row that waits in the landing buffer of `s`. -/
def Dev.moveRow (s slot : Nat) (r : ConvRow) (d : Dev) : Dev :=
  let d1 := (d.clearRow s slot).onConv fun c =>
    { c with flight := Map.erase s c.flight, landing := Map.insert (s + 1) r c.landing }
  (d1.land (s + 1)).land s

/-- The words that a test of a row finds (128 · plane + group). -/
def testLost : HandoffTest → List Nat
  | .words l => (l.filter fun w => w < 2048).eraseDups
  | _ => []

/-- The whole row is lost by a test: ROW_CHECK alone fails, or the header's beat (R261, R271). -/
def testLoses : HandoffTest → Bool
  | .ok => false
  | .words l => l.any fun w => decide (2048 ≤ w)
  | .check => true

/-- A test passes. -/
def testPasses (t : HandoffTest) : Bool := (testLost t).isEmpty && ! testLoses t

/-- A row is accepted by segment `seg` as its last test left it. -/
def Dev.acceptRow (seg slot : Nat) (r : ConvRow) (t : HandoffTest) (d : Dev) : Dev :=
  let words := testLost t
  let x := d.nextAdvanceSsn
  (d.moveRow (seg - 1) slot (r.mark (r.newlyLost words (testLoses t)))).noteLost seg x r words (testLoses t)

/-- HANDOFF_RECEIVE at segment `seg`: the row in transfer from the segment before is tested and accepted into the landing
buffer, where that is empty (R270, R271). `second` is the test of the copy asked for after a failure. -/
def handoffReceive (seg : Nat) (first second : HandoffTest) (d : Dev) : Dev :=
  if seg = 0 then d
  else
    match Map.find d.conv.flight (seg - 1), Map.find d.conv.landing seg with
    | some v, none =>
      let slot := v - 1
      match d.rowIn (seg - 1) slot with
      | none => d
      | some r =>
        let beats (t : HandoffTest) (d : Dev) : Dev := d.each (testLost t) fun w d => d.memUncorrectable 4 seg w 0
        let retry (n : Nat) (d : Dev) : Dev :=
          (d.bump Obj.HANDOFF_RETRIES).raise (0x1000 + seg) 0x060A [seg - 1, r.number, r.y, n]
        if testPasses first then d.acceptRow seg slot r .ok
        else if testPasses second then (retry 1 (beats first d)).acceptRow seg slot r .ok
        else (retry 2 (beats second (beats first d))).acceptRow seg slot r second
    | _, _ => d

/-! ### Known-answer passes and ENGINE_COMMAND (R278, R289) -/

/-- An engine completes a known-answer pass without fault (R278). -/
def Dev.notePass (e : Nat) (d : Dev) : Dev :=
  d.onConv fun c => { c with passed := if c.passed.contains e then c.passed else e :: c.passed }

/-- KNOWN_ANSWER_PASS: a spare that fails becomes FAILED; one that passes may be darned. -/
def knownAnswerPass (e : Nat) (passes : Bool) (d : Dev) : Dev :=
  if ¬ (d.running ∧ d.get (Obj.ENGINE_STATE e) = 1) then d
  else if passes then d.notePass e
  else (d.raise (0x2000 + e) 0x060D [e]).put (Obj.ENGINE_STATE e) 3

/-- The segment that an engine serves. -/
def Dev.segmentOf (e : Nat) (d : Dev) : Option Nat := (List.range 64).find? fun s => d.get (Obj.ENGINE_MAP s) = e

/-- The lowest-numbered segment without an engine, and that waits for none. -/
def Dev.blankedSegment (d : Dev) : Option Nat :=
  (List.range 64).find? fun s => decide (d.get (Obj.ENGINE_MAP s) = 0xFF)
    && ! d.conv.lvtNext.any fun n => decide (n.regain.map Prod.fst = some s)

/-- RETIRE of an engine. -/
def Dev.retireCommand (e : Nat) (d : Dev) : Dev :=
  match d.segmentOf e with
  | none => (d.raiseJ (0x2000 + e) 0x0602 noShot [e, 0xFF, 0xFFFFFFFF, 2] []).put (Obj.ENGINE_STATE e) 2
  | some seg =>
    let m := d.nextAdvanceSsn
    if d.issuing then d.retire e seg m 2
    else (d.noteRetired e seg m m 2).darn { due := m, segment := seg, engine := e }

/-- RETURN of an engine that passed: a spare, which a segment without an engine takes up (R283). -/
def Dev.returnEngine (e : Nat) (d : Dev) : Dev :=
  let d1 := ((d.raiseJ (0x2000 + e) 0x060F noShot [e] []).put (Obj.ENGINE_STATE e) 1).notePass e
  match d1.blankedSegment with
  | none => d1
  | some seg => if d1.issuing then d1.rebuildTable 3 (some (seg, e)) else d1.attach e seg d1.nextAdvanceSsn

/-- ENGINE_COMMAND (R289): `passes` is the outcome of the known-answer pass of RETURN. -/
def engineCommand (q : Query) (value : Nat) (passes : Bool) (d : Dev) : Answer :=
  let cmd := bits value 15 8
  let e := bits value 7 0
  let st := d.get (Obj.ENGINE_STATE e)
  let word (outcome : Nat) : Nat := commandWord cmd outcome e
  let tests : List (Abort × Bool) :=
    [(.stateForbids, e < 68 && decide ((cmd = 1 ∧ 2 ≤ st) ∨ (cmd = 2 ∧ st < 2))),
     (.range, decide (67 < e ∨ cmd = 0 ∨ 2 < cmd ∨ 65536 ≤ value)), (.check, decide (cmd = 2) && !passes)]
  match d.command q 4 value tests (fun d => if cmd = 1 then d.retireCommand e else d.returnEngine e) with
  | .ok p d1 => .ok p (d1.put Obj.ENGINE_COMMAND (word 0))
  | .refuse a d1 => .refuse a (d1.put Obj.ENGINE_COMMAND (word 1))

/-- SUBARRAY_COMMAND (R284, R286). -/
def subarrayCommand (q : Query) (value : Nat) (d : Dev) : Answer :=
  let seg := bits value 15 8
  let sub := bits value 7 0
  d.command q 2 value [(.stateForbids, decide (seg < 64) && d.spareInUse seg), (.range, decide (63 < seg ∨ 7 < sub))]
    fun d => d.askRepair seg sub 3

/-! ### Objects -/

/-- CONVEYOR_STATUS STATE (0x5040:01). -/
def Dev.conveyorState (d : Dev) : Nat :=
  match d.conv.rows with
  | [] => 0
  | (_, r) :: _ =>
    match d.stripe? r.uid with
    | none => 2
    | some s => if s.last.isSome ∧ ¬ s.armed then 3 else if s.armed then 1 else 2

/-- Objects of 08_conveyor_and_dose_engines that show the conveyor's state. -/
def Dev.conveyorValue (k : Nat) (d : Dev) : Option Nat :=
  if k = Obj.SPARES_FREE then some ((List.range 68).filter fun e => d.get (Obj.ENGINE_STATE e) = 1).length
  else if k = Obj.SEGMENTS_BLANKED then some d.blankedSegments
  else if k = Obj.LVT_CHECK then some (if d.get Obj.CAUSE = 0 then 0 else crc32c d.conv.lvt.bytes)
  else if k = Obj.CONV_STATE then some d.conveyorState
  else if k = Obj.ROWS_RESIDENT then some d.conv.rows.length
  else none

/-- Byte objects of 08_conveyor_and_dose_engines. -/
def Dev.conveyorBytes (k : Nat) (d : Dev) : Option (List Byte) :=
  if k = Obj.LIVE_VISITS_TABLE then some d.conv.lvt.bytes else none

/-! ### Meanings -/

def execComputeComplete (segment : Fin 64) (f : ComputeFaults) (s : State) : Host.Outcome State Fault Refusal :=
  s.next (computeComplete segment.val f)
def execHandoffReceive (segment : Fin 64) (first second : HandoffTest) (s : State) :
    Host.Outcome State Fault Refusal := s.next (handoffReceive segment.val first second)
def execKnownAnswerPass (engine : Fin 68) (passes : Bool) (s : State) : Host.Outcome State Fault Refusal :=
  s.next (knownAnswerPass engine.val passes)
def execEngineRetire (r : Req) (engine : Byte) (s : State) : Host.Outcome State Fault Refusal :=
  s.next (Dev.serveCommand (r.write 0x5013 0) (engineCommand (r.write 0x5013 0) (0x0100 + engine.toNat) true))
def execEngineReturn (r : Req) (engine : Byte) (passes : Bool) (s : State) : Host.Outcome State Fault Refusal :=
  s.next (Dev.serveCommand (r.write 0x5013 0) (engineCommand (r.write 0x5013 0) (0x0200 + engine.toNat) passes))
def execSubarrayCommand (r : Req) (segment sub : Byte) (s : State) : Host.Outcome State Fault Refusal :=
  s.next (Dev.serveCommand (r.write 0x5034 0) (subarrayCommand (r.write 0x5034 0) (segment.toNat * 256 + sub.toNat)))

end Sys2Proof.Machine
end

