-- ==== Sys2Proof/Machine/Ledger.lean ====
section
/-!
DEFINITION. Sys2Proof/Machine/Ledger.lean: exit results, ledger records, the journal's entries and the set store
(13_dose_ledger_and_recovery, R428 to R443; R39, R54, R60).
-/
namespace Sys2Proof.Machine

/-- Changes the ledger. -/
def Dev.onLedger (f : Ledger → Ledger) (d : Dev) : Dev := { d with ledger := f d.ledger }

/-! ### What an opening takes (R44, R50, R443) -/

/-- The numeric RW-L objects. -/
def rwlKeys : List Nat :=
  [0x300200, 0x480001, 0x480004, 0x480005, 0x480006, 0x582001, 0x582002, 0x583200, 0x600104, 0x680101, 0x680102,
   0x681001, 0x681003, 0x681004, 0x681005, 0x681006, 0x681101, 0x681103, 0x681104, 0x681105, 0x681106,
   0x684002, 0x684003, 0x684004, 0x684005, 0x684102, 0x684103, 0x684104, 0x684105]

/-- The RW-L byte objects. -/
def rwlTables : List Nat :=
  [0x480100, 0x480200, 0x680200]
    ++ (List.range 2).flatMap (fun a => (List.range 8).map fun n => 0x682001 + 256 * a + n)
    ++ (List.range 2).flatMap fun a => (List.range 4).map fun n => 0x683001 + 256 * a + n

/-- The RW-L numbers that the next opening takes. -/
def Dev.nextVals (d : Dev) : Map Nat := rwlKeys.foldl (fun m k => Map.put (dfltOf k) k (d.get k) m) []

/-- The RW-L tables that the next opening takes. -/
def Dev.nextTabs (d : Dev) : Map (List Byte) := d.blobs.filter fun e => rwlTables.contains e.1

/-- The slot of a gain table: where it is held, else the next free one (R443). -/
def Ledger.gainSlot (g : Map Nat) (l : Ledger) : Nat := (l.gainTables.findIdx? (· = g)).getD l.gainTables.length

/-- The number of a set: where it is held, else the next free one. -/
def Ledger.setNumber (v : ValueSet) (l : Ledger) : Nat := (l.sets.findIdx? (· = v)).getD l.sets.length

/-- The set that the next opening takes. -/
def Dev.nextSet (d : Dev) : ValueSet :=
  { vals := d.nextVals, tabs := d.nextTabs, gainSlot := d.ledger.gainSlot d.effGains }

/-- The store holds the set of the next opening, or has room for it and its gain table (R443). -/
def Dev.setFits (d : Dev) : Bool :=
  decide (d.ledger.gainSlot d.effGains < 8 ∧ d.ledger.setNumber d.nextSet < 64)

/-- A write that would leave the device as `d` is refused with BUSY (R443). -/
def Dev.setRefused (d : Dev) : Bool := d.jobOpen && ! d.setFits

/-- The opening's set is stored where it is new; the answer is its number. -/
def Dev.storeSet (d : Dev) : Nat × Dev :=
  let v := d.nextSet
  let n := d.ledger.setNumber v
  (n, d.onLedger fun l =>
    { l with gainTables := if l.gainTables.length ≤ v.gainSlot then l.gainTables ++ [d.effGains] else l.gainTables
             sets := if l.sets.length ≤ n then l.sets ++ [v] else l.sets })

/-! ### Exit classes (R54, R273, R428, R429) -/

def reasonResidual : Nat := 0x00
def reasonUnstarted : Nat := 0x10
def reasonUnopened : Nat := 0x11
def reasonLost : Nat := 0x12
def reasonReset : Nat := 0x13
def reasonUnreplayable : Nat := 0x14
def reasonUncertain : Nat := 0x20
def reasonNoEcho : Nat := 0x21
def reasonOverdose : Nat := 0x30

/-- The record kind of a reason: 0 deficit, 1 overdose, 2 uncertain (R428). -/
def reasonKind (reason : Nat) : Nat := if reason = 0x30 then 1 else if 0x20 ≤ reason then 2 else 0

/-- Pixels, largest amount and sum of amounts, in eighths; `exact` is clear where the amounts are by replay. -/
structure Amount where
  pixels : Nat
  max : Nat
  sum : Nat
  exact : Bool
  deriving DecidableEq, Repr

/-- Amounts that only a replay knows (R432). -/
def byReplay : Amount := { pixels := 0, max := 0, sum := 0, exact := false }

/-- The sum of two parts' amounts. -/
def Amount.plus (a b : Amount) : Amount :=
  { pixels := a.pixels + b.pixels, max := Nat.max a.max b.max, sum := a.sum + b.sum, exact := a.exact && b.exact }

/-- The amount of a list of shortfalls or overshoots. -/
def amountOf (l : List Nat) : Amount := { pixels := l.length, max := l.foldl Nat.max 0, sum := l.sum, exact := true }

/-- The stored words of a part: 16 columns of each phase plane (R257). -/
def ConvRow.part (tc : Nat) (r : ConvRow) : List Nat := r.planes.flatMap fun p => (p.drop (16 * tc)).take 16

/-- Shortfalls above `lim` = 8T of the words that carry no LOST mark (R54). -/
def shortfalls (lim : Nat) (ws : List Nat) : List Nat :=
  ws.filterMap fun w => if w ≠ lostMark ∧ (lim : Int) < toSigned 16 w then some w else none

/-- Overshoots beyond −8T of the words that carry no LOST mark. -/
def overshoots (lim : Nat) (ws : List Nat) : List Nat :=
  ws.filterMap fun w =>
    if w ≠ lostMark ∧ toSigned 16 w < -(lim : Int) then some (-(toSigned 16 w)).toNat else none

/-- The class of a part of an exiting row (R429), with its amount. -/
def ConvRow.exitClass (lim tc : Nat) (r : ConvRow) : Option (Nat × Amount) :=
  let reason := r.reasons.getD tc 0
  let ws := r.part tc
  if reason ≠ 0 then some (reason, byReplay)
  else if ws.contains lostMark then some (reasonLost, byReplay)
  else if bitAt r.uncertain tc then some (reasonUncertain, byReplay)
  else
    match shortfalls lim ws with
    | [] => none
    | l => some (reasonResidual, amountOf l)

/-- The overdose class of a part, which it may carry beside another. -/
def ConvRow.overClass (lim tc : Nat) (r : ConvRow) : Option (Nat × Amount) :=
  if r.reasons.getD tc 0 ≠ 0 then none
  else
    match overshoots lim (r.part tc) with
    | [] => none
    | l => some (reasonOverdose, amountOf l)

/-! ### Segments of columns and open records (R430, R431) -/

/-- A segment of columns: parts of one row that lie next to each other and have one class. -/
structure Columns where
  first : Nat
  last : Nat
  reason : Nat
  amount : Amount
  deriving DecidableEq, Repr

/-- Adds the class of tile column `tc` to the segments so far, last first. -/
def addColumn (segs : List Columns) (tc : Nat) (c : Option (Nat × Amount)) : List Columns :=
  match c, segs with
  | none, _ => segs
  | some (reason, a), s :: rest =>
    if s.last + 1 = tc ∧ s.reason = reason then { s with last := tc, amount := s.amount.plus a } :: rest
    else { first := tc, last := tc, reason := reason, amount := a } :: s :: rest
  | some (reason, a), [] => [{ first := tc, last := tc, reason := reason, amount := a }]

/-- The segments of a row from the classes of its 32 parts. -/
def columnsOf (cls : Nat → Option (Nat × Amount)) : List Columns :=
  ((List.range 32).foldl (fun segs tc => addColumn segs tc (cls tc)) []).reverse

/-- The record that a segment of columns opens; while it is open, `sum` is in eighths. -/
def Columns.open_ (stripe row pass : Nat) (c : Columns) : LedgerRecord :=
  { stripe := stripe, rowFirst := row, rowLast := row, tcFirst := c.first, tcLast := c.last,
    kind := reasonKind c.reason, reason := c.reason, state := 0, decision := 0, pass := pass,
    max := if c.amount.exact then c.amount.max else 0xFFFF, pixels := c.amount.pixels, sum := c.amount.sum,
    mendStripe := 0xFFFFFFFF, number := 0 }

/-- The segment extends an open record (R430). -/
def Columns.extends (stripe row pass : Nat) (c : Columns) (r : LedgerRecord) : Bool :=
  decide (r.stripe = stripe ∧ r.pass = pass ∧ r.rowLast + 1 = row ∧ r.reason = c.reason ∧ r.tcFirst = c.first
    ∧ r.tcLast = c.last)

/-- An open record with the segment's row added. -/
def LedgerRecord.extend (c : Columns) (r : LedgerRecord) : LedgerRecord :=
  { r with rowLast := r.rowLast + 1, pixels := r.pixels + c.amount.pixels, sum := r.sum + c.amount.sum,
           max := if c.amount.exact then Nat.max r.max c.amount.max else 0xFFFF }

/-- A record at its creation (R431): its number, its STATE, and its amounts as it shows them. -/
def LedgerRecord.create (number : Nat) (r : LedgerRecord) : LedgerRecord :=
  let all := (r.rowLast + 1 - r.rowFirst) * 256 * (r.tcLast + 1 - r.tcFirst)
  let byReplay := decide (r.max = 0xFFFF)
  let state := if r.kind = 1 ∨ r.reason = reasonUnopened ∨ r.reason = reasonUnreplayable then 4
    else if r.kind = 2 then 3 else 0
  { r with number := number, state := state, pixels := min (if byReplay then all else r.pixels) 0xFFFFFFFF,
           sum := if byReplay then 0xFFFFFFFF else min (r.sum / 8) 0xFFFFFFFF }

/-- The event code of a record's kind. -/
def LedgerRecord.code (r : LedgerRecord) : Nat :=
  if r.kind = 1 then 0x0B02 else if r.kind = 2 then 0x0B03 else 0x0B01

/-- A record closes: it is created, journalled and recorded (R430); an overdose is then pending (R60). -/
def Dev.closeRecord (r : LedgerRecord) (d : Dev) : Dev :=
  let e := r.create d.ledger.records.length
  let d1 := (d.onLedger fun l => { l with records := l.records ++ [e] }).journal e.code noShot (.ledger e)
  let d2 := d1.raise 0 e.code [e.number, e.stripe, e.rowFirst, e.reason * 256 + e.kind]
  if e.kind = 1 then d2.onLedger fun l => { l with overdose := true } else d2

/-- Every open record closes: at the end of the stripe and at a checkpoint (R430). -/
def Dev.closeOpen (d : Dev) : Dev :=
  let rs := d.ledger.openRecords
  (d.onLedger fun l => { l with openRecords := [] }).each rs Dev.closeRecord

/-- A row's segments extend and open records; open records that none extends close (R430). -/
def Dev.ledgerRow (stripe row pass : Nat) (segs : List Columns) (d : Dev) : Dev :=
  let step (r : LedgerRecord) : Option LedgerRecord :=
    (segs.find? fun c => c.extends stripe row pass r).map fun c => r.extend c
  let rs := d.ledger.openRecords
  let kept := rs.filterMap step
  let closed := rs.filter fun r => (step r).isNone
  let new := (segs.filter fun c => rs.all fun r => ! c.extends stripe row pass r).map fun c => c.open_ stripe row pass
  (d.onLedger fun l => { l with openRecords := kept ++ new }).each closed Dev.closeRecord

/-- Rows of a stripe listed with one full-target reason, in one record (R434). -/
def Dev.listRows (stripe first last pass reason : Nat) (d : Dev) : Dev :=
  d.closeRecord
    { stripe := stripe, rowFirst := first, rowLast := last, tcFirst := 0, tcLast := 31, kind := reasonKind reason,
      reason := reason, state := 0, decision := 0, pass := pass, max := 0xFFFF, pixels := 0, sum := 0,
      mendStripe := 0xFFFFFFFF, number := 0 }

/-! ### The exit from S63 (R39, R54, R273) -/

/-- Stripe and first row of the coordinates in which a stripe's records stand, and their PASS (R431). -/
def Stripe.ledgerStripe (s : Stripe) : Nat := if s.kind = 1 then s.original else s.number
def Dev.ledgerPass (s : Stripe) (d : Dev) : Nat := if s.kind = 1 then d.get Obj.PASSES % 16 else 0

/-- A row of a MEASURE stripe is tested and counted, and makes no record (R39). -/
def Dev.measureExit (s : Stripe) (r : ConvRow) (d : Dev) : Dev :=
  let lim := 8 * s.tol
  let short := ((List.range 32).map fun tc =>
    if r.reasons.getD tc 0 = 0 then (shortfalls lim (r.part tc)).length else 0).sum
  let blanked := (r.reasons.filter (· ≠ 0)).length
  let d1 := (d.add 32 Obj.MEASURE_SHORT_PIXELS short).add 32 Obj.MEASURE_BLANKED_PARTS blanked
  d1.each (columnsOf fun tc => r.overClass lim tc) fun _ d =>
    (d.raiseJ 0 0x0B02 noShot [0xFFFFFFFF, s.number, r.y, reasonOverdose * 256 + 1] []).onLedger fun l =>
      { l with overdose := true }

/-- The tag data of a row that leaves S63 (R544). -/
def ConvRow.tagData (r : ConvRow) (classes : List Columns) : List Byte :=
  le 8 r.entrySsn ++ le 4 (r.reasons.foldl (fun n q => if q = 0 then n else setBit n q true) 0)
    ++ le 4 (classes.foldl (fun n c => if c.reason < 32 then setBit n c.reason true else n) 0)

/-- Row `r` of stripe `s` leaves S63: its parts are classed and the ledger takes the result. -/
def Dev.rowExits (s : Stripe) (r : ConvRow) (d : Dev) : Dev :=
  let lim := 8 * s.tol
  let segs := columnsOf (fun tc => r.exitClass lim tc) ++ columnsOf fun tc => r.overClass lim tc
  let d1 :=
    if s.kind = 2 then d.measureExit s r else d.ledgerRow s.ledgerStripe (s.rowOffset + r.y) (d.ledgerPass s) segs
  ((d1.onStripe s.uid fun t => { t with exited := t.exited + 1 }).tagStamp 1 (s.rowTag r.y) 5 false []).tagStamp 1
    (s.rowTag r.y) 6 true (r.tagData segs)

/-! ### Stripe ends and checkpoints (R434, R438, R441, R458, R619) -/

/-- Records that a stripe created. -/
def Dev.recordsOf (s : Stripe) (d : Dev) : Nat :=
  if s.kind = 2 then 0
  else
    (d.ledger.records.filter fun r => r.stripe = s.ledgerStripe ∧ r.pass = d.ledgerPass s ∧ s.rowOffset ≤ r.rowFirst
      ∧ r.rowFirst < s.rowOffset + s.src.length).length

/-- STRIPE_ENDED. -/
def Dev.stripeEndedEvent (s : Stripe) (rows records : Nat) (d : Dev) : Dev :=
  d.raiseOf s.uid 0 0x0307 noShot [s.number, rows, records, s.kind] (le 4 rows ++ le 4 records ++ le 1 s.kind)

/-- The last row of a stripe has left S63: rows that never entered are listed, every open record closes, the
records that a mend-pass stripe covered are mended, and STRIPE_ENDED is journalled. -/
def Dev.closeStripe (s : Stripe) (d : Dev) : Dev :=
  let d1 := d.closeOpen
  let d2 :=
    if s.kind ≠ 2 ∧ s.entered < s.src.length then
      d1.listRows s.ledgerStripe (s.rowOffset + s.entered) (s.rowOffset + s.src.length - 1) (d1.ledgerPass s)
        reasonUnstarted
    else d1
  let mend (r : LedgerRecord) : LedgerRecord :=
    if s.kind = 1 ∧ r.state = 1 ∧ r.mendStripe = s.number then { r with state := 2 } else r
  let d3 := d2.onLedger fun l => { l with records := l.records.map mend }
  (d3.stripeEndedEvent s s.exited (d3.recordsOf s)).pruneShots

/-- The latest checkpoint: the slot with the larger SSN, or a later STRIPE_OPENED, which counts as one (R441). -/
def Ledger.latest (l : Ledger) : Option Checkpoint :=
  let opened : List Checkpoint := l.entries.filterMap fun e =>
    match e.code, e.body with
    | 0x0306, .event ps _ =>
      some { jobId := e.job, stripe := ps.getD 0 0, ssn := e.ssn, disposed := e.ssn, rowsDone := 0, jseqNext := 0,
             kind := ps.getD 1 0 }
    | _, _ => none
  let slots := l.slotA.toList ++ l.slotB.toList
  (slots ++ opened.reverse).foldl (fun best c =>
    match best with
    | some b => if b.ssn < c.ssn then some c else best
    | none => some c) none

/-- A checkpoint is written to the older slot (R441). -/
def Ledger.checkpoint (c : Checkpoint) (l : Ledger) : Ledger :=
  match l.slotA, l.slotB with
  | none, _ => { l with slotA := some c }
  | _, none => { l with slotB := some c }
  | some a, some b => if a.ssn ≤ b.ssn then { l with slotA := some c } else { l with slotB := some c }

/-- A slot holds the checkpoint of SSN `c`. -/
def Ledger.hasCheckpoint (c : Nat) (l : Ledger) : Bool := (l.slotA.toList ++ l.slotB.toList).any fun k => k.ssn = c

/-- The checkpoint of SSN `x`, while stripe `s` shoots and a job is open (R441); `late` says that the one of SSN x − 4,096,
where there is one, is not in non-volatile memory yet. -/
def Dev.checkpoint (s : Stripe) (x : Nat) (late : Bool) (d : Dev) : Dev :=
  match d.ledger.job with
  | none => d
  | some j =>
    if x % 4096 ≠ 0 then d
    else
      let c := x - 4096
      let d1 := if late ∧ d.ledger.hasCheckpoint c ∧ d.mode.canSafe then (d.raise 0 0x0B0B [lo32 c, hi16 c]).enterSafe 6 else d
      let d2 := d1.closeOpen
      d2.onLedger fun l => l.checkpoint
        { jobId := j.id, stripe := s.number, ssn := x, disposed := d2.disposedSsn, rowsDone := s.exited,
          jseqNext := l.entries.length, kind := s.kind }

/-! ### REASON_RUN (R438) -/

/-- Rows from `y` on, formed and waiting, that carry a reason in one tile of a tile column. -/
def Dev.sameReason (uid tc reason : Nat) : Nat → Nat → List FormedRow → Nat
  | 0, _, _ => 0
  | _, _, [] => 0
  | fuel + 1, y, q :: qs =>
    if q.uid = uid ∧ q.y = y ∧ y % 256 ≠ 0 ∧ q.reasons.getD tc 0 = reason then 1 + Dev.sameReason uid tc reason fuel (y + 1) qs
    else 0

/-- Row `y` of a stripe is about to enter S0 with these reasons: runs that no entry covers yet are journalled. -/
def Dev.reasonRuns (s : Stripe) (y : Nat) (reasons : List Nat) (d : Dev) : Dev :=
  d.each (List.range 32) fun tc d =>
    let reason := reasons.getD tc 0
    let covered := match Map.find d.unfold.runs (128 + tc) with
      | some r => decide (r.stripe = s.uid ∧ r.code = reason ∧ r.first ≤ y ∧ y < r.first + r.rows)
      | none => false
    if decide (reason = 0) || covered then d
    else
      let n := 1 + Dev.sameReason s.uid tc reason 255 (y + 1) d.unfold.queue
      let run : Run := { stripe := s.uid, first := y, rows := n, code := reason }
      (d.raiseJ 0 0x0B05 (s.ssnBase + y) [s.number, tc * 256 + reason, y, n] []).onUnfold fun u =>
        { u with runs := Map.insert (128 + tc) run u.runs }

/-! ### Entries and records as bytes (R431, R436) -/

/-- The 32 bytes of a ledger record. -/
def LedgerRecord.bytes (r : LedgerRecord) : List Byte :=
  le 32 (r.stripe * 2 ^ 224 + r.rowFirst * 2 ^ 199 + r.rowLast * 2 ^ 174 + r.tcFirst * 2 ^ 169 + r.tcLast * 2 ^ 164
    + r.kind * 2 ^ 162 + r.reason * 2 ^ 154 + r.state * 2 ^ 150 + r.decision * 2 ^ 148 + r.pass * 2 ^ 144
    + r.max * 2 ^ 128 + r.pixels * 2 ^ 96 + r.sum * 2 ^ 64 + r.mendStripe * 2 ^ 32 + r.number)

/-- The 64 bytes of entry `jseq`. -/
def JournalEntry.bytes (jseq : Nat) (e : JournalEntry) : List Byte :=
  let payload := match e.body with
    | .event ps data => padTo 44 (padTo 16 (ps.flatMap fun p => le 4 p) ++ data)
    | .ledger r => padTo 44 r.bytes
  let b := le 4 jseq ++ le 2 e.code ++ le 2 e.job ++ le 8 e.ssn ++ payload
  b ++ le 4 (crc32cFrom (0xFFFFFFFF ^^^ jseq) b)

/-- The 64 bytes of a checkpoint slot (R441). -/
def Checkpoint.bytes (c : Checkpoint) : List Byte :=
  let b := padTo 60 (le 4 c.jobId ++ le 4 c.stripe ++ le 8 c.ssn ++ le 8 c.disposed ++ le 4 c.rowsDone ++ le 4 c.jseqNext
    ++ le 1 c.kind)
  b ++ le 4 (crc32c b)

/-- The bytes of the journal (0x7821). -/
def Dev.journalBytes (d : Dev) : List Byte :=
  padTo 16777216 (d.ledger.entries.zipIdx.flatMap fun q => q.1.bytes q.2)

/-! ### Objects -/

/-- Records with a STATE. -/
def Dev.recordsIn (state : Nat) (d : Dev) : Nat := (d.ledger.records.filter fun r => r.state = state).length

/-- Objects of 13_dose_ledger_and_recovery that show the ledger and the journal. -/
def Dev.ledgerValue (k : Nat) (d : Dev) : Option Nat :=
  if k = Obj.LEDGER_RECORDS then some d.ledger.records.length
  else if k = Obj.LEDGER_PENDING then some (d.recordsIn 0)
  else if k = Obj.HELD then some (d.ledger.records.filter fun r => r.state = 3 ∧ r.decision = 0).length
  else if k = Obj.OVERDOSES then some (d.ledger.records.filter fun r => r.kind = 1).length
  else if k = Obj.ENTRIES then some d.ledger.entries.length
  else if k = Obj.FREE then some d.journalFree
  else if k = Obj.LAST_CHECKPOINT then some ((d.ledger.latest.map (·.ssn)).getD 0)
  else if k = Obj.DISPOSED_SSN then some ((d.ledger.latest.map (·.disposed)).getD 0)
  else if k = Obj.SETS then some (256 * d.ledger.gainTables.length + d.ledger.sets.length)
  else none

/-- Byte objects of 13_dose_ledger_and_recovery. -/
def Dev.ledgerBytes (k : Nat) (d : Dev) : Option (List Byte) :=
  if k = Obj.WINDOW_RECORDS then
    some (padTo 8192 (((d.ledger.records.drop (d.get Obj.FIRST)).take 256).flatMap LedgerRecord.bytes))
  else if k = Obj.JOURNAL_DATA then some d.journalBytes
  else none

end Sys2Proof.Machine
end

