-- ==== Sys2Proof/Machine/Link.lean ====
section
/-!
DEFINITION. Sys2Proof/Machine/Link.lean: the Wyrak Link and the module (09_beam_link, R292 to R340).
Frames and line coding, limits, return frames with ACK and NACK, lane sparing, waveform banks, tumble, the identity
memory, patterns and the eye scan.
-/
namespace Sys2Proof.Machine

/-- Changes the link. -/
def Dev.onLink (f : Link → Link) (d : Dev) : Dev := { d with link := f d.link }

/-- The source of a transmit lane's LINK island, and of a return lane's (R528). -/
def srcLane (lane : Nat) : Nat := 0x3000 + lane / 8
def srcReturn (lane : Nat) : Nat := 0x3000 + lane

/-! ### Frames (R297 to R305) -/

/-- The bits of bytes in wire order (R297). -/
def dataBits (b : List Byte) : List Bool := b.flatMap fun x => (List.range 8).map fun i => x.getLsbD i

/-- Codes of 6 bits as payload bytes, four codes in three (R299). -/
def packCodes : List Nat → List Byte
  | a :: b :: c :: e :: l => le 3 (a + b * 64 + c * 4096 + e * 262144) ++ packCodes l
  | _ => []

/-- fold_wl (R300). -/
def foldWl (ssn s h : Nat) : Nat :=
  (ssn % 2 ^ 32) ^^^ (ssn / 2 ^ 32 * 256 % 2 ^ 32) ^^^ (s * 2 ^ 26 % 2 ^ 32) ^^^ (h * 2 ^ 25)

/-- The scrambler's seed (R303). -/
def lineSeed (ssn lam : Nat) : Nat :=
  let s := (ssn % 2 ^ 31) ^^^ (lam * 2 ^ 23 % 2 ^ 32) ^^^ 0x2B3C4D5E
  if s = 0 then 1 else s

/-- The additive scrambler (R303). -/
def scramble : Nat → List Bool → List Bool
  | _, [] => []
  | s, b :: bs =>
    let fb := (s / 2 ^ 30 + s / 2 ^ 27) % 2
    (b ^^ decide (fb = 1)) :: scramble ((s * 2 + fb) % 2 ^ 31) bs

/-- Stuffing (R304): `run` equal bits of the value `last` so far. -/
def stuffBits : Nat → Bool → List Bool → List Bool
  | _, _, [] => []
  | run, last, b :: bs =>
    let n := if 0 < run ∧ b = last then run + 1 else 1
    if n = 24 then b :: (!b) :: stuffBits 0 b bs else b :: stuffBits n b bs

/-- The start delimiter (R305). -/
def sofBits : List Bool := [false] ++ List.replicate 30 true ++ [false]

/-- A frame on the wire: header, payload, CRC from `init`, scrambler seed (R297 to R305). -/
def wireFrame (header : Nat) (payload : List Byte) (init seed : Nat) : List Bool :=
  let h := le 8 header
  let crc := crc32cFrom init (h ++ payload)
  sofBits ++ stuffBits 0 false (dataBits h ++ scramble seed (dataBits (payload ++ le 4 crc)))

/-- The fields of a SHOT frame's header that do not follow from the lane (R298). -/
structure ShotHead where
  ssn : Nat
  direction : Nat
  wbank : Nat
  tumble : Nat
  kind : Nat

/-- The header of a SHOT frame (R298). -/
def ShotHead.header (f : ShotHead) (s h : Nat) (blank : Bool) : Nat :=
  2 ^ 60 + s * 2 ^ 54 + h * 2 ^ 53 + f.direction * 2 ^ 52 + bit01 blank * 2 ^ 51 + f.wbank * 2 ^ 50 + f.tumble * 2 ^ 49
    + f.ssn % 16 * 2 ^ 45 + f.kind * 2 ^ 43 + f.ssn % 2 ^ 40

/-- A SHOT frame of segment `s`, half `h` with its 2,048 codes. -/
def ShotHead.wire (f : ShotHead) (s h : Nat) (blank : Bool) (codes : List Nat) : List Bool :=
  wireFrame (f.header s h blank) (packCodes codes) (0xFFFFFFFF ^^^ foldWl f.ssn s h) (lineSeed f.ssn (2 * s + h))

/-- An ALIGN frame on a physical lane (R301). -/
def alignWire (ssnNext lane : Nat) : List Bool :=
  wireFrame (2 * 2 ^ 60) (padTo 1536 (le 8 ssnNext ++ le 1 lane)) 0xFFFFFFFF (lineSeed 0 0)

/-- IDLE (R305): 1, 0, 1, 0 and so on, whenever neither SOF nor a frame is sent. -/
def idleBits (n : Nat) : List Bool := (List.range n).map fun i => decide (i % 2 = 0)

/-- The receiver of the line code (R304): the bit after 24 equal data bits is discarded, and the frame is invalid (none)
where it equals them or bits are missing. `n` data bits are taken, with `run` of the value `last` before them. -/
def unstuff : Nat → Nat → Bool → List Bool → Option (List Bool)
  | 0, _, _, _ => some []
  | _ + 1, _, _, [] => none
  | n + 1, run, last, b :: bs =>
    let m := if 0 < run ∧ b = last then run + 1 else 1
    if m = 24 then
      match bs with
      | [] => if n = 0 then some [b] else none
      | c :: cs => if c = b then none else (unstuff n 0 b cs).map (b :: ·)
    else (unstuff n m b bs).map (b :: ·)

/-- `n` bytes of bits in wire order, bit 8i of the list as bit [0] of byte i (R297). -/
def wireBytes : Nat → List Bool → List Byte
  | 0, _ => []
  | n + 1, l => BitVec.ofNat 8 (bitsValue (l.take 8).reverse) :: wireBytes n (l.drop 8)

/-- A return frame of lane `j` as its 148 bytes, from the bits that follow SOF (R304, R311): its two header words are not
scrambled, and its SEQ gives the seed of the rest (log entry 94). -/
def decodeReturn (j : Nat) (wire : List Bool) : Option (List Byte) :=
  (unstuff 1184 0 false wire).map fun data =>
    let head := wireBytes 16 (data.take 128)
    head ++ wireBytes 132 (scramble (lineSeed (bits (field head 0 8) 31 0) (120 + j)) (data.drop 128))

/-! ### Limits (R294, R296, R306, R307) -/

/-- UIs of the worst-case frame slot (R305), in ps × Gb/s. -/
def slotUi : Nat := 12932000

/-- ⌈n ÷ m⌉. -/
def ceilDiv (n m : Nat) : Nat := (n + m - 1) / m

/-- T_lead in ps (R306). -/
def Dev.lead (d : Dev) : Nat := ceilDiv slotUi d.laneGbps + d.get Obj.LAND_TIME * 1000

/-- 2 · LANE_RATE · P_min, in ps × Gb/s (R296). -/
def Dev.pMin (d : Dev) : Nat :=
  let r := d.laneGbps
  Nat.max (1000000 * r) (Nat.max (2 * (slotUi + 50000 * r)) (slotUi + (d.get Obj.LAND_TIME + 420) * 1000 * r))

/-- LINK_SHOT_RATE (R296). -/
def Dev.linkShotRate (d : Dev) : Nat := 1000000000000 * (2 * d.laneGbps) / d.pMin

/-- The identity is valid (R329). -/
def Dev.identityValid (d : Dev) : Bool := decide (d.get Obj.ID_STATE = 1)

/-- LANE_SKEW of a physical lane in ps, and the largest. -/
def Dev.skew (lane : Nat) (d : Dev) : Nat := field (d.blob Obj.LANE_SKEW 272) (2 * lane) 2
def Dev.skewMax (d : Dev) : Nat := (List.range 136).foldl (fun n l => Nat.max n (d.skew l)) 0

/-- The skew delay of a physical lane, UI (R307). -/
def Dev.skewDelay (lane : Nat) (d : Dev) : Nat := (d.skewMax - d.skew lane) * d.laneGbps / 1000

/-- Arm check 6 (R307). -/
def Dev.skewOk (d : Dev) : Bool :=
  (List.range 136).all (fun l => d.skewDelay l ≤ 255)
    && decide (d.skewMax + d.get Obj.SETUP_NS * 1000 ≤ d.get Obj.LAND_TIME * 1000)

/-! ### Lanes (R292, R317 to R320, R618) -/

/-- Bit `n` of a byte object. -/
def Dev.blobBit (k len n : Nat) (d : Dev) : Bool := ((d.blob k len).getD (n / 8) 0).getLsbD (n % 8)

/-- Sets bit `n` of a byte object. -/
def Dev.putBlobBit (k len n : Nat) (b : Bool) (d : Dev) : Dev :=
  let l := d.blob k len
  d.putBlob k (patch l (n / 8) [BitVec.ofNat 8 (setBit (l.getD (n / 8) 0).toNat (n % 8) b)])

/-- A pattern runs on a lane (R336). -/
def Dev.patterned (lane : Nat) (d : Dev) : Bool := (Map.find d.link.patterns lane).isSome

/-- LANE_STATE of a physical lane but for a pattern: 0 in use, 1 spare free, 2 spare in use, 3 FAILED. -/
def Dev.laneUse (l : Nat) (d : Dev) : Nat :=
  match Map.find d.link.patterns l with
  | some p => p.before
  | none => d.get (Obj.LANE_STATE l)

/-- Sets LANE_STATE of a physical lane; while a pattern runs on it, what it reads after the pattern. -/
def Dev.setLane (l v : Nat) (d : Dev) : Dev :=
  match Map.find d.link.patterns l with
  | some p => { d with link := { d.link with patterns := Map.insert l { p with before := v } d.link.patterns } }
  | none => d.put (Obj.LANE_STATE l) v

/-- The module reports physical lane `l` locked. -/
def Dev.locked (l : Nat) (d : Dev) : Bool := d.blobBit Obj.TX_LOCKED 17 l

/-- A spare that a sparing may take (R317): neither in use nor FAILED, not promised to a switch that waits, and locked. -/
def Dev.qualifies (l : Nat) (d : Dev) : Bool :=
  decide (128 ≤ l ∧ l < 136 ∧ d.laneUse l = 1) && d.locked l
    && d.link.switches.all fun w => w.restore || decide (w.spare ≠ l)

/-- The lowest-numbered spare that qualifies. -/
def Dev.lowestSpare (d : Dev) : Option Nat := ((List.range 8).map (128 + ·)).find? fun l => d.qualifies l

/-- A lane that carries neither frames nor a pattern sends IDLE (R305). -/
def Dev.sendLaneIdle (l : Nat) (d : Dev) : Dev := if d.patterned l then d else d.send (.idle l)

/-- At the launch of SSN `ssn`, the lanes that a sparing has left carry IDLE (R318). -/
def Dev.sendIdle (ssn : Nat) (d : Dev) : Dev :=
  (d.onLink fun l => { l with idleDue := l.idleDue.filter fun e => ssn < e.1 }).each
    (d.link.idleDue.filter fun e => e.1 ≤ ssn) fun e d => d.sendLaneIdle e.2

/-- A switch of a logical lane takes effect at SSN `x` (R318, R320): recorded before LANE_MAP changes; a lane that a sparing
leaves carries IDLE from the launch of shot `x`, or at once while no shots are issued. -/
def Dev.switchLane (x : Nat) (w : LaneSwitch) (d : Dev) : Dev :=
  let old := d.get (Obj.LANE_MAP w.lane)
  if w.restore then
    let d1 := d.raiseJ (srcLane old) 0x0702 x [w.lane, old, lo32 x, hi16 x] []
    ((d1.put (Obj.LANE_MAP w.lane) w.lane).setLane old 1).setLane w.lane 0
  else
    let d1 := d.raiseJ (srcLane old) 0x0701 x [w.lane, old * 256 + w.spare, lo32 x, hi16 x] []
    let d2 := (((d1.put (Obj.LANE_MAP w.lane) w.spare).setLane old 3).setLane w.spare 2).onLink fun l =>
      { l with nacks := Map.erase w.lane l.nacks, lockLow := Map.erase w.lane l.lockLow,
               noSpare := l.noSpare.filter (· ≠ w.lane) }
    if d2.issuing then d2.onLink fun l => { l with idleDue := l.idleDue ++ [(x, old)] } else d2.sendLaneIdle old

/-- Lane switches that fall due at the advance of SSN `x`. -/
def Dev.switchLanes (x : Nat) (d : Dev) : Dev :=
  (d.onLink fun l => { l with switches := [] }).each d.link.switches (Dev.switchLane x)

/-- A switch is decided: it waits for the next advance, or takes effect at once while no shots are issued (R318). -/
def Dev.decideSwitch (w : LaneSwitch) (d : Dev) : Dev :=
  if d.issuing then d.onLink fun l => { l with switches := l.switches ++ [w] } else d.switchLane d.nextAdvanceSsn w

/-- A new sequence of SSNs begins at 0 (R34, R38): for a job, or for MEASURE with no job open. What earlier shots left to
compare with does not reach into it, and every lane needs an ALIGN frame before its first SHOT frame (R302). -/
def Dev.newSequence (d : Dev) : Dev :=
  (((({ d with sequence := d.sequence + 1 }.put Obj.SSN_NEXT 0).put Obj.SSN_LAST_ISSUED 0).onConv fun c =>
    { c with mismatches := [], corrected := [], missing := [] }).onLink fun l =>
    { l with nacks := [], nackRuns := [], alignDue := List.range 136 })

/-- A switch of the logical lane waits. -/
def Dev.switchWaits (lane : Nat) (d : Dev) : Bool := d.link.switches.any fun w => decide (w.lane = lane)

/-- Automatic sparing of a logical lane (R317, R319). -/
def Dev.autoSpare (lane ssn : Nat) (d : Dev) : Dev :=
  if d.get Obj.SPARE_AUTO ≠ 1 ∨ d.switchWaits lane then d
  else
    match d.lowestSpare with
    | some l => d.decideSwitch { lane := lane, spare := l, restore := false }
    | none =>
      if d.link.noSpare.contains lane then d
      else
        let n := (Map.get [] d.link.nacks lane).length
        (d.onLink fun l => { l with noSpare := lane :: l.noSpare }).raiseJ (srcLane (d.get (Obj.LANE_MAP lane))) 0x0703
          noShot [lane, n, lo32 ssn] []

/-- The spare that a SPARE command takes. -/
def Dev.commandSpare (spare : Nat) (d : Dev) : Option Nat :=
  if spare = 0xFF then d.lowestSpare else if d.qualifies spare then some spare else none

/-- Sends an ALIGN frame on a physical lane (R301, R302); a pattern replaces it (R336). -/
def Dev.sendAlign (lane : Nat) (d : Dev) : Dev :=
  if d.patterned lane then d
  else (d.send (.frame lane (d.skewDelay lane) (alignWire d.ssnNext lane))).onLink fun l =>
    { l with alignDue := l.alignDue.filter (· ≠ lane) }

/-- LANE_COMMAND (R317, R320, R618). -/
def laneCommand (q : Query) (value : Nat) (d : Dev) : Answer :=
  let cmd := bits value 31 24
  let spare := bits value 15 8
  let lane := bits value 7 0
  let onSpare := decide (d.get (Obj.LANE_MAP lane) ≠ lane)
  let running := d.link.restoring.any fun r => decide (r.1 % 256 = lane)
  let restores := d.link.switches.any fun w => w.restore && decide (w.lane = lane)
  let state := decide (lane < 128) && (if cmd = 1 then onSpare || d.switchWaits lane
    else decide (cmd = 2) && (!onSpare || running || restores))
  let range := decide (127 < lane ∨ ¬ ((128 ≤ spare ∧ spare ≤ 135) ∨ spare = 0xFF) ∨ cmd = 0 ∨ 2 < cmd
    ∨ bits value 23 16 ≠ 0)
  let tests : List (Abort × Bool) :=
    [(.stateForbids, state), (.range, range), (.check, decide (cmd = 1) && (d.commandSpare spare).isNone)]
  let word (outcome : Nat) : Nat := commandWord cmd outcome (value % 65536)
  let effect (d : Dev) : Dev :=
    if cmd = 1 then
      (d.decideSwitch { lane := lane, spare := (d.commandSpare spare).getD 0, restore := false }).put Obj.LANE_COMMAND
        (word 0)
    else
      ((d.onLink fun l => { l with restoring := l.restoring ++ [(value, d.clock.raw, q)] }).sendAlign lane).put
        Obj.LANE_COMMAND (word 2)
  match d.command q 4 value tests effect with
  | .ok p d1 => .ok p d1
  | .refuse a d1 => .refuse a (d1.put Obj.LANE_COMMAND (word 1))

/-- LANE_RESTORED (R320): 1 ms after a RESTORE it ends with the switch, or refused with CHECK. -/
def laneRestored (lane raw : Nat) (d0 : Dev) : Dev :=
  let d := d0.at raw
  match d.link.restoring.find? fun r => decide (r.1 % 256 = lane ∧ r.2.1 + 1000000 ≤ d.clock.raw) with
  | none => d
  | some (value, at_, q) =>
    let d1 := d.onLink fun l => { l with restoring := l.restoring.filter fun r => r ≠ (value, at_, q) }
    let word (outcome : Nat) : Nat := commandWord (bits value 31 24) outcome (value % 65536)
    if d1.locked lane then
      let d2 := d1.decideSwitch { lane := lane, spare := d1.get (Obj.LANE_MAP lane), restore := true }
      Dev.answered q (.ok [] (d2.put Obj.LANE_COMMAND (word 0)))
    else Dev.answered q (.refuse .check (d1.put Obj.LANE_COMMAND (word 1)))

/-- ALIGN_FRAME (R301): on a lane that carries no SHOT frames and no pattern and is not FAILED, unless a RESTORE runs
on it. -/
def alignFrame (lane : Nat) (d : Dev) : Dev :=
  let st := d.laneUse lane
  let restoring := d.link.restoring.any fun r => decide (r.1 % 256 = lane)
  let shots := decide (st = 0 ∨ st = 2) && d.issuing
  if ¬ d.running ∨ shots ∨ (st = 3 ∧ ¬ restoring) then d else d.sendAlign lane

/-! ### ACK, NACK and the commit queue (R266, R268, R313, R314, R439) -/

/-- The count in a FRAME_NACK entry rises by one (R439). -/
def JournalEntry.recount (e : JournalEntry) : JournalEntry :=
  match e.body with
  | .event ps data => { e with body := .event ps (le 4 (field data 0 4 + 1)) }
  | .ledger _ => e

/-- FRAME_NACK of a half at an SSN is journalled: a new entry, or one more shot of its run (R439). -/
def Dev.journalNack (seg h ssn : Nat) (d : Dev) : Dev :=
  let k := 2 * seg + h
  if ¬ d.jobOpen then d
  else
    match Map.find d.link.nackRuns k with
    | some (last, n) =>
      if last + 1 = ssn then
        (d.onLedger fun l => { l with entries := l.entries.modify n JournalEntry.recount }).onLink fun l =>
          { l with nackRuns := Map.insert k (ssn, n) l.nackRuns }
      else
        ((d.onLink fun l => { l with nackRuns := Map.insert k (ssn, d.ledger.entries.length) l.nackRuns })).journal 0x0607
          ssn (.event [k, lo32 ssn, hi16 ssn, 0] (le 4 1))
    | none =>
      ((d.onLink fun l => { l with nackRuns := Map.insert k (ssn, d.ledger.entries.length) l.nackRuns })).journal 0x0607
        ssn (.event [k, lo32 ssn, hi16 ssn, 0] (le 4 1))

/-- A half of a shot was not executed: its entry is discarded and FRAME_NACK recorded; NACKs may spare the lane
(R317). The entry belongs to the open job where the shot does (R38). -/
def Dev.nackHalf (t : Shot) (seg h : Nat) (d : Dev) : Dev :=
  let lane := 2 * seg + h
  let l := (t.ssn :: Map.get [] d.link.nacks lane).filter fun x => t.ssn < x + 65536
  let d1 := (d.decided t.ssn seg h 2).when (d.ofSequence t.uid) (Dev.journalNack seg h t.ssn)
  let d2 := d1.raise (srcReturn (seg % 8)) 0x0607 [lane, lo32 t.ssn, hi16 t.ssn, 0]
  let d3 := ((d2.add 64 Obj.NACKS 1).bump (Obj.LANE_NACKS lane)).onLink fun k =>
    { k with nacks := Map.insert lane l k.nacks }
  if d3.get Obj.SPARE_THRESHOLD ≤ l.length then d3.autoSpare lane t.ssn else d3

/-- Reports disagree (R314): UNCERTAIN, and RETURN_DISAGREE. -/
def Dev.disagree (s : Stripe) (t : Shot) (seg h : Nat) (d : Dev) : Dev :=
  ((d.onHalf t.ssn seg h fun v => { v with conflict := true }).markUncertain s.uid (halfRows s.src.length t.k seg h)).raiseOf
    s.uid (srcReturn (seg % 8)) 0x0706 t.ssn [2 * seg + h, lo32 t.ssn, hi16 t.ssn, 0] []

/-- Neither ACK nor NACK arrived (R268). -/
def Dev.missHalf (s : Stripe) (t : Shot) (seg h : Nat) (d : Dev) : Dev :=
  let n := match Map.find d.conv.missing seg with
    | some (last, n) => if last = t.ssn + 1 then n else if last = t.ssn then n + 1 else 1
    | none => 1
  let d1 := (d.decided t.ssn seg h 3).markUncertain s.uid (halfRows s.src.length t.k seg h)
  let d2 := d1.onConv fun c => { c with missing := Map.insert seg (t.ssn + 1, n) c.missing }
  let d3 := (d2.add 64 Obj.ACKS_MISSING 1).raiseOf s.uid (srcReturn (seg % 8)) 0x0608 t.ssn
    [2 * seg + h, lo32 t.ssn, hi16 t.ssn, n] []
  if 8 ≤ n then d3.enterSafe 6 else d3

/-- What the reports of a half decide (R313, R314): none without a report; with all that agree, executed or not; a doubt
is taken as executed. -/
def Half.verdict (v : Half) : Option Bool :=
  match v.primary, v.secondary with
  | some a, some b => some (a || b || v.conflict)
  | some a, none => some (a || v.conflict)
  | none, some b => some (b || v.conflict)
  | none, none => none

/-- The reports of a half disagree (R314). -/
def Half.doubt (v : Half) : Bool :=
  v.conflict || (v.primary.isSome && v.secondary.isSome && decide (v.primary ≠ v.secondary))

/-- A return lane is in service. -/
def Dev.inService (lane : Nat) (d : Dev) : Bool := d.bit Obj.RX_IN_SERVICE lane

/-- The decision on a half of shot `ssn` (R313): once both return lanes in service have reported it, or at the
deadline. -/
def Dev.decideHalf (ssn seg h : Nat) (deadline : Bool) (d : Dev) : Dev :=
  match d.conv.shots.find? fun t => decide (t.ssn = ssn) with
  | none => d
  | some t =>
    match d.stripe? t.uid, Map.find t.segs seg with
    | some s, some g =>
      let v := g.half h
      let ready := (v.primary.isSome || ! d.inService (seg % 8)) && (v.secondary.isSome || ! d.inService ((seg + 4) % 8))
      if v.done ≠ 0 ∨ t.struck.isNone ∨ ¬ (ready || deadline) then d
      else
        match v.verdict with
        | some true => (d.decided ssn seg h 1).when v.doubt (Dev.disagree s t seg h)
        | some false => d.nackHalf t seg h
        | none => if deadline then d.missHalf s t seg h else d
    | _, _ => d

/-- Decisions that have become possible, in SSN order. -/
def Dev.decideAll (d : Dev) : Dev :=
  d.each (d.conv.shots.map (·.ssn)) fun ssn d =>
    d.each (List.range 128) fun n d => d.decideHalf ssn (n / 2) (n % 2) false

/-- ACK_MISSING (R268): the deadline of the oldest undecided shot of a half. -/
def ackMissing (seg h raw : Nat) (d0 : Dev) : Dev :=
  let d := d0.at raw
  let due (t : Shot) : Bool :=
    (Map.find t.segs seg).any (fun g => decide ((g.half h).done = 0)) && t.struck.any fun r => r + 4000 ≤ d.clock.raw
  match d.conv.shots.find? due with
  | some t => d.decideHalf t.ssn seg h true
  | none => d

/-! ### Return frames (R310, R311, R315 to R317) -/

/-- A valid return frame. -/
structure Report where
  moduleFault : Bool
  strobeLost : Bool
  lock : Nat
  cur : Nat
  /-- H1, H0 and LAST_SSN of the sixteen entries, as 64-bit words. -/
  entries : List Nat

/-- The checks of a return frame of lane `j` (R311). -/
def parseReport (j : Nat) (b : List Byte) : Option Report :=
  let w0 := field b 0 8
  let crc := crc32cFrom (0xFFFFFFFF ^^^ (0xA5000000 + j)) (b.take 144)
  if b.length = 148 ∧ bits w0 63 60 = 3 ∧ bits w0 59 57 = j ∧ field b 144 4 = crc then
    some { moduleFault := bitAt w0 56, strobeLost := bitAt w0 55, lock := bits w0 54 38, cur := bits (field b 8 8) 47 0,
           entries := (List.range 16).map fun m => field b (16 + 8 * m) 8 }
  else none

/-- The entry of a segment on a return lane (R310). -/
def Report.entryOf (j seg : Nat) (f : Report) : Nat :=
  f.entries.getD (if seg % 8 = j then seg / 8 else 8 + seg / 8) 0

/-- The segments that a return lane reports. -/
def laneSegments (j : Nat) : List Nat := (List.range 64).filter fun s => s % 8 = j ∨ (s + 4) % 8 = j

/-- A return lane's state. -/
def Dev.rxLane (j : Nat) (d : Dev) : RxLane :=
  (Map.find d.link.rx j).getD { bad := 0, good := 0, heard := 0, removed := false }

/-- Sets a return lane's state. -/
def Dev.setRx (j : Nat) (x : RxLane) (d : Dev) : Dev := d.onLink fun l => { l with rx := Map.insert j x l.rx }

/-- A return lane goes out of service (R315): cause 1 checks, 2 silence, 3 command. -/
def Dev.laneDown (j cause : Nat) (d : Dev) : Dev :=
  if d.inService j then
    (((d.setRx j { d.rxLane j with good := 0 }).raiseJ (srcReturn j) 0x0704 noShot [j, cause] []).putBit Obj.RX_IN_SERVICE j
      false).decideAll
  else d

/-- A return lane returns to service. -/
def Dev.laneUp (j : Nat) (d : Dev) : Dev :=
  if d.inService j then d else (d.putBit Obj.RX_IN_SERVICE j true).raise (srcReturn j) 0x0705 [j]

/-- The LOCK bits of a frame (R311, R317): by physical lane; a lane without LOCK in 8 consecutive frames is spared. -/
def Dev.takeLocks (j lock cur : Nat) (d : Dev) : Dev :=
  let lanes := (List.range 8).flatMap (fun m => [(2 * (j + 8 * m), m), (2 * (j + 8 * m) + 1, 8 + m)]) ++ [(128 + j, 16)]
  let d1 := d.each lanes fun (l, b) d => d.putBlobBit Obj.TX_LOCKED 17 l (bitAt lock b)
  d1.each (List.range 128) fun lam d =>
    match lanes.find? fun e => decide (e.1 = d.get (Obj.LANE_MAP lam)) with
    | none => d
    | some (_, b) =>
      let n := if bitAt lock b then 0 else Map.get 0 d.link.lockLow lam + 1
      let d2 := d.onLink fun l => { l with lockLow := Map.put 0 lam n l.lockLow }
      if 8 ≤ n then d2.autoSpare lam cur else d2

/-- The report of one half of one shot by a return lane is noted; a late one that disagrees is recorded (R313, R314). -/
def Dev.noteReport (j : Nat) (f : Report) (ssn seg h : Nat) (d : Dev) : Dev :=
  match d.conv.shots.find? fun t => decide (t.ssn = ssn) with
  | none => d
  | some t =>
    match d.stripe? t.uid, Map.find t.segs seg with
    | some s, some g =>
      let v := g.half h
      let hist := bits (f.entryOf j seg) (55 + 8 * h) (48 + 8 * h)
      let x := bitAt hist (f.cur - ssn)
      let primary := decide (seg % 8 = j)
      let mine := if primary then v.primary else v.secondary
      let other := if primary then v.secondary else v.primary
      let against := decide (mine = some (!x) ∨ other = some (!x))
      if f.cur < ssn ∨ ssn + 7 < f.cur ∨ v.done = 4 ∨ t.struck.isNone ∨ (mine.isSome ∧ ! against) then d
      else
        let d1 := d.onHalf ssn seg h fun v =>
          if mine.isSome then { v with conflict := v.conflict || (v.done = 0 && against) }
          else if primary then { v with primary := some x } else { v with secondary := some x }
        if v.done ≠ 0 ∧ against ∧ ! v.conflict then d1.disagree s t seg h else d1
    | _, _ => d

/-- Every report that a frame of a lane in service holds. -/
def Dev.noteReports (j : Nat) (f : Report) (d : Dev) : Dev :=
  d.each ((d.conv.shots.filter fun t => t.ssn ≤ f.cur ∧ f.cur ≤ t.ssn + 7).map (·.ssn)) fun ssn d =>
    d.each (laneSegments j) fun seg d => (d.noteReport j f ssn seg 0).noteReport j f ssn seg 1

/-- The echo rises to the highest LAST_SSN reported (R316). -/
def Dev.noteEcho (j : Nat) (f : Report) (d : Dev) : Dev :=
  d.each (laneSegments j) fun seg d =>
    let last := bits (f.entryOf j seg) 47 0
    if d.get (Obj.ECHO_SSN seg) < last then d.put (Obj.ECHO_SSN seg) last else d

/-- A return frame that fails its checks. -/
def Dev.badReturn (j : Nat) (d : Dev) : Dev :=
  let x := d.rxLane j
  let d1 := (d.setRx j { x with bad := x.bad + 1, good := 0 }).bump (Obj.RETURN_ERRORS j)
  if 16 ≤ x.bad + 1 then d1.laneDown j 1 else d1

/-- A valid return frame. -/
def Dev.goodReturn (j : Nat) (f : Report) (d : Dev) : Dev :=
  let x := d.rxLane j
  let d1 := d.setRx j { x with bad := 0, good := x.good + 1, heard := d.clock.raw }
  let d2 := if 64 ≤ x.good + 1 ∧ ¬ x.removed then d1.laneUp j else d1
  let d3 := (d2.noteEcho j f).takeLocks j f.lock f.cur
  let d4 := if f.strobeLost then d3.raise (srcReturn j) 0x070E [j, lo32 f.cur, hi16 f.cur, 0] else d3
  let d5 :=
    if f.moduleFault ∧ d4.mode.canSafe then
      (d4.raiseJ (srcReturn j) 0x070D noShot [j, lo32 f.cur, hi16 f.cur, 0] []).enterSafe 6
    else d4
  if d5.inService j then (d5.noteReports j f).decideAll else d5

/-- The bits on the wire of lane `j`, from the one after SOF on, as a valid return frame (R304, R311). -/
def receiveReturn (j : Nat) (wire : List Bool) : Option Report := (decodeReturn j wire).bind (parseReport j)

/-- RETURN_FRAME: what the receiver of lane `j` makes of a frame. -/
def returnFrame (j : Nat) (report : Option Report) (d : Dev) : Dev :=
  if ¬ d.running then d
  else
    match report with
    | none => d.badReturn j
    | some f => d.goodReturn j f

/-- RETURN_LANE_SILENCE (R315). -/
def returnSilence (j raw : Nat) (d0 : Dev) : Dev :=
  let d := d0.at raw
  if (d.rxLane j).heard + 10000 ≤ d.clock.raw then (d.setRx j { d.rxLane j with good := 0 }).laneDown j 2 else d

/-- RETURN_COMMAND (R315). -/
def returnCommand (q : Query) (value : Nat) (d : Dev) : Answer :=
  let cmd := bits value 15 8
  let j := bits value 7 0
  let removed := (d.rxLane j).removed
  let state := decide (j < 8)
    && ((decide (cmd = 1) && (removed || ! d.inService ((j + 4) % 8))) || (decide (cmd = 2) && !removed))
  d.command q 2 value [(.stateForbids, state), (.range, decide (7 < j ∨ cmd = 0 ∨ 2 < cmd))] fun d =>
    let x := d.rxLane j
    if cmd = 1 then (d.setRx j { x with removed := true }).laneDown j 3
    else (d.setRx j { x with removed := false, bad := 0, heard := d.clock.raw }).laneUp j

/-! ### Waveform banks (R321 to R324) -/

/-- START and WIDTH of window `w` of a bank. -/
def bankStart (b : List Byte) (w : Nat) : Nat := field b (64 + 4 * w) 2
def bankWidth (b : List Byte) (w : Nat) : Nat := field b (66 + 4 * w) 2

/-- The tests of R322. -/
def bankBad (b : List Byte) : Bool :=
  let ws := List.range 8
  let used := ws.filter fun w => bankWidth b w ≠ 0
  decide (field b 0 1 ≠ 0)
    || (List.range 64).any (fun c => ws.any fun w => bitAt (field b c 1) w && decide (bankWidth b w = 0))
    || ws.any (fun w => decide (4000 < bankStart b w + bankWidth b w))
    || used.any fun v => used.any fun w => decide (v < w ∧ bankStart b v < bankStart b w + bankWidth b w
        ∧ bankStart b w < bankStart b v + bankWidth b v)

/-- Object of a bank. -/
def bankKey (bank : Nat) : Nat := if bank = 0 then Obj.WAVE_BANK_0 else Obj.WAVE_BANK_1

/-- SPEED in kHz (R327). -/
def Dev.busKhz (d : Dev) : Nat := if d.get Obj.I2C_SPEED = 0 then 100 else 400

/-- A transfer succeeded (R327): a NACKed one is repeated up to 3 times, and the clock is stretched by up to 10 ms. -/
def transferOk (x : I2cResult) : Bool := decide (x.nacks ≤ 3 ∧ x.stretch ≤ 10000)

/-- `n` attempts at a transfer leave on the bus. -/
def Dev.transfer (n address register : Nat) (write : List Byte) (read : Nat) (d : Dev) : Dev :=
  d.each (List.range n) fun _ d => d.send (.i2c d.busKhz address register write read)

/-- Attempts that a transfer took: the first, and the repeats after NACKs. -/
def attempts (x : I2cResult) : Nat := min x.nacks 3 + 1

/-- The bank is copied into the module and read back (R323): WAVE_CHECK is then the CRC of what the module holds. -/
def Dev.copyBank (bank : Nat) (b : List Byte) (t : BankTransfer) (d : Dev) : Dev :=
  let address := d.get Obj.CTRL_ADDRESS
  let d1 := d.transfer (attempts t.write) address (Config.bankRegister bank) b 0
  if ¬ transferOk t.write then d1
  else
    let d2 := d1.transfer (attempts t.read) address (Config.bankRegister bank) [] 96
    if transferOk t.read then d2.put (Obj.WAVE_CHECK bank) (crc32c (slice t.read.bytes 0 96)) else d2

/-- The module holds the bank as written (R323). -/
def bankAgrees (b : List Byte) (t : BankTransfer) : Bool :=
  transferOk t.write && transferOk t.read && decide (slice t.read.bytes 0 96 = b)

/-- A write of a bank (R322, R323): an accepted one goes to the module; where the comparison fails the object keeps its old
value. -/
def waveBankWrite (q : Query) (bank : Nat) (b : List Byte) (t : BankTransfer) (d : Dev) : Answer :=
  let tests : List (Abort × Bool) :=
    [(.length, decide (b.length ≠ 96)),
     (.stateForbids, d.writeForbidden q.index q.sub 0 || decide (bank = d.get Obj.WAVE_IN_EFFECT ∨ bank = d.get Obj.WAVE_SELECT)),
     (.range, bankBad b)]
  match firstAbort tests with
  | some a => .refuse a d
  | none =>
    let d1 := d.copyBank bank b t
    if bankAgrees b t then .ok [] ((d1.noteWrite q (d.blob (bankKey bank) 96) b).putBlob (bankKey bank) b)
    else .refuse .check d1

/-- Arm check 7 (R324). -/
def Dev.waveOk (d : Dev) : Bool :=
  let b := d.blob (bankKey (d.get Obj.WAVE_SELECT)) 96
  (List.range 8).all fun w =>
    decide (bankWidth b w = 0 ∨ (bankStart b w + bankWidth b w) * 250 * d.get Obj.JOB_SHOT_RATE < 1000000000000)

/-- Arm check 8 (R311, R315). -/
def Dev.lanesOk (d : Dev) : Bool :=
  (List.range 128).all (fun lam => d.locked (d.get (Obj.LANE_MAP lam))) && decide (d.get Obj.RX_IN_SERVICE = 0xFF)

/-! ### Tumble (R325, R326) -/

/-- Beams with a non-zero code in each firing group at SSN `ssn`, from the codes of segments sent without BLANK. -/
def groupCounts (ssn direction : Nat) (codes : List (Nat × List Nat)) : Map Nat :=
  codes.foldl (fun m (e : Nat × List Nat) => (e.2.zipIdx.filter fun q => q.1 ≠ 0).foldl (fun m q =>
    let r := beamRow direction (8 * e.1 + q.2 / 512)
    let g := (r + q.2 % 512 + ssn) % 16
    Map.put 0 g (Map.get 0 m g + 1) m) m) []

/-- The counts of a launched shot are held against GROUP_LIMIT (R326). -/
def Dev.tumble (limit ssn : Nat) (counts : Map Nat) (d : Dev) : Dev :=
  d.each counts fun (g, n) d =>
    let d1 := if d.get (Obj.GROUP_PEAK g) < n then d.put (Obj.GROUP_PEAK g) n else d
    if n ≤ limit then d1
    else
      let action := d1.get Obj.TUMBLE_ACTION
      let d2 := d1.bump (Obj.GROUP_OVER g)
      let quiet := decide (d2.link.tumbleAt ≠ 0 ∧ d2.clock.raw + 1 < d2.link.tumbleAt + 1000000)
      let d3 := if quiet then d2.count 0x070A
        else (d2.onLink fun l => { l with tumbleAt := d2.clock.raw + 1 }).raise 0x3000 0x070A [g, n, lo32 ssn, action]
      if action = 1 then d3.pendPause else if action = 2 then d3.enterSafe 6 else d3

/-! ### Module identity (R50, R52, R327 to R330) -/

/-- The effective gain table (R50). -/
def Dev.effectiveGains (d : Dev) : Map Nat :=
  let dead := Map.get [] d.blobs Obj.DEAD_BEAM_MAP
  d.gains.filter fun e => ¬ (dead.getD (e.1 / 8) 0).getLsbD (e.1 % 8)

/-- The bytes of a gain table, in the byte order of 0x3010. -/
def gainBytes (g : Map Nat) : List Byte := (Map.gets 0 g 0 262144).flatMap (le 2)

/-- The effective gain table, 0x3011, 0x3012 and 0x3013 are recomputed and stored (R50, R52). -/
def Dev.refreshGains (d : Dev) : Dev :=
  let g := d.effectiveGains
  ((({ d with effGains := g }).put Obj.BEAM_GAIN_CHECK (crc32c (gainBytes g))).put Obj.LIVE_BEAMS g.length).put
    Obj.GAIN_MAX_LIVE (g.foldl (fun n (e : Nat × Nat) => Nat.max n e.2) 0)

/-- Arm check 11 (R52). -/
def Dev.gainsOk (d : Dev) : Bool := decide (d.get Obj.BEAM_GAIN_CHECK = crc32c (gainBytes d.effGains))

/-- Bits set in bytes. -/
def popCount (b : List Byte) : Nat := (dataBits b).countP id

/-- The identity memory passes MAGIC, VERSION and CHECK (R328). -/
def identityOk (b : List Byte) : Bool :=
  decide (b.take 4 = [0x57, 0x4C, 0x49, 0x44] ∧ field b 4 2 = 0x0100 ∧ field b 0x8200 4 = crc32c (slice b 0 0x8200))

/-- The identity as read. -/
def Dev.takeIdentity (b : List Byte) (d : Dev) : Dev :=
  let skews := (List.range 136).map fun l => field b (0x40 + 2 * l) 2
  let spread := skews.foldl Nat.max 0 - skews.foldl Nat.min 65535
  let d1 := ((d.putBlob Obj.SERIAL (slice b 8 16)).putBlob Obj.LANE_SKEW (slice b 0x40 272)).putBlob Obj.DEAD_BEAM_MAP
    (slice b 0x200 32768)
  let d2 := (((d1.put Obj.MAX_LANE_RATE (field b 0x18 1)).put Obj.ID_MAX_SHOT_RATE (field b 0x20 4)).put Obj.DEAD_BEAMS
    (popCount (slice b 0x200 32768))).put Obj.SETUP_NS (field b 0x1E 2)
  ((d2.put Obj.SKEW_SPREAD spread).put Obj.ID_STATE 1).onLink fun l =>
    { l with identity := { beamRows := field b 0x1A 2, beamColumns := field b 0x1C 2, txLanes := field b 0x24 2,
                           rxLanes := field b 0x26 2 } }

/-- MODULE_READ is recorded. -/
def Dev.noteModuleRead (result : Nat) (b : List Byte) (d : Dev) : Dev :=
  d.raiseJ 0x3000 0x070B noShot
    [result, crc32c (slice b 8 16), popCount (slice b 0x200 32768), field b 0x18 1] []

/-- MODULE_READ with the current identity's fields, where nothing valid was read. -/
def Dev.noteFailedRead (result : Nat) (d : Dev) : Dev :=
  (d.put Obj.ID_STATE result).raiseJ 0x3000 0x070B noShot
    [result, crc32c (d.blob Obj.SERIAL 16), d.get Obj.DEAD_BEAMS, d.get Obj.MAX_LANE_RATE] []

/-- The identity read completes: what it makes of the device, and whether a command that waits is refused. -/
def Dev.readIdentity (identity : Option (List Byte)) (d : Dev) : Answer :=
  match identity with
  | none => .ok [] (d.noteFailedRead 3)
  | some b =>
    if ¬ identityOk b then .ok [] (d.noteFailedRead 2)
    else
      let d1 := (d.takeIdentity b).refreshGains
      if d1.setRefused then .refuse .busy (d.noteModuleRead 4 b) else .ok [] (d1.noteModuleRead 1 b)

/-- `n` attempts to read the identity memory (R327, R328). -/
def Dev.readMemory (n : Nat) (d : Dev) : Dev := d.transfer n (d.get Obj.ID_ADDRESS) 0 [] 0x8204

/-- MODULE_READ (R329). -/
def moduleRead (t : I2cResult) (d : Dev) : Dev :=
  if ¬ d.link.reading then d
  else
    let identity := if transferOk t then some (slice t.bytes 0 0x8204) else none
    let a := ((d.readMemory (attempts t - 1)).onLink fun l => { l with reading := false, readQuery := none }).readIdentity identity
    match d.link.readQuery, a with
    | some q, a => Dev.answered q a
    | none, .ok _ d1 => d1
    | none, .refuse _ d1 => d1

/-- An identity read starts (R329). -/
def Dev.startRead (q : Option Query) (d : Dev) : Dev :=
  (d.onLink fun l => { l with reading := true, readQuery := q }).readMemory 1

/-- MODULE_COMMAND (R329). -/
def moduleCommand (q : Query) (value : Nat) (d : Dev) : Answer :=
  d.command q 1 value
    [(.stateForbids, decide (d.mode ≠ .setup ∧ d.mode ≠ .service)), (.range, decide (value ≠ 1)), (.busy, d.link.reading)]
    (Dev.startRead (some q))

/-! ### Patterns and eye scan (R336 to R338) -/

/-- Exponents a and b of a pattern's polynomial x^a + x^b + 1 (R336). -/
def prbsTaps (mode : Nat) : Nat × Nat := if mode = 1 then (7, 6) else if mode = 2 then (15, 14) else (31, 28)

/-- `n` bits of a pattern from a generator's state of `a` bits, the last bit generated as bit [0] (R336). -/
def prbsBits (a b : Nat) : Nat → Nat → List Bool
  | 0, _ => []
  | n + 1, s =>
    let x := (s / 2 ^ (a - 1) + s / 2 ^ (b - 1)) % 2
    decide (x = 1) :: prbsBits a b n ((s * 2 + x) % 2 ^ a)

/-- A physical lane is in use as a spare. -/
def Dev.spareUsed (lane : Nat) (d : Dev) : Bool :=
  (List.range 128).any fun lam => decide (d.get (Obj.LANE_MAP lam) = lane)

/-- A pattern may be started on the lane (R336). -/
def Dev.patternAllowed (lane : Nat) (d : Dev) : Bool :=
  decide (d.mode = .test ∨ d.mode = .setup)
    || (decide (128 ≤ lane ∧ lane < 136) && ! d.spareUsed lane)
    || (decide (136 ≤ lane) && ! d.inService (lane - 136))

/-- A pattern starts on a lane: it replaces all else there. -/
def Dev.startPattern (lane mode : Nat) (d : Dev) : Dev :=
  let p : PatternRun := { before := d.laneUse lane, sent := 0, clean := 0, inject := false }
  let d1 := ((d.onLink fun l => { l with patterns := Map.insert lane p l.patterns }).put (Obj.PAT_BITS lane) 0).put
    (Obj.PAT_ERRORS lane) 0
  d1.when (decide (lane < 136)) fun d =>
    (d.put (Obj.LANE_STATE lane) 4).send (.pattern lane (prbsTaps mode).1 (prbsTaps mode).2)

/-- A lane's pattern stops: LANE_STATE shows its use again, and it carries IDLE until its next frame. -/
def Dev.stopPattern (lane : Nat) (d : Dev) : Dev :=
  if ¬ d.patterned lane then d
  else
    (d.onLink fun l => { l with patterns := Map.erase lane l.patterns }).when (decide (lane < 136)) fun d1 =>
      (d1.put (Obj.LANE_STATE lane) (d.laneUse lane)).send (.idle lane)

/-- A write of a pattern's MODE. -/
def patternMode (q : Query) (lane v : Nat) (d : Dev) : Answer :=
  d.configure q (Obj.PAT_MODE lane) 1 v
    [(.stateForbids, decide (v ≠ 0) && ! d.patternAllowed lane), (.range, decide (3 < v))] fun d =>
    if v = 0 then d.stopPattern lane else d.startPattern lane v

/-- A write of a pattern's INJECT (R337): the next bit generated is inverted. -/
def patternInject (q : Query) (lane v : Nat) (d : Dev) : Answer :=
  d.command q 1 v [(.range, decide (v ≠ 1))] fun d =>
    d.onLink fun l =>
      match Map.find l.patterns lane with
      | some p => { l with patterns := Map.insert lane { p with inject := true } l.patterns }
      | none => l

/-- Self-calibration uses the offset sampler of a return lane (R338, R550). -/
def Dev.samplerBusy (lane : Nat) (d : Dev) : Bool := decide (d.get (Obj.CAL_STATE (2 + lane)) = 2)

/-- A write of the eye scan's COMMAND (R338). -/
def eyeScanCommand (q : Query) (v : Nat) (d : Dev) : Answer :=
  d.command q 1 v
    [(.range, decide (v ≠ 1)), (.busy, decide (d.get Obj.SCAN_STATE = 1) || d.samplerBusy (d.get Obj.LANE))] fun d =>
    (((d.put Obj.SCAN_STATE 1).put Obj.EYE_ERRORS 0).put Obj.BITS_DONE 0).onLink fun l =>
      { l with scanBits := d.get Obj.EYE_BITS }

/-- EYE_SCAN_DONE: the point's bits have been compared, with this many disagreements. -/
def eyeScanDone (errors : Nat) (d : Dev) : Dev :=
  if d.get Obj.SCAN_STATE = 1 then
    ((d.put Obj.SCAN_STATE 2).put Obj.EYE_ERRORS errors).put Obj.BITS_DONE d.link.scanBits
  else d

/-! ### Objects -/

/-- Tests of writes to link objects (R294, R331). -/
def Dev.linkTests (index sub v : Nat) (d : Dev) : List (Abort × Bool) :=
  if index = 0x5800 ∧ sub = 1 then
    [(.range, d.identityValid && decide (d.get Obj.MAX_LANE_RATE < v)),
     (.check, decide (v = 2 ∧ 850 < d.geti 16 Obj.DIE_TEMP) && ! d.highRate)]
  else if index = 0x5850 then [(.range, decide ((sub = 1 ∧ v = 0) ∨ 4 < v))]
  else []

/-- Objects of 09_beam_link that follow from others. -/
def Dev.linkValue (k : Nat) (d : Dev) : Option Nat :=
  if k = Obj.LINK_SHOT_RATE then some d.linkShotRate else if k = Obj.LEAD then some d.lead else none

/-! ### Meanings -/

def execReturnLaneSilence (lane : Fin 8) (raw : Nat) (s : State) : Host.Outcome State Fault Refusal :=
  s.next (returnSilence lane.val raw)
def execAckMissing (segment : Fin 64) (half : Bool) (raw : Nat) (s : State) : Host.Outcome State Fault Refusal :=
  s.next (ackMissing segment.val (bit01 half) raw)
def execReturnRemove (r : Req) (lane : Byte) (s : State) : Host.Outcome State Fault Refusal :=
  s.next (Dev.serveCommand (r.write 0x581A 0) (returnCommand (r.write 0x581A 0) (0x0100 + lane.toNat)))
def execReturnRestore (r : Req) (lane : Byte) (s : State) : Host.Outcome State Fault Refusal :=
  s.next (Dev.serveCommand (r.write 0x581A 0) (returnCommand (r.write 0x581A 0) (0x0200 + lane.toNat)))
def execLaneSpare (r : Req) (lane spare : Byte) (s : State) : Host.Outcome State Fault Refusal :=
  let v := 0x01000000 + spare.toNat * 256 + lane.toNat
  s.next (Dev.serveCommand (r.write 0x5812 0) (laneCommand (r.write 0x5812 0) v))
def execLaneRestore (r : Req) (lane spare : Byte) (s : State) : Host.Outcome State Fault Refusal :=
  let v := 0x02000000 + spare.toNat * 256 + lane.toNat
  s.next (Dev.serveLater (r.write 0x5812 0) (laneCommand (r.write 0x5812 0) v))
def execLaneRestored (lane : Fin 128) (raw : Nat) (s : State) : Host.Outcome State Fault Refusal :=
  s.next (laneRestored lane.val raw)
def execAlignFrame (lane : Fin 136) (s : State) : Host.Outcome State Fault Refusal := s.next (alignFrame lane.val)
def execWaveBankWrite (r : Req) (bank : Fin 2) (value : List Byte) (transfer : BankTransfer) (s : State) :
    Host.Outcome State Fault Refusal :=
  let q := r.write (0x5830 + bank.val) 0
  s.next (Dev.serveCommand q (waveBankWrite q bank.val value transfer))
def execModuleCommandRead (r : Req) (s : State) : Host.Outcome State Fault Refusal :=
  s.next (Dev.serveLater (r.write 0x5841 0) (moduleCommand (r.write 0x5841 0) 1))
def execModuleRead (transfer : I2cResult) (s : State) : Host.Outcome State Fault Refusal :=
  s.next (moduleRead transfer)
def execPatternStart (r : Req) (lane : Fin 144) (mode : Byte) (s : State) : Host.Outcome State Fault Refusal :=
  let q := r.write (0x5900 + lane.val) 1
  s.next (Dev.serveCommand q (patternMode q lane.val mode.toNat))
def execPatternInject (r : Req) (lane : Fin 144) (s : State) : Host.Outcome State Fault Refusal :=
  let q := r.write (0x5900 + lane.val) 3
  s.next (Dev.serveCommand q (patternInject q lane.val 1))
def execEyeScanStart (r : Req) (s : State) : Host.Outcome State Fault Refusal :=
  s.next (Dev.serveCommand (r.write 0x5880 5) (eyeScanCommand (r.write 0x5880 5) 1))
def execEyeScanDone (errors : Word32) (s : State) : Host.Outcome State Fault Refusal := s.next (eyeScanDone errors.toNat)

end Sys2Proof.Machine
end

