-- ==== Sys2Proof/Machine/Stage.lean ====
section
/-!
DEFINITION. Sys2Proof/Machine/Stage.lean: position channels, the shot source and its cross-check, probes, compares and
general timers (10_stage_position_and_shot_timing, R341 to R375); the predictions of R357.
-/
namespace Sys2Proof.Machine

/-- The source of STAGE (R528). -/
def srcStage : Nat := 0x4400

/-- Changes STAGE's state. -/
def Dev.onStage (f : Stage → Stage) (d : Dev) : Dev := { d with stage := f d.stage }

/-- A position channel's state. -/
def Dev.chan (ch : Nat) (d : Dev) : Channel := Map.get Channel.reset d.stage.chans ch

/-- Sets a position channel's state. -/
def Dev.setChan (ch : Nat) (c : Channel) (d : Dev) : Dev :=
  d.onStage fun s => { s with chans := Map.put Channel.reset ch c s.chans }

/-- The integer nearest to n ÷ m, ties away from zero; m > 0 (R357, R359). -/
def nearest (n m : Int) : Int := if 0 ≤ n then (2 * n + m) / (2 * m) else -((-2 * n + m) / (2 * m))

/-! ### The shot source (R351, R352, R364, R365) -/

/-- An ENC position in SC0 counts, without OFFSET (R364). -/
def Dev.encCounts (p : Int) (d : Dev) : Int := p * d.get Obj.RATIO / 65536

/-- A position of the shot source's channel, in SC0 counts. -/
def Dev.sourceCounts (p : Int) (d : Dev) : Int :=
  if d.get Obj.SHOT_SOURCE = 0 then p else d.encCounts p + d.stage.offset

/-- The stripe that waits for its arming: the first that is open, not armed and not shot (R353). -/
def Dev.waitingStripe (d : Dev) : Option Stripe :=
  d.stripes.find? fun s => ! s.armed && decide (s.advanced = 0) && s.last.isNone

/-- The stripe whose progress STAGE follows. -/
def Dev.followed (d : Dev) : Option Stripe :=
  match d.armedStripe with
  | some s => some s
  | none => d.waitingStripe

/-- The sign σ of a stripe (R352). -/
def Dev.sign (s : Stripe) (d : Dev) : Int := if s.direction = d.get Obj.SCAN_SENSE then 1 else -1

/-- Progress of a stripe at a position of the shot source, in SC0 counts (R352). -/
def Dev.progress (s : Stripe) (p : Int) (d : Dev) : Int := d.sign s * (p - s.origin)

/-- θ(k) (R352). -/
def Dev.theta (k : Nat) (d : Dev) : Int := k * d.get Obj.PIXEL_PITCH / 65536

/-- The cross-check's ENC channel. -/
def Dev.crossChannel (d : Dev) : Option Nat :=
  if d.get Obj.CHANNEL = 0xFF then none else some (2 + d.get Obj.CHANNEL)

/-- The channel is VALID. -/
def Dev.valid (ch : Nat) (d : Dev) : Bool := d.bit (Obj.CHAN_STATUS ch) 0

/-- The SSN of the first strobe that has not fired. -/
def Dev.nextStrobeSsn (d : Dev) : Nat :=
  match d.armedStripe with
  | some s => s.ssnBase + s.struck
  | none => d.ssnNext

/-- A channel has lost VALID: what R365 makes of it. -/
def Dev.lostValid (ch : Nat) (d : Dev) : Dev :=
  let armed := d.armedStripe.isSome
  let st := d.get (Obj.CHAN_STATUS ch)
  if ch = d.get Obj.SHOT_SOURCE then
    match d.crossChannel with
    | some c =>
      if armed ∧ ch = 0 ∧ d.get Obj.CROSS_STATE = 1 ∧ d.valid c ∧ d.stage.disagree = 0 then
        let x := d.nextStrobeSsn
        ((d.raiseJ srcStage 0x0808 x [c, lo32 x, hi16 x, ofSigned 32 d.stage.offset] []).put Obj.SHOT_SOURCE c).put
          Obj.CROSS_STATE 2
      else if armed ∧ d.mode.canSafe then
        (d.raiseJ srcStage 0x080A d.ssnNext [ch, st, lo32 d.ssnNext] []).enterSafe 6
      else d
    | none =>
      if armed ∧ d.mode.canSafe then
        (d.raiseJ srcStage 0x080A d.ssnNext [ch, st, lo32 d.ssnNext] []).enterSafe 6
      else d
  else if d.crossChannel = some ch ∧ d.get Obj.CROSS_STATE = 1 then
    (d.raiseJ srcStage 0x0807 d.ssnNext [ch, st, lo32 d.ssnNext] []).put Obj.CROSS_STATE 3
  else d

/-- STATUS of a channel changes; VALID follows from it (the field map after R375). -/
def Dev.setStatus (ch : Nat) (f : Nat → Nat) (d : Dev) : Dev :=
  let s := f (d.get (Obj.CHAN_STATUS ch))
  let mode := d.get (Obj.CHAN_MODE ch)
  let hall := decide (2 ≤ ch ∧ mode = 2)
  let valid := decide (mode ≠ 0 ∧ bits s 6 2 = 0) && (bitAt s 8 || hall)
  let d1 := d.put (Obj.CHAN_STATUS ch) (setBit s 0 valid)
  if d.valid ch ∧ ¬ valid then d1.lostValid ch else d1

/-! ### Speed and direction (R343, R344) -/

/-- The pair of samples that the estimate spans: time in ps and counts, in SC0 counts where `f` maps them. -/
def Channel.span (c : Channel) (w : Nat) (f : Int → Int) : Option (Nat × Int) :=
  match c.hist, (c.hist.drop w).head?.or c.hist.getLast? with
  | (t0, p0) :: _, some (t1, p1) => if t1 < t0 then some (t0 - t1, f p0 - f p1) else none
  | _, _ => none

/-- SPEED in 1/256 count per µs, saturating (R343). -/
def Dev.speedOf (c : Channel) (d : Dev) : Int :=
  match c.span (d.get Obj.SPEED_WINDOW) id with
  | some (dt, dp) => clampInt (-2147483648) 2147483647 (nearest (dp * 256 * 1000000) dt)
  | none => 0

/-- DIRECTION and the extreme position since the last turn (R344). -/
def turnDirection (band : Int) (dir : Nat) (extreme p : Int) : Nat × Int :=
  if dir = 0 then
    if p < extreme - band then (1, p) else (0, max extreme p)
  else if extreme + band < p then (0, p) else (1, min extreme p)

/-- A count lies in the range of a position (R342). -/
def inRange48 (p : Int) : Bool := decide (-(2 ^ 47) ≤ p ∧ p < 2 ^ 47)

/-- A new count of a channel at time `t`: range, history, speed, direction (R342 to R344). -/
def Dev.takeCount (ch t : Nat) (p : Int) (d : Dev) : Dev :=
  let c := d.chan ch
  if ! inRange48 p then
    (d.setChan ch { c with samples := c.samples + 1 }).setStatus ch fun s => setBit s 6 true
  else
    let still := d.bit (Obj.CHAN_STATUS ch) 7
    let moved := decide (p ≠ c.pos)
    let hist := if still then (if moved then [(t, p)] else []) else ((t, p) :: c.hist).take 65
    let (dir, ext) := turnDirection (d.get Obj.DIR_BAND) (d.get (Obj.CHAN_DIRECTION ch)) c.extreme p
    let c1 := { c with pos := p, prev := if c.samples = 0 then p else c.pos, samples := c.samples + 1, hist := hist,
                       extreme := if c.samples = 0 then p else ext, movedAt := if moved then t else c.movedAt }
    let d1 := ((d.setChan ch c1).puti 32 (Obj.CHAN_SPEED ch) (d.speedOf c1)).put (Obj.CHAN_DIRECTION ch)
      (if c.samples = 0 then d.get (Obj.CHAN_DIRECTION ch) else dir)
    if still ∧ moved then d1.setStatus ch fun s => setBit s 7 false else d1

/-! ### Prediction (R357) -/

/-- The time of the latest sample of the shot source's speed, and the speed estimate v of R357. -/
def Dev.velocity (s : Stripe) (d : Dev) : Int :=
  match (d.chan (d.get Obj.SHOT_SOURCE)).span (d.get Obj.SPEED_WINDOW) d.sourceCounts with
  | some (dt, dp) => max 0 (nearest (d.sign s * dp * 65536) dt)
  | none => 0

/-- MEND_SHOT_RATE (R457). -/
def Dev.mendRate (d : Dev) : Nat := min (d.get Obj.JOB_SHOT_RATE) (46875 * d.get Obj.ADMISSION_SHARE / 2)

/-- The shot rate of a stripe (R357, R457). -/
def Dev.shotRate (s : Stripe) (d : Dev) : Nat := if s.kind = 1 then d.mendRate else d.get Obj.JOB_SHOT_RATE

/-- p_job. -/
def Dev.pJob (s : Stripe) (d : Dev) : Nat := ceilDiv (ceilDiv 1000000000000 (d.shotRate s)) 125 * 125

/-- tol, in 2^−16 counts. -/
def Dev.strobeTol (s : Stripe) (d : Dev) : Int :=
  Map.get (dfltOf Obj.STROBE_TOLERANCE) s.vals Obj.STROBE_TOLERANCE * d.get Obj.PIXEL_PITCH / 65536

/-- r125. -/
def r125 (t : Nat) : Nat := (2 * t + 125) / 250 * 125

/-- crossing(k). -/
def Dev.crossing (s : Stripe) (k : Nat) (d : Dev) : Option Nat :=
  let gap := (d.theta k - d.stage.m) * 65536
  let v := d.velocity s
  if gap ≤ 0 then some d.stage.now
  else if v ≤ 0 then none
  else some (d.stage.now + ((gap + v - 1) / v).toNat)

/-- The strobe before shot `t` of its stripe, and p_job: the earliest instant that R357 allows after it. -/
def Dev.afterPrevious (s : Stripe) (k : Nat) (d : Dev) : Nat :=
  match d.conv.shots.find? fun u => decide (u.uid = s.uid ∧ u.k + 1 = k) with
  | some u => u.strobeAt + d.pJob s
  | none => 0

/-- A launched shot's strobe is refined at a sample (R357). -/
def Dev.refine (s : Stripe) (ssn : Nat) (d : Dev) : Dev :=
  match d.conv.shots.find? fun u => decide (u.ssn = ssn) with
  | none => d
  | some u =>
    if ¬ u.launched ∨ u.struck.isSome ∨ (¬ u.waits ∧ u.strobeAt < d.stage.now + 100000) then d
    else
      match d.crossing s u.k with
      | none => d.onShot ssn fun u => { u with waits := true }
      | some c =>
        let at_ := r125 (max c (max (u.launchAt + d.lead) (d.afterPrevious s u.k)))
        d.onShot ssn fun u => { u with waits := false, strobeAt := at_ }

/-- PACE_SLOW_N follows the speed estimate and the overspeed run (R363). -/
def Dev.pace (d : Dev) : Dev :=
  match d.armedStripe with
  | none => d.put Obj.PACE_SLOW 0
  | some s =>
    let (dt, dp) := ((d.chan (d.get Obj.SHOT_SOURCE)).span (d.get Obj.SPEED_WINDOW) d.sourceCounts).getD (1, 0)
    let speed := dp.natAbs * 1000000000000 * 65536 * 100
    let full := d.shotRate s * d.get Obj.PIXEL_PITCH * dt
    let run := d.stage.run.isSome
    if run ∨ d.get Obj.PACE_ON * full ≤ speed then d.put Obj.PACE_SLOW 1
    else if speed ≤ d.get Obj.PACE_OFF * full then d.put Obj.PACE_SLOW 0
    else d

/-! ### Samples (R345 to R348, R354, R364) -/

/-- The cross-check's difference at a sample of SC0 (R364). -/
def Dev.crossSample (d : Dev) : Dev :=
  match d.crossChannel, d.armedStripe with
  | some c, some _ =>
    if d.get Obj.CROSS_STATE ≠ 1 then d
    else
      let x := (d.chan 0).pos - (d.encCounts (d.chan c).pos + d.stage.offset)
      let n := if (d.get Obj.LIMIT : Int) < x.natAbs then d.stage.disagree + 1 else 0
      (d.puti 32 Obj.DIFFERENCE (clampInt (-2147483648) 2147483647 x)).onStage fun s => { s with disagree := n }
  | _, _ => d

/-- ORIGIN_PASSED, once for a stripe (R353). -/
def Dev.originPassed (s : Stripe) (x : Int) (d : Dev) : Dev :=
  if d.stage.passedFor = s.uid then d
  else
    let v := ofSigned 64 x
    (d.raise srcStage 0x0805 [s.number, v % 2 ^ 32, v / 2 ^ 32]).bump Obj.ORIGINS_PASSED |>.onStage fun g =>
      { g with passedFor := s.uid }

/-- The stripe that is to be armed next, with its progress: it is open, no other stripe's origin is armed, the conveyor
holds no row, the shot source is VALID and the mode lets it shoot (R353). -/
def Dev.toArm (d : Dev) : Option (Stripe × Int) :=
  let shoots := decide (d.mode = .write ∨ d.mode = .mend ∨ d.mode = .hold ∨ d.mode = .measure)
  let ch := d.get Obj.SHOT_SOURCE
  if shoots && d.armedStripe.isNone && d.conveyorEmpty && d.valid ch then
    d.waitingStripe.map fun s => (s, d.progress s (d.sourceCounts (d.chan ch).pos))
  else none

/-- The origin of a stripe that could be armed is passed (R353). -/
def Dev.notePassed (d : Dev) : Dev :=
  match d.toArm with
  | some (s, x) => if 0 ≤ x then d.originPassed s x else d
  | none => d

/-- What a sample of a channel brings beside its count: progress, strobes, pace and cross-check. -/
def Dev.afterSample (ch t : Nat) (d : Dev) : Dev :=
  let d1 := if ch = 0 then d.crossSample else d
  if ch ≠ d1.get Obj.SHOT_SOURCE then d1
  else
    match d1.followed with
    | none => d1.onStage fun g => { g with now := t }
    | some s =>
      let x := d1.progress s (d1.sourceCounts (d1.chan ch).pos)
      let armed := d1.armedStripe.isSome
      let d2 := d1.onStage fun g =>
        { g with now := t, d := x, m := if armed then max g.m x else g.m,
                 reversed := g.reversed && decide (x < g.m - d1.get Obj.DIR_BAND) }
      let d3 := if armed then d2.each (d2.conv.shots.map (·.ssn)) fun ssn d => d.refine s ssn else d2.notePassed
      d3.pace

/-- The leading `n` bits of the phase of a vector, as a fraction of the whole turn: the phase lies in the upper half turn
where the sine is below 0, and the square of the vector has twice the phase (R345, log entry 93). -/
def phaseBits : Nat → Int → Int → Nat
  | 0, _, _ => 0
  | n + 1, c, s =>
    (if s < 0 ∨ (s = 0 ∧ c < 0) then 2 ^ n else 0) + phaseBits n (c * c - s * s) (2 * c * s)

/-- The 14-bit angle of a sample (R345). -/
def phaseAngle (sine cosine : BitVec 16) : Nat := phaseBits 14 cosine.toInt sine.toInt

/-- A converter clips (R346). -/
def clips (x : BitVec 16) : Bool := decide (x = 0x7FFF ∨ x = 0x8000)

/-- The radius lies outside 40 % to 140 % of the nominal 1 Vpp, which is 16,384 converter steps of 30.518 µV (R346, R549). -/
def offRadius (sine cosine : BitVec 16) : Bool :=
  let r := 100 * (sine.toInt * sine.toInt + cosine.toInt * cosine.toInt)
  decide (r < 16 * 16384 * 16384 ∨ 196 * 16384 * 16384 < r)

/-- Consecutive samples outside the window after one more (R346). -/
def Channel.outsideNext (sine cosine : BitVec 16) (c : Channel) : Nat := if offRadius sine cosine then c.outside + 1 else 0

/-- AMPLITUDE after a sample (R346): two samples in a row outside, or a converter clips. -/
def Channel.amplitudeNext (sine cosine : BitVec 16) (c : Channel) : Bool :=
  decide (2 ≤ c.outsideNext sine cosine) || clips sine || clips cosine

/-- A position with the sign that INVERT gives it. -/
def Channel.signed (x : Int) (c : Channel) : Int := if c.inverted then -x else x

/-- Changes the service state. -/
def Dev.onService (f : Service → Service) (d : Dev) : Dev := { d with service := f d.service }

/-- A calibration channel. -/
def Dev.cal (ch : Nat) (d : Dev) : CalChannel := Map.get CalChannel.reset d.service.cal ch

/-- Changes a calibration channel. -/
def Dev.onCal (ch : Nat) (f : CalChannel → CalChannel) (d : Dev) : Dev :=
  d.onService fun s => { s with cal := Map.put CalChannel.reset ch (f (d.cal ch)) s.cal }

/-- The phase has moved through the SC_PERIODS whole periods of a run (R549). -/
def CalSums.complete (periods : Nat) (u : CalSums) : Bool := decide (periods * 16384 ≤ u.travel.natAbs)

/-- One more sample of a run, which moved the phase by `step`. -/
def CalSums.add (x y step : Int) (u : CalSums) : CalSums where
  n := u.n + 1
  x := u.x + x
  y := u.y + y
  xx := u.xx + x * x
  yy := u.yy + y * y
  xy := u.xy + x * y
  travel := u.travel + step

/-- A running calibration of a sine/cosine channel collects a sample (R549): with AMPLITUDE or PHASE_JUMP set the collection
restarts; a channel that does not move collects nothing. -/
def Dev.calCollect (ch : Nat) (x y step : Int) (d : Dev) : Dev :=
  if d.get (Obj.CAL_STATE ch) ≠ 2 then d
  else if d.bit (Obj.CHAN_STATUS ch) 2 || d.bit (Obj.CHAN_STATUS ch) 3 then d.onCal ch fun c => { c with sums := CalSums.zero }
  else if step = 0 ∨ d.mode = .safe ∨ (d.cal ch).sums.complete (d.get Obj.SC_PERIODS) then d
  else d.onCal ch fun c => { c with sums := c.sums.add x y step }

/-- A sample of a sine/cosine channel (R345, R346). -/
def Dev.scSample (ch t : Nat) (sine cosine : BitVec 16) (d : Dev) : Dev :=
  let c := d.chan ch
  let angle := phaseAngle sine cosine
  let step : Int := if c.samples = 0 then angle else toSigned 14 (ofSigned 14 ((angle : Int) - c.angle))
  let bad := c.amplitudeNext sine cosine
  let d1 := (d.setChan ch { c with angle := angle, outside := c.outsideNext sine cosine }).takeCount ch t
    (c.pos + c.signed step)
  let d2 := d1.setStatus ch fun s => if bad then setBit (setBit s 2 true) 8 false else setBit s 2 false
  let d3 := if 4096 < step.natAbs ∧ c.samples ≠ 0 then
      (d2.bump (Obj.CHAN_ERRORS ch)).setStatus ch fun s => setBit (setBit s 3 true) 8 false
    else d2
  d3.calCollect ch sine.toInt cosine.toInt step

/-- A step of A and B, or of the Hall state, that skips one (R347, R348). -/
def Dev.quadFault (ch : Nat) (d : Dev) : Dev :=
  let c := d.chan ch
  let d1 := (d.bump (Obj.CHAN_ERRORS ch)).setStatus ch fun s => setBit (setBit s 4 true) 8 false
  if c.quadAt ≠ 0 ∧ d.clock.raw + 1 < c.quadAt + 1000000 then d1.count 0x0810
  else
    (d1.setChan ch { d1.chan ch with quadAt := d.clock.raw + 1 }).raise srcStage 0x0810 [ch, d1.get (Obj.CHAN_ERRORS ch)]

/-- Place of the levels of A and B in a quadrature cycle; A leads while it rises (PRESUMED, log entry 41). -/
def quadPlace (a b : Bool) : Nat :=
  match a, b with
  | false, false => 0
  | true, false => 1
  | true, true => 2
  | false, true => 3

/-- Place of a Hall state in its cycle (R348); none for 0b000 and 0b111. -/
def hallPlace (state : Nat) : Option Nat := [1, 3, 2, 6, 4, 5].findIdx? (· = state)

/-- The levels of A, B and Z as one number. -/
def levelsOf (a b z : Bool) : Nat := 4 * bit01 z + 2 * bit01 a + bit01 b

/-- The levels that an ENC channel accepts at a sample at `t`: those stable for FILTER + 1 samples of 1 ns (R347); its first
sample is accepted as it is. -/
def Channel.accept (filter t raw : Nat) (c : Channel) : Channel :=
  if c.samples = 0 then { c with raw := raw, levels := raw, since := [t, t, t] }
  else
    let since := (List.range 3).map fun i => if bitAt raw i = bitAt c.raw i then c.since.getD i 0 else t
    let levels := (List.range 3).foldl (fun n i =>
      if since.getD i 0 + 1000 * filter ≤ t then setBit n i (bitAt raw i) else n) c.levels
    { c with raw := raw, levels := levels, since := since }

/-- The place in the quadrature cycle of accepted levels. -/
def placeOf (levels : Nat) : Nat := quadPlace (bitAt levels 1) (bitAt levels 0)

/-- A sample of an ENC channel in quadrature mode (R347): Z gives the index at its rising edge while A and B are high. -/
def Dev.quadSample (ch t raw : Nat) (d : Dev) : Dev :=
  let c := d.chan ch
  let n := c.accept (d.get (Obj.CHAN_FILTER ch)) t raw
  let step := (placeOf n.levels + 4 - placeOf c.levels) % 4
  let move : Int := if c.samples = 0 then 0 else if step = 1 then 1 else if step = 3 then -1 else 0
  let p := c.pos + c.signed move
  let rises := decide (c.samples ≠ 0 ∧ n.levels = 7) && ! bitAt c.levels 2
  let d1 := (d.setChan ch { n with zAt := if rises then some p else n.zAt }).takeCount ch t p
  if step = 2 ∧ c.samples ≠ 0 then d1.quadFault ch else d1

/-- The Hall state of levels: U in bit [2], V in bit [1], W in bit [0] (R348). -/
def hallOf (levels : Nat) : Nat := 4 * bit01 (bitAt levels 1) + 2 * bit01 (bitAt levels 0) + bit01 (bitAt levels 2)

/-- A sample of an ENC channel in Hall mode (R348). -/
def Dev.hallSample (ch t raw : Nat) (d : Dev) : Dev :=
  let c := d.chan ch
  let n := c.accept (d.get (Obj.CHAN_FILTER ch)) t raw
  let state := hallOf n.levels
  match hallPlace state with
  | none =>
    let d1 := (d.setChan ch { n with hall := 0 }).takeCount ch t c.pos
    if d.bit (Obj.CHAN_STATUS ch) 5 then d1
    else (d1.setStatus ch fun s => setBit s 5 true).raise srcStage 0x080F [ch, state]
  | some new =>
    let d1 := d.setChan ch { n with hall := state }
    let step := match hallPlace c.hall with
      | some old => (new + 6 - old) % 6
      | none => 0
    let move : Int := if step = 1 then 1 else if step = 5 then -1 else 0
    let d2 := (d1.takeCount ch t (c.pos + c.signed move)).setStatus ch fun s => setBit s 5 false
    if 2 ≤ step ∧ step ≤ 4 then d2.quadFault ch else d2

/-- POSITION_SAMPLE: a channel's sample at STAGE time `t` in ps. -/
def positionSample (ch t : Nat) (r : Reading) (d0 : Dev) : Dev :=
  if ¬ d0.running then d0
  else
    let d := d0.at (t / 1000)
    let mode := d.get (Obj.CHAN_MODE ch)
    match r with
    | .sincos s c => if ch < 2 ∧ mode = 1 then (d.scSample ch t s c).afterSample ch t else d
    | .levels a b z =>
      if ch < 2 then d
      else if mode = 1 then (d.quadSample ch t (levelsOf a b z)).afterSample ch t
      else if mode = 2 then (d.hallSample ch t (levelsOf a b z)).afterSample ch t
      else d

/-- A reading makes a fault of the channel (R346 to R348): what its sample at `t` leads to. -/
structure Verdict where
  jump : Bool
  skip : Bool
  invalid : Bool
  deriving DecidableEq, Repr

/-- What a reading at `t` leads to. -/
def Dev.verdict (ch t : Nat) (r : Reading) (d : Dev) : Verdict :=
  let c := d.chan ch
  match r with
  | .sincos s x =>
    let step := toSigned 14 (ofSigned 14 ((phaseAngle s x : Int) - (c.angle : Int)))
    { jump := decide (c.samples ≠ 0 ∧ 4096 < step.natAbs), skip := false, invalid := false }
  | .levels a b z =>
    let n := c.accept (d.get (Obj.CHAN_FILTER ch)) t (levelsOf a b z)
    if d.get (Obj.CHAN_MODE ch) = 2 then
      let skip := match hallPlace (hallOf n.levels), hallPlace c.hall with
        | some new, some old => decide (2 ≤ (new + 6 - old) % 6 ∧ (new + 6 - old) % 6 ≤ 4)
        | _, _ => false
      { jump := false, skip := skip, invalid := (hallPlace (hallOf n.levels)).isNone }
    else
      { jump := false, skip := decide (c.samples ≠ 0 ∧ (placeOf n.levels + 4 - placeOf c.levels) % 4 = 2), invalid := false }

/-- PHASE_JUMP: the sample that makes it. -/
def phaseJump (ch t : Nat) (r : Reading) (d : Dev) : Dev :=
  if (d.verdict ch t r).jump then positionSample ch t r d else d

/-- QUAD_ERROR: the sample that makes it. -/
def quadError (ch t : Nat) (r : Reading) (d : Dev) : Dev :=
  if (d.verdict ch t r).skip then positionSample ch t r d else d

/-- HALL_INVALID: a sample in the state 0b000 or 0b111. -/
def hallInvalid (ch t : Nat) (r : Reading) (d : Dev) : Dev :=
  if (d.verdict ch t r).invalid then positionSample ch t r d else d

/-- AMPLITUDE: the sample with which it is set, or with which it clears (R346). -/
def amplitude (ch : Nat) (x : ScSample) (d : Dev) : Dev :=
  if (d.chan ch).amplitudeNext x.sine x.cosine ≠ d.bit (Obj.CHAN_STATUS ch) 2 then
    positionSample ch x.t (.sincos x.sine x.cosine) d
  else d

/-- STANDSTILL (R343). -/
def standstill (ch t : Nat) (d0 : Dev) : Dev :=
  if ¬ d0.running then d0
  else
    let d := d0.at (t / 1000)
    let c := d.chan ch
    if c.movedAt + d.get Obj.STANDSTILL_TIME * 1000000000 ≤ t ∧ d.get (Obj.CHAN_MODE ch) ≠ 0 then
      ((d.setChan ch { c with hist := [] }).put (Obj.CHAN_SPEED ch) 0).setStatus ch fun s => setBit s 7 true
    else d

/-! ### Reference and index (R349, R350) -/

/-- Every position of a channel goes through `f`. -/
def Channel.mapPos (f : Int → Int) (c : Channel) : Channel :=
  { c with pos := f c.pos, prev := f c.prev, extreme := f c.extreme, hist := c.hist.map fun e => (e.1, f e.2) }

/-- The positions of a channel go through `f`, where its position stays in range; else it is held (R342). -/
def Dev.movePos (ch : Nat) (f : Int → Int) (d : Dev) : Dev :=
  let c := d.chan ch
  if inRange48 (f c.pos) then d.setChan ch (c.mapPos f) else d.setStatus ch fun s => setBit s 6 true

/-- INVERT changes: the position is negated (R345). -/
def Dev.invertTo (ch : Nat) (on : Bool) (d : Dev) : Dev :=
  if (d.chan ch).inverted = on then d
  else (d.setChan ch { d.chan ch with inverted := on }).movePos ch fun p => -p

/-- The count expected at an index (R350). -/
def expectedIndex (ref : Int) (spacing : Nat) (count : Int) : Int :=
  if spacing = 0 then ref else ref + (2 * (count - ref) + spacing) / (2 * spacing) * spacing

/-- Referencing at an index with the count latched at it (R349); a position out of range is not taken (R342). -/
def Dev.reference (ch : Nat) (count : Int) (d : Dev) : Dev :=
  let ref := d.geti 64 (Obj.REF_VALUE ch)
  let d1 := d.setChan ch { d.chan ch with arming := false }
  if ! inRange48 ((d1.chan ch).pos + (ref - count)) then d1.setStatus ch fun s => setBit s 6 true
  else
    let d2 := (d1.movePos ch fun p => p + (ref - count)).setStatus ch fun s =>
      setBit (setBit (setBit (setBit (setBit s 9 false) 4 false) 3 false) 6 false) 8 true
    d2.raise srcStage 0x080C [ch, ofSigned 32 ref, ofSigned 64 ref / 2 ^ 32]

/-- An index of a referenced channel: the latched count is compared with the expected one (R350). -/
def Dev.laterIndex (ch : Nat) (count : Int) (d : Dev) : Dev :=
  let diff := count - expectedIndex (d.geti 64 (Obj.REF_VALUE ch)) (d.get (Obj.REF_SPACING ch)) count
  let d1 := d.puti 64 (Obj.LAST_INDEX ch) count
  if diff.natAbs ≤ d.get (Obj.INDEX_TOLERANCE ch) then d1
  else
    let action := d.get Obj.INDEX_ACTION
    let d2 := (d1.setStatus ch fun s => setBit s 9 true).raise srcStage 0x080B [ch, ofSigned 32 diff, action]
    if ch ≠ d.get Obj.SHOT_SOURCE then d2
    else if action = 1 then d2.pendPause
    else if action = 2 then d2.enterSafe 6
    else d2

/-- The count latched at an index edge: `count` from the reference mark of a sine/cosine channel, that of the edge of Z of
an ENC channel in quadrature mode (R347, R349); a Hall channel has no index (R348). -/
def Dev.indexCount (ch : Nat) (count : Int) (d : Dev) : Option Int :=
  if d.get (Obj.CHAN_MODE ch) ≠ 1 then none else if ch < 2 then some count else (d.chan ch).zAt

/-- INDEX (R349, R350): an index edge. -/
def index (ch : Nat) (count : Int) (d0 : Dev) : Dev :=
  if ¬ d0.running then d0
  else
    match d0.indexCount ch count with
    | none => d0
    | some n =>
      let d := d0.setChan ch { d0.chan ch with zAt := none }
      if (d.chan ch).arming then d.reference ch n
      else if d.bit (Obj.CHAN_STATUS ch) 8 then d.laterIndex ch n
      else d

/-- REF_COMMAND (R349). -/
def refCommand (q : Query) (ch v : Nat) (d : Dev) : Answer :=
  let used := decide (ch = d.get Obj.SHOT_SOURCE) || decide (d.crossChannel = some ch)
  let busy := decide (d.mode = .write ∨ d.mode = .mend ∨ d.mode = .hold ∨ d.mode = .measure)
  d.command q 1 v [(.stateForbids, used && busy), (.range, decide (v = 0 ∨ 2 < v))] fun d =>
    d.setChan ch { d.chan ch with arming := decide (v = 1) }

/-! ### Cross-check (R364 to R366) -/

/-- CROSS_DISAGREE (R364, R365). -/
def crossDisagree (d : Dev) : Dev :=
  match d.crossChannel with
  | some c =>
    if d.get Obj.CROSS_STATE = 1 ∧ d.get Obj.SAMPLES ≤ d.stage.disagree ∧ d.valid 0 ∧ d.valid c ∧ d.mode.canSafe then
      (d.raiseJ srcStage 0x0809 d.ssnNext [d.get Obj.DIFFERENCE, c, lo32 d.ssnNext] []).enterSafe 6
    else d
  | none => d

/-- The cross-check's COMMAND (R366). -/
def crossCommand (q : Query) (v : Nat) (d : Dev) : Answer :=
  d.command q 1 v
    [(.stateForbids, decide (d.mode ≠ .setup ∧ d.mode ≠ .ready ∧ d.mode ≠ .service)), (.range, decide (v ≠ 1)),
     (.check, ! d.valid 0)] fun d =>
    (d.put Obj.SHOT_SOURCE 0).when (decide (d.get Obj.CROSS_STATE = 2)) (Dev.put Obj.CROSS_STATE 1)

/-- The cross-check takes its offset at an arming: the value that makes D zero (R353, R364). -/
def Dev.takeOffset (d : Dev) : Dev :=
  match d.crossChannel with
  | some c =>
    if d.get Obj.CROSS_STATE = 1 then
      d.onStage fun s => { s with offset := (d.chan 0).pos - d.encCounts (d.chan c).pos, disagree := 0 }
    else d
  | none => d

/-- A write of the cross-check's CHANNEL (R364). -/
def crossChannelWrite (q : Query) (v : Nat) (d : Dev) : Answer :=
  d.configure q Obj.CHANNEL 1 v
    [(.stateForbids, decide (d.mode ≠ .setup ∧ d.mode ≠ .service)),
     (.resourceBusy, decide (v < 8) && ! d.free? (Obj.ENC_OWNER v) 0x0200),
     (.range, decide (7 < v ∧ v ≠ 0xFF))] fun d =>
    let d1 := d.each (List.range 8) fun n d => d.unclaim (Obj.ENC_OWNER n) 0x0200
    if v < 8 then (d1.claim (Obj.ENC_OWNER v) 0x0200).put Obj.CROSS_STATE 1 else d1.put Obj.CROSS_STATE 0

/-! ### Probes (R367, R371) -/

/-- A probe's state. -/
def Dev.probe (n : Nat) (d : Dev) : Probe :=
  (Map.find d.stage.probes n).getD { queue := [], next := 0, overflowAt := 0 }

/-- Sets a probe's state. -/
def Dev.setProbe (n : Nat) (p : Probe) (d : Dev) : Dev :=
  d.onStage fun s => { s with probes := Map.insert n p s.probes }

/-- PROBE_EDGE (R367): a filtered edge of PRBn; `position` is a sine/cosine source's position at it, interpolated
between samples. -/
def probeEdge (n : Nat) (rising : Bool) (position : Int) (d : Dev) : Dev :=
  let edge := d.get (Obj.EDGE n)
  if ¬ d.running ∨ ¬ bitAt edge (if rising then 0 else 1) then d
  else
    let p := d.probe n
    let src := d.get (Obj.PROBE_SOURCE n)
    let x := if src < 2 then position else (d.chan src).pos
    if p.queue.length < 16 then
      d.setProbe n { p with queue := p.queue ++ [(p.next, x)], next := (p.next + 1) % 2 ^ 32 }
    else
      let d1 := d.bump (Obj.PROBE_OVERFLOWS n)
      if p.overflowAt ≠ 0 ∧ d.clock.raw + 1 < p.overflowAt + 1000000 then d1.count 0x0811
      else
        (d1.setProbe n { p with overflowAt := d.clock.raw + 1 }).raise srcStage 0x0811
          [n, d1.get (Obj.PROBE_OVERFLOWS n)]

/-- A write of NEXT (R367). -/
def probeNext (q : Query) (n v : Nat) (d : Dev) : Answer :=
  d.command q 1 v [(.range, decide (v ≠ 1))] fun d =>
    let p := d.probe n
    d.setProbe n { p with queue := p.queue.drop 1 }

/-! ### Compares (R368 to R371) -/

/-- A compare's output. -/
def Dev.compareOut (n : Nat) (d : Dev) : CompareOut :=
  (Map.find d.stage.compares n).getD { level := false, pulseEnd := none, sample := 0, behind := false }

/-- Sets a compare's output. -/
def Dev.setCompare (n : Nat) (c : CompareOut) (d : Dev) : Dev :=
  d.onStage fun s => { s with compares := Map.insert n c s.compares }

/-- The level of CMPn. -/
def Dev.cmpLevel (n : Nat) (d : Dev) : Bool :=
  let c := d.compareOut n
  match c.pulseEnd with
  | some e => decide (d.clock.raw < e) || c.level
  | none => c.level

/-- CMPn acts (R368): 1 pulse, 2 high, 3 low, 4 toggle. -/
def Dev.cmpAct (n action : Nat) (d : Dev) : Dev :=
  let c := d.compareOut n
  let c1 :=
    if action = 1 then { c with level := false, pulseEnd := some (d.clock.raw + d.get (Obj.PULSE_WIDTH n)) }
    else if action = 2 then { c with level := true, pulseEnd := none }
    else if action = 3 then { c with level := false, pulseEnd := none }
    else if action = 4 then { c with level := ! d.cmpLevel n, pulseEnd := none }
    else c
  d.setCompare n c1

/-- A target is at or behind the position in the direction of a qualifier (R369). -/
def behind (qualifier : Nat) (target pos : Int) : Bool :=
  if qualifier = 1 then decide (target ≤ pos) else if qualifier = 2 then decide (pos ≤ target) else decide (pos = target)

/-- Whole increments that put a target ahead of the position (R370). -/
def increments (inc target pos : Int) : Int :=
  if 0 < inc then (pos - target) / inc + 1 else (target - pos) / (-inc) + 1

/-- A firing: the output acts, and the compare moves on (R368, R370). -/
def Dev.fire (n : Nat) (d : Dev) : Dev :=
  let inc := d.geti 64 (Obj.INCREMENT n)
  let qual := d.get (Obj.QUALIFIER n)
  let pos := (d.chan (d.get (Obj.COMPARE_SOURCE n))).pos
  let d1 := (d.cmpAct n (d.get (Obj.COMPARE_ACTION n))).bump (Obj.HITS n)
  if inc = 0 then d1.put (Obj.COMPARE_STATE n) 3
  else
    let t := d.geti 64 (Obj.COMPARE_TARGET n) + inc
    let d2 := d1.put (Obj.COMPARE_STATE n) 1
    if behind qual t pos then
      let k := increments inc t pos
      let t2 := t + k * inc
      ((d2.puti 64 (Obj.COMPARE_TARGET n) t2).add 32 (Obj.COMPARE_MISSED n) k.toNat).raise srcStage 0x080E
        [n, k.toNat, ofSigned 32 t2]
    else d2.puti 64 (Obj.COMPARE_TARGET n) t

/-- The latest sample of a compare's source passes TARGET in its direction (R368). -/
def Dev.passes (n : Nat) (d : Dev) : Bool :=
  let c := d.chan (d.get (Obj.COMPARE_SOURCE n))
  let t := d.geti 64 (Obj.COMPARE_TARGET n)
  let qual := d.get (Obj.QUALIFIER n)
  let up := decide (c.prev < t ∧ t ≤ c.pos)
  let down := decide (t < c.prev ∧ c.pos ≤ t)
  (decide (qual ≠ 2) && up) || (decide (qual ≠ 1) && down)

/-- COMPARE_FIRE: once for a sample of the source. -/
def compareFire (n : Nat) (d : Dev) : Dev :=
  let c := d.compareOut n
  let seen := (d.chan (d.get (Obj.COMPARE_SOURCE n))).samples
  let st := d.get (Obj.COMPARE_STATE n)
  if (st = 1 ∨ st = 2) ∧ d.get (Obj.COMPARE_ACTION n) ≠ 0 ∧ c.sample ≠ seen ∧ d.passes n then
    (d.setCompare n { c with sample := seen }).fire n
  else d

/-- A write of TARGET or ACTION leaves the compare idle, armed, or behind the position (R369). -/
def Dev.rearm (n : Nat) (d : Dev) : Dev :=
  if d.get (Obj.COMPARE_ACTION n) = 0 then d.put (Obj.COMPARE_STATE n) 0
  else
    let c := d.chan (d.get (Obj.COMPARE_SOURCE n))
    let t := d.geti 64 (Obj.COMPARE_TARGET n)
    let d1 := d.setCompare n { d.compareOut n with sample := c.samples }
    if behind (d.get (Obj.QUALIFIER n)) t c.pos then
      let imm := d.get (Obj.IMMEDIATE n)
      let d2 := (d1.put (Obj.COMPARE_STATE n) 2).raise srcStage 0x080D [n, ofSigned 32 t, ofSigned 32 c.pos, imm]
      if imm = 1 then d2.fire n else d2
    else d1.put (Obj.COMPARE_STATE n) 1

/-- A write of a compare's TARGET or ACTION (R369, R371). -/
def compareWrite (q : Query) (n : Nat) (action : Bool) (v : Nat) (d : Dev) : Answer :=
  if action then
    d.configure q (Obj.COMPARE_ACTION n) 1 v
      [(.resourceBusy, decide (v ≠ 0) && ! d.free? (Obj.COMPARE_OWNER n) 0x0100), (.range, decide (4 < v))] fun d =>
      (if v = 0 then d.unclaim (Obj.COMPARE_OWNER n) 0x0100 else d.claim (Obj.COMPARE_OWNER n) 0x0100).rearm n
  else d.configure q (Obj.COMPARE_TARGET n) 8 v [] (Dev.rearm n)

/-! ### General timers (R372, R373) -/

/-- The owner value of a timer's claims. -/
def Dev.timerOwner (t session : Nat) (d : Dev) : Nat :=
  if d.get (Obj.TIMER_ACTION t) = 2 then 0x0400 + bits (d.get (Obj.ARG t)) 1 0 else 0x0600 + session

/-- A write of a timer's ENABLE (R372, R373). -/
def timerEnable (q : Query) (t v : Nat) (d : Dev) : Answer :=
  let o := d.timerOwner t q.session
  let cmp := Obj.COMPARE_OWNER (bits (d.get (Obj.ARG t)) 1 0)
  let pulse := decide (d.get (Obj.TIMER_ACTION t) = 1)
  let busy := decide (v = 1) && (! d.free? (Obj.TIMER_OWNER t) o || (pulse && ! d.free? cmp o))
  d.configure q (Obj.TIMER_ENABLE t) 1 v [(.resourceBusy, busy), (.range, decide (1 < v))] fun d =>
    if v = 1 then
      ((d.claim (Obj.TIMER_OWNER t) o).when pulse (Dev.claim cmp o)).put (Obj.TIMER_COUNT t) (d.get (Obj.RELOAD t))
        |>.put (Obj.TIMER_STATE t) 1
    else (d.releaseTimer t).put (Obj.TIMER_STATE t) 0

/-- TIMER_EXPIRY (R372): COUNT has reached 0; `axis` carries out an axis command. -/
def timerExpiry (t : Nat) (axis : Nat → Nat → Dev → Dev) (d : Dev) : Dev :=
  if d.get (Obj.TIMER_ENABLE t) ≠ 1 ∨ d.get (Obj.TIMER_COUNT t) ≠ 0 then d
  else
    let arg := d.get (Obj.ARG t)
    let action := d.get (Obj.TIMER_ACTION t)
    let d1 := d.bump (Obj.EXPIRIES t)
    let d2 := if action = 1 then d1.cmpAct (bits arg 1 0) 1 else if action = 2 then axis (bits arg 1 0) (bits arg 15 8) d1
      else d1
    if d.get (Obj.TIMER_PERIODIC t) = 1 then d2.put (Obj.TIMER_COUNT t) (d.get (Obj.RELOAD t))
    else ((d2.releaseTimer t).put (Obj.TIMER_ENABLE t) 0).put (Obj.TIMER_STATE t) 2

/-! ### Reversal (R355) -/

/-- A fall of d below M − DIR_BAND while a stripe shoots, which no event has reported yet. -/
def Dev.reversing (d : Dev) : Bool :=
  match d.armedStripe with
  | some s =>
    decide (1 ≤ s.struck ∧ s.struck < s.shots) && ! d.stage.reversed
      && decide (d.stage.d < d.stage.m - d.get Obj.DIR_BAND)
  | none => false

/-- REVERSAL (R355). -/
def reversal (d : Dev) : Dev :=
  if ¬ d.reversing then d
  else
    let d1 := d.raiseJ srcStage 0x0803 d.ssnNext
      [lo32 d.ssnNext, ofSigned 32 (d.stage.m - d.stage.d), d.mode.code] []
    ((d1.bump Obj.REVERSALS).onStage fun s => { s with reversed := true }).enterHold 4

/-! ### Objects -/

/-- Tests of writes to stage objects (R363, R367, R370, R371, R373). -/
def Dev.stageTests (index sub v : Nat) (d : Dev) : List (Abort × Bool) :=
  if index = 0x6001 ∧ sub = 6 then [(.range, decide (v ≤ d.get Obj.PACE_OFF))]
  else if index = 0x6001 ∧ sub = 7 then [(.range, decide (d.get Obj.PACE_ON ≤ v))]
  else if 0x6010 ≤ index ∧ index ≤ 0x6011 ∧ sub = 1 then [(.range, decide (1 < v))]
  else if 0x6010 ≤ index ∧ index ≤ 0x6011 ∧ sub = 3 then [(.range, decide (v ≠ 0))]
  else if 0x6040 ≤ index ∧ index ≤ 0x6043 ∧ sub = 2 then
    [(.resourceBusy, decide (v ≠ 0) && ! d.free? (Obj.PROBE_OWNER (index - 0x6040)) 0x0100)]
  else if 0x6050 ≤ index ∧ index ≤ 0x6053 ∧ sub = 3 then
    let qual := d.get (Obj.QUALIFIER (index - 0x6050))
    let x := toSigned 64 v
    [(.range, decide (x ≠ 0 ∧ ¬ (qual = 1 ∧ 0 < x) ∧ ¬ (qual = 2 ∧ x < 0)))]
  else if 0x6060 ≤ index ∧ index ≤ 0x606F ∧ sub ≤ 4 then
    [(.stateForbids, decide (d.get (Obj.TIMER_ENABLE (index - 0x6060)) = 1)),
     (.range, decide (sub = 4 ∧ bits v 7 2 ≠ 0))]
  else []

/-- What writes of stage objects do beside storing the value (R371, R375). -/
def Dev.stageWritten (index sub v : Nat) (d : Dev) : Dev :=
  if 0x6010 ≤ index ∧ index ≤ 0x6019 ∧ sub = 1 then d.setStatus (index - 0x6010) id
  else if 0x6010 ≤ index ∧ index ≤ 0x6019 ∧ sub = 2 then d.invertTo (index - 0x6010) (decide (v = 1))
  else if 0x6040 ≤ index ∧ index ≤ 0x6043 ∧ sub = 2 then
    let k := Obj.PROBE_OWNER (index - 0x6040)
    if v = 0 then d.unclaim k 0x0100 else d.claim k 0x0100
  else d

/-- TRIGGER_STATE (0x6002:02). -/
def Dev.triggerState (d : Dev) : Nat :=
  match d.followed with
  | none => 0
  | some s =>
    if ¬ s.armed then 1 else if s.launched = 0 then 2 else if s.launched < s.shots ∧ s.last.isNone then 3 else 4

/-- Objects of 10_stage_position_and_shot_timing that show STAGE's state. -/
def Dev.stageValue (k : Nat) (d : Dev) : Option Nat :=
  if Obj.CHAN_POSITION 0 ≤ k ∧ k ≤ Obj.CHAN_POSITION 9 ∧ k % 256 = 4 then
    some (ofSigned 64 (d.chan ((k - Obj.CHAN_POSITION 0) / 256)).pos)
  else if Obj.PROBE_PENDING 0 ≤ k ∧ k ≤ Obj.LATCH_SEQ 3 then
    let p := d.probe ((k - Obj.PROBE_PENDING 0) / 256)
    if k % 256 = 4 then some p.queue.length
    else if k % 256 = 5 then some (ofSigned 64 ((p.queue.head?.map (·.2)).getD 0))
    else if k % 256 = 6 then some ((p.queue.head?.map (·.1)).getD 0)
    else none
  else if k = Obj.TRIGGER_STATE then some d.triggerState
  else if k = Obj.PROGRESS then some (ofSigned 64 d.stage.m)
  else if k = Obj.NEXT_SHOT then some ((d.armedStripe.map (·.launched)).getD 0)
  else if k = Obj.OVERSPEED then some (bit01 d.stage.run.isSome)
  else none

/-! ### Meanings -/

def execPositionSample (ch : Fin 10) (t : Nat) (r : Reading) (s : State) : Host.Outcome State Fault Refusal :=
  s.next (positionSample ch.val t r)
def execReversal (s : State) : Host.Outcome State Fault Refusal := s.next reversal
def execStandstill (ch : Fin 10) (t : Nat) (s : State) : Host.Outcome State Fault Refusal :=
  s.next (standstill ch.val t)
def execAmplitude (ch : Fin 2) (x : ScSample) (s : State) : Host.Outcome State Fault Refusal :=
  s.next (amplitude ch.val x)
def execPhaseJump (ch : Fin 2) (t : Nat) (r : Reading) (s : State) : Host.Outcome State Fault Refusal :=
  s.next (phaseJump ch.val t r)
def execQuadError (enc : Fin 8) (t : Nat) (r : Reading) (s : State) : Host.Outcome State Fault Refusal :=
  s.next (quadError (2 + enc.val) t r)
def execHallInvalid (enc : Fin 8) (t : Nat) (r : Reading) (s : State) : Host.Outcome State Fault Refusal :=
  s.next (hallInvalid (2 + enc.val) t r)
def execIndex (ch : Fin 10) (count : Int) (s : State) : Host.Outcome State Fault Refusal := s.next (index ch.val count)
def execRefArm (r : Req) (ch : Fin 10) (s : State) : Host.Outcome State Fault Refusal :=
  let q := r.write (0x6010 + ch.val) 8
  s.next (Dev.serveCommand q (refCommand q ch.val 1))
def execRefCancel (r : Req) (ch : Fin 10) (s : State) : Host.Outcome State Fault Refusal :=
  let q := r.write (0x6010 + ch.val) 8
  s.next (Dev.serveCommand q (refCommand q ch.val 2))
def execCrossDisagree (s : State) : Host.Outcome State Fault Refusal := s.next crossDisagree
def execReturnToSc0 (r : Req) (s : State) : Host.Outcome State Fault Refusal :=
  s.next (Dev.serveCommand (r.write 0x6030 7) (crossCommand (r.write 0x6030 7) 1))
def execProbeEdge (probe : Fin 4) (rising : Bool) (position : Int) (s : State) : Host.Outcome State Fault Refusal :=
  s.next (probeEdge probe.val rising position)
def execProbeNext (r : Req) (probe : Fin 4) (s : State) : Host.Outcome State Fault Refusal :=
  let q := r.write (0x6040 + probe.val) 7
  s.next (Dev.serveCommand q (probeNext q probe.val 1))
def execCompareFire (compare : Fin 4) (s : State) : Host.Outcome State Fault Refusal := s.next (compareFire compare.val)
def execCompareBehind (r : Req) (compare : Fin 4) (action : Bool) (value : Word64) (s : State) :
    Host.Outcome State Fault Refusal :=
  let q := r.write (0x6050 + compare.val) (if action then 5 else 2)
  let v := if action then value.toNat % 256 else value.toNat
  s.next (Dev.serveCommand q (compareWrite q compare.val action v))
def execTimerEnable (r : Req) (timer : Fin 16) (on : Bool) (s : State) : Host.Outcome State Fault Refusal :=
  let q := r.write (0x6060 + timer.val) 5
  s.next (Dev.serveCommand q (timerEnable q timer.val (bit01 on)))

end Sys2Proof.Machine
end

