-- ==== Sys2Proof/Machine/Servo.lean ====
section
/-!
DEFINITION. Sys2Proof/Machine/Servo.lean: the tracking servo (11_tracking_servo, R376 to R402).
-/
namespace Sys2Proof.Machine

/-- Changes the servo. -/
def Dev.onServo (f : Servo → Servo) (d : Dev) : Dev := { d with servo := f d.servo }

/-- An axis of the servo. -/
def Servo.axis (a : Nat) (s : Servo) : ServoAxis := if a = 0 then s.axis0 else s.axis1

/-- Sets an axis of the servo. -/
def Servo.setAxis (a : Nat) (x : ServoAxis) (s : Servo) : Servo :=
  if a = 0 then { s with axis0 := x } else { s with axis1 := x }

/-- Changes an axis of the servo. -/
def Dev.onAxis (a : Nat) (f : ServoAxis → ServoAxis) (d : Dev) : Dev :=
  d.onServo fun s => s.setAxis a (f (s.axis a))

/-! ### Numbers (R385) -/

def sat40 (x : Int) : Int := clampInt (-(2 ^ 39)) (2 ^ 39 - 1) x
def sat24 (x : Int) : Int := clampInt (-8388608) 8388607 x
def sat32 (x : Int) : Int := clampInt (-2147483648) 2147483647 x

/-- shift(p, sh). -/
def shiftI (p sh : Int) : Int :=
  sat40 (if 0 < sh then (p + 2 ^ (sh - 1).toNat) / 2 ^ sh.toNat else p * 2 ^ (-sh).toNat)

/-- term(c, ec, x, es). -/
def termI (c ec x es : Int) : Int := shiftI (c * x) (15 - ec - es)

/-- A saturating sum, formed from the left. -/
def sumI : List Int → Int
  | [] => 0
  | x :: xs => xs.foldl (fun a b => sat40 (a + b)) x

/-- renorm(): the states, the exponent, and whether they were saturated. -/
def renorm (s : List Int) (es : Nat) : Nat → List Int × Nat × Bool
  | 0 =>
    let t := s.map fun x => shiftI x es
    if t.all fun x => decide (-8388608 ≤ x ∧ x ≤ 8388607) then (t, 0, false) else (t.map sat24, 0, true)
  | f + 1 =>
    let t := s.map fun x => shiftI x ((es : Int) - (f + 1 : Nat))
    if t.all fun x => decide (-8388608 ≤ x ∧ x ≤ 8388607) then (t, f + 1, false) else renorm s es f

/-! ### Settings in use (R390) -/

/-- An RW-L number of a set of values, unsigned and signed. -/
def setting (vals : Map Nat) (k : Nat) : Nat := Map.get (dfltOf k) vals k
def settingI (vals : Map Nat) (w k : Nat) : Int := toSigned w (setting vals k)

/-- An RW-L table of a set of values. -/
def Dev.table (tabs : Map (List Byte)) (k n : Nat) (d : Dev) : List Byte :=
  match Map.get [] tabs k with
  | [] => d.dfltBytes k n
  | b => b

/-- Gains of a region (R402): KP, KI, KD, KFF, EC. -/
structure Gains where
  kp : Int
  ki : Int
  kd : Int
  kff : Int
  ec : Int
  deriving DecidableEq

/-- The gains of region `g` of axis `a` in a set of tables. -/
def Dev.gainsOf (tabs : Map (List Byte)) (a g : Nat) (d : Dev) : Gains :=
  let b := d.table tabs (Obj.REGION_GAINS a g) 10
  { kp := sfield b 0 2, ki := sfield b 2 2, kd := sfield b 4 2, kff := sfield b 6 2, ec := sfield b 8 1 }

/-- The RW-L values that the next update uses: those of the armed stripe, with no stripe in progress those in effect,
else those in use. -/
def Dev.servoSettings (d : Dev) : Map Nat × Map (List Byte) :=
  match d.armedStripe with
  | some s => (s.vals, s.tabs)
  | none => if d.stripes.isEmpty then (d.eff, d.effBlobs) else (d.servo.vals, d.servo.tabs)

/-- Both memories of an axis are cleared (R395): cause 1 command, 2 PERIOD or EXPONENT, 3 reset. -/
def Dev.rcClear (a cause : Nat) (d : Dev) : Dev :=
  (d.onServo fun s => { s with rc := s.rc.filter fun e => e.1 / 16384 ≠ a }).raise srcStage 0x0906 [a, cause]

/-- STATE_SATURATED, at most once per millisecond for each axis (R386). -/
def Dev.saturated (a stage : Nat) (d : Dev) : Dev :=
  let d1 := d.bump Obj.SATURATIONS
  let at_ := (d.servo.axis a).satAt
  if at_ ≠ 0 ∧ d.clock.raw + 1 < at_ + 1000000 then d1.count 0x0905
  else (d1.onAxis a fun x => { x with satAt := d.clock.raw + 1 }).raise srcStage 0x0905 [a, stage]

/-- p(r) of R389. -/
def Gains.direct (r : Gains) (e de v : Int) (es : Nat) : List Int :=
  [termI r.kp r.ec e es, termI r.kd r.ec de es, termI r.kff r.ec v es]

/-- The integrator is replaced at a change of gains (R389). -/
def Dev.bumpless (a : Nat) (old new : Gains) (e de v : Int) (d : Dev) : Dev :=
  let x := d.servo.axis a
  let t := sumI [x.i, sumI (old.direct e de v x.es), -(sumI (new.direct e de v x.es))]
  let (l, es, sat) := renorm [t] x.es 16
  (d.onAxis a fun x => { x with i := l.headD 0, es := es }).when sat (Dev.saturated a 0)

/-! ### The update (R377 to R397) -/

/-- What an update starts from. -/
structure Instant where
  /-- The instant on the STAGE time base, ps. -/
  t : Nat
  /-- The raw errors ε of axis 0 and the source position of axis 1, 1/256 count. -/
  eps0 : Int
  cross : Int
  /-- The shot whose strobe it is, with σ, for a strobe-synchronous update. -/
  shot : Option (Nat × Int)

/-- The position channel of an axis (R376). -/
def Dev.servoChannel (a : Nat) (d : Dev) : Nat := if a = 0 then d.get Obj.SHOT_SOURCE else d.get (Obj.SERVO_SOURCE 1)

/-- v of an axis: the speed of its source; axis 0 times σ of the stripe whose progress STAGE follows (R352, R385). -/
def Dev.servoSpeed (a : Nat) (p : Instant) (d : Dev) : Int :=
  let v := d.geti 32 (Obj.CHAN_SPEED (d.servoChannel a))
  let sg : Int := match p.shot, d.followed with
    | some (_, sg), _ => sg
    | none, some s => d.sign s
    | none, none => 1
  sat24 (if a = 0 then sg * v else v)

/-- The region at |v| (R387). -/
def Dev.regionOf (vals : Map Nat) (tabs : Map (List Byte)) (g v : Nat) (d : Dev) : Nat :=
  let b := d.table tabs Obj.VBAND 28
  let band (j : Nat) : Nat := if j = 0 then 0 else field b (4 * (j - 1)) 4
  let h := setting vals Obj.VBAND_HYST
  match ((List.range 8).reverse.find? fun j => decide (g < j ∧ band j ≤ v)) with
  | some j => j
  | none =>
    if (v : Int) < (band g : Int) - h then
      ((List.range g).reverse.find? fun j => decide (j = 0 ∨ (band j : Int) - h ≤ v)).getD 0
    else g

/-- One biquad of an axis (R385). -/
def Dev.biquad (a b : Nat) (tabs : Map (List Byte)) (x : Int) (d : Dev) : Int × Dev :=
  let q := d.table tabs (Obj.BIQUAD a b) 12
  let c (n : Nat) : Int := sfield q (2 * n) 2
  let ec := sfield q 10 1
  let (z1, z2, es) := (d.servo.axis a).bq.getD b (0, 0, 16)
  let y := sat24 (shiftI (sumI [termI (c 0) ec x es, z1]) es)
  let n1 := sumI [termI (c 1) ec x es, -(termI (c 3) ec y es), z2]
  let n2 := sumI [termI (c 2) ec x es, -(termI (c 4) ec y es)]
  let (l, f, sat) := renorm [n1, n2] es 16
  (y, (d.onAxis a fun s => { s with bq := s.bq.set b (l.headD 0, l.getD 1 0, f) }).when sat (Dev.saturated a (b + 1)))

/-- The learning memory of an axis (R391): memory 0 for σ = +1. -/
def rcKey (a : Nat) (sg i : Int) : Nat := 8192 * (2 * a + if sg = 1 then 0 else 1) + i.toNat

/-- The index of a strobe-synchronous update (R391). -/
def Dev.rcIndex (vals : Map Nat) (a k : Nat) (sg : Int) (d : Dev) : Int :=
  let o := (d.armedStripe.map (·.origin)).getD 0
  let big := o * 65536 / d.get Obj.PIXEL_PITCH + sg * k
  big / setting vals Obj.UPDATE_DIVISOR % setting vals (Obj.PERIOD a)

/-- The output of the repetitive controller (R393). -/
def Dev.rcOut (vals : Map Nat) (a : Nat) (sg i : Int) (d : Dev) : Int :=
  let p := setting vals (Obj.PERIOD a)
  let m := Map.get 0 d.servo.rc (rcKey a sg ((i + sg * setting vals (Obj.PHASE_LEAD a)) % p))
  sat24 (shiftI m (setting vals (Obj.EXPONENT a)))

/-- The repetitive controller learns (R393). -/
def Dev.rcLearn (vals : Map Nat) (a : Nat) (sg i e : Int) (d : Dev) : Dev :=
  let p : Int := setting vals (Obj.PERIOD a)
  let co := setting vals (Obj.COEFFS a)
  let eq := toSigned 8 (bits co 55 48)
  let m (j : Int) : Int := Map.get 0 d.servo.rc (rcKey a sg (j % p))
  let qa := toSigned 16 (bits co 15 0)
  let qb := toSigned 16 (bits co 31 16)
  let l := toSigned 16 (bits co 47 32)
  let acc := sumI [termI qa eq (m (i - 1)) 0, termI qb eq (m i) 0, termI qa eq (m (i + 1)) 0,
    termI l eq e (setting vals (Obj.EXPONENT a))]
  let d1 := d.onServo fun s => { s with rc := Map.put 0 (rcKey a sg (i % p)) (sat24 acc) s.rc }
  (d1.when (decide (sat24 acc ≠ acc)) (Dev.saturated a 5)).add 64 (Obj.LEARN_UPDATES a) 1

/-- CRC-8 of a deflection frame (R382). -/
def crc8 (b : List Byte) : Nat :=
  b.foldl (fun c x => (List.range 8).foldl (fun c _ => if 128 ≤ c then (c * 2 % 256) ^^^ 7 else c * 2) (c ^^^ x.toNat)) 0

/-- The six and the four bits of 8b/10b for values 0 to 31 and 0 to 7, first bit highest, at negative running disparity (R382;
PRESUMED, log entry 99: the code is the standard one; unsafe). -/
def code6 : List Nat :=
  [0x27, 0x1D, 0x2D, 0x31, 0x35, 0x29, 0x19, 0x38, 0x39, 0x25, 0x15, 0x34, 0x0D, 0x2C, 0x1C, 0x17,
   0x1B, 0x23, 0x13, 0x32, 0x0B, 0x2A, 0x1A, 0x3A, 0x33, 0x26, 0x16, 0x36, 0x0E, 0x2E, 0x1E, 0x2B]
def code4 : List Nat := [0xB, 0x9, 0x5, 0xC, 0xD, 0xA, 0x6, 0xE]

/-- `n` bits of a code, first bit first, complemented where `flip` holds. -/
def codeBits (n v : Nat) (flip : Bool) : List Bool := (List.range n).map fun i => bitAt v (n - 1 - i) != flip

/-- The ones of a code exceed its zeros. -/
def unbalanced (n v : Nat) : Bool := decide (2 * ((List.range n).countP fun i => bitAt v i) ≠ n)

/-- A data character in 8b/10b at running disparity `rd` (set: positive): its ten bits and the disparity after. -/
def dataChar (rd : Bool) (c : Byte) : List Bool × Bool :=
  let x := c.toNat % 32
  let y := c.toNat / 32
  let v := code6.getD x 0
  let rd1 := rd != unbalanced 6 v
  let alt := decide (y = 7) && ((! rd1 && [17, 18, 20].contains x) || (rd1 && [11, 13, 14].contains x))
  let w := if alt then 0x7 else code4.getD y 0
  (codeBits 6 v (rd && (unbalanced 6 v || decide (x = 7))) ++ codeBits 4 w (rd1 && (unbalanced 4 w || decide (y = 3))),
   rd1 != unbalanced 4 w)

/-- The control characters K28.1 and K28.5. -/
def controlChar (rd : Bool) (y : Nat) : List Bool × Bool :=
  (codeBits 10 (if y = 1 then 0x0F9 else 0x0FA) rd, ! rd)

/-- The characters after a first one. -/
def codeChars (s : List Bool × Bool) (b : List Byte) : List Bool × Bool :=
  b.foldl (fun s c => let r := dataChar s.2 c; (s.1 ++ r.1, r.2)) s

/-- The 70 bits of a deflection frame from running disparity `rd` on: K28.1 and six data characters (R382). -/
def deflBits (rd : Bool) (chars : List Byte) : List Bool × Bool := codeChars (controlChar rd 1) chars

/-- What the link sends between frames, repeated: K28.5 followed by D16.2 (R382). -/
def deflIdle (rd : Bool) : List Bool × Bool := codeChars (controlChar rd 5) [0x50]

/-- A frame leaves on the axis's link (R382, R383). -/
def Dev.sendDefl (a : Nat) (code : Int) (enabled oor timer : Bool) (d : Dev) : Dev :=
  let flags := 128 * a + 64 * bit01 enabled + 32 * bit01 oor + 16 * bit01 timer
  let b := le 3 (ofSigned 24 code) ++ le 1 (d.servo.axis a).seq ++ le 1 flags
  ((d.send (.defl a (b ++ le 1 (crc8 b)))).onAxis a fun x => { x with seq := (x.seq + 1) % 256, u := code }).puti 32
    (Obj.SVSTAT_CODE a) code

/-- The axis is out of range at the update (R396, R397, R399). -/
def Dev.outOfRange (a cause : Nat) (code : Int) (t : Nat) (d : Dev) : Dev :=
  let writing := decide (d.mode = .write ∨ d.mode = .mend)
  let x := d.servo.axis a
  let n := if writing then x.out + 1 else 0
  let openRun := x.runs.any fun r => r.until_.isNone
  let run : DeflRun :=
    { from_ := t + 300000, until_ := none, cause := cause, code := code, reported := false, blanked := 0 }
  let d1 := (d.bump Obj.OOR_UPDATES).onAxis a fun x =>
    { x with out := n, inRange := 0, runs := if openRun then x.runs else x.runs ++ [run] }
  let limit := d.get Obj.OOR_PAUSE
  if writing ∧ limit ≠ 0 ∧ limit ≤ n then d1.pendPause else d1

/-- The axis is in range at the update (R397). -/
def Dev.inRangeAt (a t : Nat) (d : Dev) : Dev :=
  let x := d.servo.axis a
  let n := x.inRange + 1
  let close (r : DeflRun) : DeflRun :=
    if r.until_.isNone ∧ d.get Obj.RECOVER ≤ n then { r with until_ := some (t + 300000) } else r
  d.onAxis a fun x => { x with out := 0, inRange := n, runs := x.runs.map close }

/-- The exponents of an axis as 0x6850 + a:06 packs them. -/
def ServoAxis.exponents (x : ServoAxis) : Nat :=
  x.bq.zipIdx.foldl (fun n q => n + q.1.2.2 * 2 ^ (5 * (q.2 + 1))) x.es

/-- An enabled axis whose source is VALID computes its code (R377 to R389, R393, R394). -/
def Dev.servoCompute (a : Nat) (old new : Gains) (vals : Map Nat) (tabs : Map (List Byte)) (p : Instant) (d : Dev) :
    Dev :=
  let x := d.servo.axis a
  let slew : Int := setting vals (Obj.SLEW a)
  let w := x.w + clampInt (-slew) slew (settingI vals 32 (Obj.SETPOINT a) - x.w)
  let center := x.center.getD p.cross
  let eps := if a = 0 then sat32 p.eps0 else sat32 (center - p.cross)
  let g := shiftI (settingI vals 16 (Obj.MODEL_GAIN a) * x.u) (15 - settingI vals 8 (Obj.MODEL_EXP a))
  let raw := eps + w - g
  let e := sat24 raw
  let esat := decide (e ≠ raw)
  let de := sat24 (e - x.ePrev)
  let v := d.servoSpeed a p
  let hold := x.wasClamped || esat
  let d1 := d.onAxis a fun x => { x with w := w, ePrev := e, center := some center }
  let d2 := if old = new then d1 else d1.bumpless a old new e de v
  let x2 := d2.servo.axis a
  let ai := if hold then x2.i else sumI [x2.i, termI new.ki new.ec e x2.es]
  let acc := sumI [termI new.kp new.ec e x2.es, ai, termI new.kd new.ec de x2.es, termI new.kff new.ec v x2.es]
  let y0 := sat24 (shiftI acc x2.es)
  let (l, es, sat) := renorm [ai] x2.es 16
  let d3 := (d2.onAxis a fun x => { x with i := l.headD 0, es := es }).when sat (Dev.saturated a 0)
  let (y, d4) := (List.range 4).foldl (fun (s : Int × Dev) b => s.2.biquad a b tabs s.1) (y0, d3)
  let mode := d.get (Obj.RC_MODE a)
  let i := match p.shot with
    | some (k, sg) => d.rcIndex vals a k sg
    | none => 0
  let urc := match p.shot with
    | some (_, sg) => if mode = 0 then 0 else d.rcOut vals a sg i
    | none => 0
  let t := sat40 (y + urc)
  let lo := d.geti 32 (Obj.LIMIT_LO a)
  let hi := d.geti 32 (Obj.LIMIT_HI a)
  let guard : Int := d.get (Obj.GUARD a)
  let u := clampInt lo hi t
  let oor := decide (u < lo + guard ∨ hi - guard < u)
  let learn := decide (mode = 2) && !esat && !x.wasClamped && !oor && d.stage.run.isNone
  let d5 := match p.shot with
    | some (_, sg) => (d4.put (Obj.RC_INDEX a) i.toNat).when learn (Dev.rcLearn vals a sg i e)
    | none => d4
  let clamp : Clamped := { effect := p.t + 300000, frameEnd := p.t + 376000, code := t, reported := false }
  let d6 := d5.onAxis a fun x =>
    { x with wasClamped := decide (u ≠ t), clamps := if u = t then x.clamps else x.clamps ++ [clamp] }
  let d7 := if oor then d6.outOfRange a 1 u p.t else d6.inRangeAt a p.t
  let peak := if p.shot.isSome ∧ d7.get (Obj.SVSTAT_MAX_ERROR a) < e.natAbs then e.natAbs
    else d7.get (Obj.SVSTAT_MAX_ERROR a)
  let d8 := ((d7.puti 32 (Obj.ERROR a) e).put (Obj.SVSTAT_MAX_ERROR a) peak).puti 32 (Obj.SETPOINT_NOW a) w
  let st := if oor then 3 else if p.shot.isSome then 2 else 1
  ((d8.put (Obj.SVSTAT_STATE a) st).put (Obj.EXPONENTS a) (d8.servo.axis a).exponents).sendDefl a u true oor
    p.shot.isNone

/-- An axis at an update (R383, R390, R395, R396). -/
def Dev.servoAxisUpdate (a region : Nat) (oldVals : Map Nat) (oldTabs : Map (List Byte)) (p : Instant) (d : Dev) : Dev :=
  let vals := d.servo.vals
  let tabs := d.servo.tabs
  let was := setting oldVals (Obj.SERVO_ENABLE a)
  let changed := decide (setting oldVals (Obj.PERIOD a) ≠ setting vals (Obj.PERIOD a)
    ∨ setting oldVals (Obj.EXPONENT a) ≠ setting vals (Obj.EXPONENT a))
  let d1 := d.when changed (Dev.rcClear a 2)
  if setting vals (Obj.SERVO_ENABLE a) = 0 then
    let d2 := d1.onAxis a fun x => { ServoAxis.reset with seq := x.seq, w := x.w, satAt := x.satAt, runs := x.runs.map fun r =>
      if r.until_.isNone then { r with until_ := some (p.t + 300000) } else r }
    ((d2.put (Obj.SVSTAT_STATE a) 0).put (Obj.EXPONENTS a) (d2.servo.axis a).exponents).sendDefl a 0 false false
      p.shot.isNone
  else
    let d2 := if was = 0 ∧ ¬ (d.armedStripe.isSome) then d1.onAxis a fun x => { x with center := none } else d1
    if a = 1 ∧ ¬ d2.valid (d2.servoChannel 1) then
      let u := (d2.servo.axis 1).u
      ((d2.outOfRange 1 2 u p.t).put (Obj.SVSTAT_STATE 1) 3).sendDefl 1 u true true p.shot.isNone
    else
      let old := d2.gainsOf oldTabs a d.servo.region
      let new := d2.gainsOf tabs a region
      d2.servoCompute a old new vals tabs p

/-- An update of both axes. -/
def Dev.servoUpdate (p : Instant) (d : Dev) : Dev :=
  let (vals, tabs) := d.servoSettings
  let (oldVals, oldTabs) := (d.servo.vals, d.servo.tabs)
  let d1 := d.onServo fun s => { s with vals := vals, tabs := tabs, last := p.t }
  let on := decide (setting vals (Obj.SERVO_ENABLE 0) = 1 ∨ setting vals (Obj.SERVO_ENABLE 1) = 1)
  let g := d.servo.region
  let v := (d.geti 32 (Obj.CHAN_SPEED (d.get Obj.SHOT_SOURCE))).natAbs
  let g2 := if on then d1.regionOf vals tabs g v else g
  let d2 := (d1.servoAxisUpdate 0 g2 oldVals oldTabs p).servoAxisUpdate 1 g2 oldVals oldTabs p
  let d3 := ((d2.onServo fun s => { s with region := g2 }).put (Obj.REGION 0) g2).put (Obj.REGION 1) g2
  if g = g2 then d3 else (d3.bump Obj.REGION_SWITCHES).raise srcStage 0x0904 [g, g2, v, lo32 d3.ssnNext]

/-- UPDATE_DIVISOR in use at the next update. -/
def Dev.divisor (d : Dev) : Nat := setting d.servoSettings.1 Obj.UPDATE_DIVISOR

/-- The strobe of shot `k` of stripe `s` at `t` ps, with the error e of R359 in 1/256 count: a strobe-synchronous update
where k mod D = 0 (R380). -/
def Dev.servoStrobe (s : Stripe) (k t : Nat) (e cross : Int) (d : Dev) : Dev :=
  if k % d.divisor = 0 then d.servoUpdate { t := t, eps0 := -e, cross := cross, shot := some (k, d.sign s) } else d

/-- T_idle in ps (R380). -/
def Dev.idlePeriod (d : Dev) : Nat := ceilDiv (ceilDiv (1000000000 * d.divisor) (d.get Obj.JOB_SHOT_RATE)) 4 * 4000

/-- Strobe-synchronous updates are made (R380). -/
def Dev.strobing (d : Dev) : Bool :=
  match d.armedStripe with
  | some s => decide (1 ≤ s.struck)
  | none => false

/-- SERVO_TIMER_UPDATE (R380). -/
def servoTimerUpdate (t : Nat) (cross : Int) (d0 : Dev) : Dev :=
  if ¬ d0.running ∨ d0.strobing then d0
  else
    let d := d0.at (t / 1000)
    if d.servo.last + d.idlePeriod ≤ t then d.servoUpdate { t := t, eps0 := 0, cross := cross, shot := none } else d

/-- An origin is armed: C of axis 1 is the present position of its source (R377). -/
def Dev.servoArm (d : Dev) : Dev :=
  d.onAxis 1 fun x => { x with center := some (256 * (d.chan (d.servoChannel 1)).pos) }

/-! ### Shots (R397, R398, R400) -/

/-- The servo blanks a shot launched at `l` ps. -/
def Dev.servoBlanks (l : Nat) (d : Dev) : Bool :=
  (d.servo.axis0.runs ++ d.servo.axis1.runs).any fun r =>
    decide (r.from_ ≤ l) && match r.until_ with
      | some c => decide (l < c)
      | none => true

/-- Runs of an axis at the launch of shot `ssn` at `l` ps: a run that has ended is recorded with its first shot not
blanked, a run that begins with its first shot blanked. -/
def Dev.servoLaunchAxis (a l ssn : Nat) (d : Dev) : Dev :=
  let rs := (d.servo.axis a).runs
  let ended (r : DeflRun) : Bool := r.until_.any fun c => decide (c ≤ l)
  let d1 := d.each (rs.filter fun r => ended r && r.reported) fun r d =>
    d.raiseJ srcStage 0x0902 ssn [a, r.blanked, lo32 ssn, hi16 ssn] []
  let d2 := d1.each (rs.filter fun r => ! ended r && ! r.reported && decide (r.from_ ≤ l)) fun r d =>
    d.raiseJ srcStage 0x0901 ssn [a + 256 * r.cause, ofSigned 32 r.code, lo32 ssn, hi16 ssn] []
  let step (r : DeflRun) : Option DeflRun :=
    if ended r then none else if r.from_ ≤ l then some { r with reported := true, blanked := r.blanked + 1 } else some r
  d2.onAxis a fun x => { x with runs := x.runs.filterMap step }

/-- The launch of shot `ssn` at `l` ps, as the servo sees it. -/
def Dev.servoLaunch (l ssn : Nat) (d : Dev) : Dev :=
  let d1 := d.when (d.servoBlanks l) fun d => d.add 64 Obj.SHOTS_BLANKED 1
  (d1.servoLaunchAxis 0 l ssn).servoLaunchAxis 1 l ssn

/-- The strobe at `t` ps of a shot launched at `l` without BLANK: an update that was clamped makes it uncertain
(R398). -/
def Dev.servoSaturation (a : Nat) (ssn l t : Nat) (mark : Dev → Dev) (d : Dev) : Dev :=
  let covers (c : Clamped) : Bool := decide (l < c.effect ∧ c.frameEnd < t)
  let cs := (d.servo.axis a).clamps
  let d1 := d.each (cs.filter covers) fun c d =>
    let d2 := (mark d).bump Obj.SHOTS_UNCERTAIN
    if c.reported then d2 else d2.raiseJ srcStage 0x0903 ssn [a, ofSigned 32 c.code, lo32 ssn, hi16 ssn] []
  let keep (c : Clamped) : Option Clamped :=
    if covers c then some { c with reported := true } else if c.effect ≤ l then none else some c
  d1.onAxis a fun x => { x with clamps := x.clamps.filterMap keep }

/-! ### Objects (R376, R388, R392, R395, R396, R402) -/

/-- COEFFS that R392 refuses. -/
def coeffsBad (v : Nat) : Bool :=
  let eq := toSigned 8 (bits v 55 48)
  let qa := (toSigned 16 (bits v 15 0)).natAbs
  let qb := (toSigned 16 (bits v 31 16)).natAbs
  let l := toSigned 16 (bits v 47 32)
  let scale (n : Nat) : Bool := if 0 ≤ eq then decide (32768 < n * 2 ^ eq.toNat) else decide (32768 * 2 ^ (-eq).toNat < n)
  decide (2 ^ 56 ≤ v ∨ eq < -16 ∨ 15 < eq ∨ l ≤ 0) || scale (2 * qa + qb) || scale l.toNat

/-- Tests of writes to servo objects. -/
def Dev.servoTests (index sub v : Nat) (d : Dev) : List (Abort × Bool) :=
  if index = 0x6811 ∧ sub = 2 then
    [(.resourceBusy, decide (2 ≤ v ∧ v ≤ 9) && ! d.free? (Obj.ENC_OWNER (v - 2)) 0x0301),
     (.range, decide (v = 0 ∨ 9 < v))]
  else if 0x6810 ≤ index ∧ index ≤ 0x6811 ∧ 7 ≤ sub then
    let a := index - 0x6810
    let lo := if sub = 7 then toSigned 32 v else d.geti 32 (Obj.LIMIT_LO a)
    let hi := if sub = 8 then toSigned 32 v else d.geti 32 (Obj.LIMIT_HI a)
    let g : Int := if sub = 9 then v else d.get (Obj.GUARD a)
    [(.range, decide (hi - g ≤ lo + g ∨ lo < -8388608 ∨ 8388607 < lo ∨ hi < -8388608 ∨ 8388607 < hi))]
  else if 0x6840 ≤ index ∧ index ≤ 0x6841 ∧ sub = 2 then
    [(.range, decide (v ≤ d.get (Obj.PHASE_LEAD (index - 0x6840))))]
  else if 0x6840 ≤ index ∧ index ≤ 0x6841 ∧ sub = 3 then [(.range, decide (d.get (Obj.PERIOD (index - 0x6840)) ≤ v))]
  else if 0x6840 ≤ index ∧ index ≤ 0x6841 ∧ sub = 4 then [(.range, coeffsBad v)]
  else []

/-- What writes of servo objects do beside storing the value: the claim of axis 1's source (R376). -/
def Dev.servoWritten (index sub v : Nat) (d : Dev) : Dev :=
  if index = 0x6811 ∧ sub = 2 then
    let d1 := d.each (List.range 8) fun n d => d.unclaim (Obj.ENC_OWNER n) 0x0301
    if 2 ≤ v then d1.claim (Obj.ENC_OWNER (v - 2)) 0x0301 else d1
  else d

/-- Byte objects of the servo whose value is refused with RANGE (R388, R395, R402). -/
def servoBytesBad (k : Nat) (b : List Byte) : Bool :=
  let exp (n : Nat) : Bool := decide (sfield b n 1 < -16 ∨ 15 < sfield b n 1)
  if k = Obj.VBAND then (List.range 6).any fun j => decide (field b (4 * (j + 1)) 4 ≤ field b (4 * j) 4)
  else if Obj.REGION_GAINS 0 0 ≤ k ∧ k ≤ Obj.REGION_GAINS 1 7 then exp 8 || decide (field b 9 1 ≠ 0)
  else if Obj.BIQUAD 0 0 ≤ k ∧ k ≤ Obj.BIQUAD 1 3 then exp 10 || decide (field b 11 1 ≠ 0)
  else if Obj.RC_MEMORY 0 ≤ k ∧ k ≤ Obj.RC_MEMORY 3 then
    (List.range 8192).any fun i => decide (sfield b (4 * i) 4 < -8388608 ∨ 8388607 < sfield b (4 * i) 4)
  else false

/-- A learning memory as bytes, and set from bytes (R395). -/
def Dev.rcBytes (n : Nat) (d : Dev) : List Byte :=
  (Map.gets 0 d.servo.rc (8192 * n) 8192).flatMap fun x => le 4 (ofSigned 32 x)
def Dev.putRc (n : Nat) (b : List Byte) (d : Dev) : Dev :=
  d.onServo fun s => { s with rc := Map.puts 0 (8192 * n) ((List.range 8192).map fun i => sfield b (4 * i) 4) s.rc }

/-- A write of COMMAND of the repetitive controller (R395). -/
def rcCommand (q : Query) (a v : Nat) (d : Dev) : Answer :=
  d.command q 1 v [(.range, decide (v ≠ 1))] (Dev.rcClear a 1)

/-- Objects of 11_tracking_servo that follow from others. -/
def Dev.servoValue (k : Nat) (d : Dev) : Option Nat :=
  if k = Obj.SERVO_SOURCE 0 then some (d.get Obj.SHOT_SOURCE) else none

/-- Byte objects of 11_tracking_servo held elsewhere. -/
def Dev.servoBytes (k : Nat) (d : Dev) : Option (List Byte) :=
  if Obj.RC_MEMORY 0 ≤ k ∧ k ≤ Obj.RC_MEMORY 3 ∧ k % 256 = 0 then some (d.rcBytes ((k - Obj.RC_MEMORY 0) / 256)) else none

/-! ### Meanings -/

def execServoTimerUpdate (t : Nat) (cross : Int) (s : State) : Host.Outcome State Fault Refusal :=
  s.next (servoTimerUpdate t cross)
def execRcClear (r : Req) (axis : Fin 2) (s : State) : Host.Outcome State Fault Refusal :=
  let q := r.write (0x6840 + axis.val) 6
  s.next (Dev.serveCommand q (rcCommand q axis.val 1))

end Sys2Proof.Machine
end

