-- ==== Sys2Proof/Machine/Calibrate.lean ====
section
/-!
DEFINITION. Sys2Proof/Machine/Calibrate.lean: self-calibration and firmware (18_self_calibration_and_live_service,
R548 to R566).
-/
namespace Sys2Proof.Machine

/-! ### Corrections (R549) -/

/-- ⌊√n⌋, by `f` bit steps. -/
def sqrtFrom (n : Nat) : Nat → Nat → Nat
  | 0, r => r
  | f + 1, r =>
    let t := r + 2 ^ f
    sqrtFrom n f (if t * t ≤ n then t else r)

/-- √(n ÷ m) · s − s rounded to the nearest integer, ties away from zero. -/
def sqrtNearest (n m s : Nat) : Int :=
  let x := 4 * s * s * n
  let r := sqrtFrom (x / m) 64 0
  let tie := decide (r * r * m = x ∧ r < 2 * s)
  ((if tie then r / 2 else (r + 1) / 2 : Nat) : Int) - s

/-- sin(a ÷ 2^64) · 2^64 by its series, `n` terms from the term `t` of degree `k`. -/
def sinSeries (a : Int) : Nat → Nat → Int → Int
  | 0, _, _ => 0
  | n + 1, k, t => t + sinSeries a n (k + 2) (-(t * a / 2 ^ 64 * a / 2 ^ 64) / ((k + 1) * (k + 2) : Nat))

/-- sin((2n − 1) ÷ 2^15) · 2^64, for 1 ≤ n: the sine of the angle half a step below n. -/
def sinBelow (n : Nat) : Int :=
  let a : Int := (2 * (n : Int) - 1) * 2 ^ 49
  sinSeries a 24 1 a

/-- The largest n of `f` bits whose lower half step has a sine not above |c| ÷ √v. -/
def asinFrom (c v : Nat) : Nat → Nat → Nat
  | 0, n => n
  | f + 1, n =>
    let m := n + 2 ^ f
    let s := (sinBelow m).toNat
    asinFrom c v f (if m ≤ 25736 ∧ s * s * v ≤ c * c * 2 ^ 128 then m else n)

/-- asin(c ÷ √v) · 16,384 rounded to the nearest integer, ties away from zero. -/
def asinNearest (c : Int) (v : Nat) : Int :=
  let n : Int := asinFrom c.natAbs v 15 0
  if c < 0 then -n else n

/-- The bits of a trim of `w` bits; where its value lies outside the type, the spec states none (log entry 1). -/
def trimBits (w : Nat) (v : Int) : Nat :=
  if -2 ^ (w - 1) ≤ v ∧ v < 2 ^ (w - 1) then ofSigned w v else Config.wideTrim v % 2 ^ w

/-- n² times the variances of the collected samples and their covariance, in which n² cancels. -/
def CalSums.vx (u : CalSums) : Int := u.n * u.xx - u.x * u.x
def CalSums.vy (u : CalSums) : Int := u.n * u.yy - u.y * u.y
def CalSums.cxy (u : CalSums) : Int := u.n * u.xy - u.x * u.y

/-- Trims of a sine/cosine channel after a run's corrections. -/
def lissajousTrims (old : List Byte) (u : CalSums) : List Byte :=
  let add (off : Nat) (x : Int) : List Byte := le 2 (trimBits 16 (sfield old off 2 + x))
  padTo 32 (add 0 (nearest (-u.x) u.n) ++ add 2 (nearest (-u.y) u.n) ++ add 4 (sqrtNearest u.vx.toNat u.vy.toNat 4096)
    ++ add 6 (asinNearest u.cxy (u.vx * u.vy).toNat))

/-- The peaking code of the largest opening, the lower of two equal ones (R550). -/
def bestPeaking (openings : List Nat) : Nat :=
  let l := openings.take 16
  (l.findIdx? fun n => n = l.foldl Nat.max 0).getD 0

/-- Trims that a run gives (R549, R550). -/
def calTrims (old : List Byte) (u : CalSums) : CalMeasure → List Byte
  | .lissajous => lissajousTrims old u
  | .receiver openings low high own =>
    padTo 32 (le 1 (bestPeaking openings) ++ le 1 (trimBits 8 (nearest (low + high) 2)) ++ le 1 (trimBits 8 own))
  | .reference t => padTo 32 t

/-- The measurement is one that a run of the channel makes (R548), and its collection is complete. -/
def calFits (ch periods : Nat) (u : CalSums) : CalMeasure → Bool
  | .lissajous => decide (ch < 2 ∧ 0 < u.vx ∧ 0 < u.vy) && u.complete periods
  | .receiver _ _ _ _ => decide (2 ≤ ch ∧ ch < 10)
  | .reference _ => decide (10 ≤ ch)

/-! ### Records (R556, R557) -/

/-- The fused trims of a channel. -/
def fusedTrims (ch : Nat) : List Byte := (List.range 32).map (Config.fusedTrim ch)

/-- The trims of a channel in effect. -/
def Dev.trims (ch : Nat) (d : Dev) : List Byte :=
  match Map.get [] d.blobs (Obj.TRIMS ch) with
  | [] => fusedTrims ch
  | b => b

/-- A calibration record. -/
def calRecord (ch seq : Nat) (t : NewTrims) : List Byte :=
  let b := padTo 60 (le 1 ch ++ [1] ++ le 2 t.temp ++ le 4 seq ++ le 8 t.time ++ t.trims)
  b ++ le 4 (crc32cFrom (0xFFFFFFFF ^^^ (0xCA000000 + ch)) b)

/-- A slot holds a valid record of the channel. -/
def calValid (ch : Nat) (b : List Byte) : Bool :=
  decide (b.length = 64 ∧ field b 0 1 = ch ∧ field b 60 4 = crc32cFrom (0xFFFFFFFF ^^^ (0xCA000000 + ch)) (b.take 60))

/-- The slot with the newest valid record: 0 A, 1 B, 2 none. -/
def CalChannel.newest (ch : Nat) (c : CalChannel) : Nat :=
  match calValid ch c.slotA, calValid ch c.slotB with
  | true, true => if field c.slotA 4 4 < field c.slotB 4 4 then 1 else 0
  | true, false => 0
  | false, true => 1
  | false, false => 2

/-- A slot. -/
def CalChannel.slot (n : Nat) (c : CalChannel) : List Byte := if n = 0 then c.slotA else if n = 1 then c.slotB else []

/-- SEQ of the newest record. -/
def CalChannel.seq (ch : Nat) (c : CalChannel) : Nat := field (c.slot (c.newest ch)) 4 4

/-- A record is written to the slot that does not hold the newest one. -/
def CalChannel.write (ch : Nat) (t : NewTrims) (c : CalChannel) : CalChannel :=
  let r := calRecord ch ((c.seq ch + 1) % 2 ^ 32) t
  if c.newest ch = 0 then { c with slotB := r } else { c with slotA := r }

/-- At a start of the main die the trims of the valid slot with the larger SEQ are loaded (R556, R557). -/
def Dev.loadCal (ch : Nat) (d : Dev) : Dev :=
  let c := d.cal ch
  let bad (n : Nat) (b : List Byte) (d : Dev) : Dev :=
    if b.isEmpty || calValid ch b then d else d.raise 0 0x1104 [ch, n]
  let d1 := bad 1 c.slotB (bad 0 c.slotA d)
  let n := c.newest ch
  if n = 2 then ((d1.putBlob (Obj.TRIMS ch) (fusedTrims ch)).put (Obj.SLOT ch) 2).put (Obj.CAL_STATE ch) 1
  else
    let b := c.slot n
    ((d1.putBlob (Obj.TRIMS ch) (slice b 16 32)).put (Obj.SLOT ch) n).put (Obj.TEMP_AT_RUN ch) (field b 2 2)

/-! ### Runs (R548 to R555) -/

/-- The die temperature, 0.1 °C. -/
def Dev.dieTemp (d : Dev) : Int := d.geti 16 Obj.DIE_TEMP

/-- The temperature difference of a channel from its last completed run. -/
def Dev.calDrift (ch : Nat) (d : Dev) : Nat := (d.dieTemp - d.geti 16 (Obj.TEMP_AT_RUN ch)).natAbs

/-- A channel becomes due (R553). -/
def Dev.calDue (ch : Nat) (d : Dev) : Dev := if d.get (Obj.CAL_STATE ch) = 0 then d.put (Obj.CAL_STATE ch) 1 else d

/-- Soak makes every channel due (R101, R553). -/
def Dev.calSoak (d : Dev) : Dev := d.each (List.range 12) Dev.calDue

/-- The die temperature has been updated (R553). -/
def Dev.calTemperature (d : Dev) : Dev :=
  d.each (List.range 12) fun ch d =>
    if d.get Obj.AUTO = 1 ∧ 10 * d.get Obj.TEMP_THRESHOLD < d.calDrift ch then d.calDue ch else d

/-- What a write of AUTO or TEMP_THRESHOLD does beside storing it: a channel may be due (R553). -/
def Dev.calWritten (index sub : Nat) (d : Dev) : Dev :=
  if index = 0xB001 ∧ (sub = 1 ∨ sub = 2) ∧ d.keeper.measured then d.calTemperature else d

/-- The sine/cosine channels that a run needs are VALID (R554): for channel 10 those in use (log entry 87). -/
def Dev.calSensed (ch : Nat) (d : Dev) : Bool :=
  let valid (c : Nat) : Bool := decide (d.get (Obj.CHAN_MODE c) ≠ 1) || d.valid c
  if ch < 2 then d.valid ch else if ch = 10 then valid 0 && valid 1 else true

/-- A waiting channel may start its run (R552, R554); not while trims of the channel await their application or are under
trial, which the run would measure (DEDUCED, log entry 87). -/
def Dev.calReady (ch : Nat) (d : Dev) : Bool :=
  let lane := ch - 2
  decide (d.get (Obj.CAL_STATE ch) = 1 ∧ (d.cal ch).next = none ∧ (d.cal ch).before = none) && d.calSensed ch
    && (decide (ch < 2 ∨ 10 ≤ ch) ||
      (d.inService lane && d.inService ((lane + 4) % 8) && (Map.find d.link.patterns (136 + lane)).isNone
          && ! decide (d.get Obj.SCAN_STATE = 1 ∧ d.get Obj.LANE = lane)))

/-- Whether channel `b` goes before channel `a` (R554). -/
def Dev.calBefore (d : Dev) (a b : Nat) : Bool :=
  match (d.cal a).rerun, (d.cal b).rerun with
  | true, false => false
  | false, true => true
  | _, _ => decide (d.calDrift a < d.calDrift b)

/-- CAL_RUN_START (R554). -/
def calRunStart (d : Dev) : Dev :=
  let idle := (List.range 12).all fun ch => d.get (Obj.CAL_STATE ch) ≠ 2
  let ready := (List.range 12).filter fun ch => d.calReady ch
  match ready with
  | [] => d
  | c :: cs =>
    if d.running ∧ d.mode ≠ .safe ∧ idle then
      let ch := cs.foldl (fun a b => if d.calBefore a b then b else a) c
      (d.put (Obj.CAL_STATE ch) 2).onCal ch fun c =>
        { c with rerun := false, startedAt := d.clock.raw, sums := CalSums.zero }
    else d

/-- A run ends and is recorded as CAL_DONE. -/
def Dev.calEnd (ch result : Nat) (d : Dev) : Dev :=
  (d.put (Obj.CAL_RESULT ch) result).raise 0 0x1101 [ch, result, ofSigned 32 d.dieTemp, (d.cal ch).seq ch]

/-- New trims take effect (R548, R551, R558). -/
def Dev.calApply (ch : Nat) (d : Dev) : Dev :=
  let c := d.cal ch
  match c.next with
  | none => d
  | some t =>
    let lane := decide (2 ≤ ch ∧ ch < 10)
    let write (c : CalChannel) : CalChannel := if t.written || lane then c else c.write ch t
    let d1 := d.onCal ch fun c =>
      write { c with next := none, trial := if lane then 4 else 0, before := if lane then some (d.trims ch, t) else none }
    let seq := if t.written then c.seq ch else (c.seq ch + 1) % 2 ^ 32
    let d2 := d1.raiseJ 0 0x1103 noShot [ch, seq, lo32 d.ssnNext, hi16 d.ssnNext] []
    let d3 := ((d2.putBlob (Obj.TRIMS ch) t.trims).put (Obj.CAL_LAST_TIME ch) d.tNs).put (Obj.CAL_RESULT ch) 1
    let slot := if t.written || ! lane then (d3.cal ch).newest ch else d3.get (Obj.SLOT ch)
    let d4 := d3.put (Obj.SLOT ch) slot
    if d4.get (Obj.CAL_STATE ch) = 3 then d4.put (Obj.CAL_STATE ch) (bit01 c.rerun) else d4

/-- CAL_DONE: the run of a channel completes (R549, R550). -/
def calDone (ch : Nat) (m : CalMeasure) (d : Dev) : Dev :=
  if d.get (Obj.CAL_STATE ch) ≠ 2 ∨ d.mode = .safe ∨ ¬ d.running ∨ ! d.calSensed ch
    ∨ ! calFits ch (d.get Obj.SC_PERIODS) (d.cal ch).sums m then d
  else
    let t : NewTrims :=
      { trims := calTrims (d.trims ch) (d.cal ch).sums m, temp := d.get Obj.DIE_TEMP, time := d.tNs, written := false }
    let d1 := (((d.bump (Obj.RUNS ch)).put (Obj.TEMP_AT_RUN ch) (d.get Obj.DIE_TEMP)).put (Obj.CAL_STATE ch) 3).onCal ch
      fun c => { c with next := some t }
    let d2 := d1.calEnd ch 2
    if ch = 11 then d2.calApply 11 else d2

/-- RUN_LIMIT (R549). -/
def runLimit (ch raw : Nat) (d0 : Dev) : Dev :=
  let d := d0.at raw
  if ch < 2 ∧ d.get (Obj.CAL_STATE ch) = 2 ∧ (d.cal ch).startedAt + d.get Obj.RUN_LIMIT * 1000000000 ≤ d.clock.raw then
    (d.put (Obj.CAL_STATE ch) 0).calEnd ch 4
  else d

/-- CAL_APPLIED: the point of R548 has come. -/
def calApplied (ch : Nat) (d : Dev) : Dev :=
  let open_ := if ch < 2 ∨ ch = 10 then d.armedStripe.isNone
    else if ch < 10 then decide ((d.rxLane (ch - 2)).bad = 0) else true
  if d.running && open_ then d.calApply ch else d

/-- A return frame of lane `j` has passed or failed its checks under new trims (R551). -/
def Dev.calFrame (j : Nat) (ok : Bool) (d : Dev) : Dev :=
  let ch := j + 2
  let c := d.cal ch
  match c.before with
  | none => d
  | some (old, t) =>
    if ok then
      if c.trial ≤ 1 then
        let d1 := d.onCal ch fun c =>
          let c1 := { c with trial := 0, before := none }
          if t.written then c1 else c1.write ch t
        d1.put (Obj.SLOT ch) ((d1.cal ch).newest ch)
      else d.onCal ch fun c => { c with trial := c.trial - 1 }
    else
      (((d.onCal ch fun c => { c with trial := 0, before := none }).putBlob (Obj.TRIMS ch) old).put (Obj.CAL_RESULT ch)
        3).raise 0 0x1102 [ch, 3]

/-- The run in progress is interrupted (R555); `again` says that it is due at once. -/
def Dev.calInterrupt (again : Bool) (d : Dev) : Dev :=
  d.each (List.range 12) fun ch d =>
    if d.get (Obj.CAL_STATE ch) = 2 then (d.put (Obj.CAL_STATE ch) (bit01 again)).calEnd ch 5 else d

/-- CAL_COMMAND (R558, R564). -/
def calCommand (q : Query) (value : Nat) (d : Dev) : Answer :=
  let cmd := bits value 15 8
  let ch := bits value 7 0
  let tests : List (Abort × Bool) :=
    [(.range, decide (11 < ch ∨ cmd = 0 ∨ 2 < cmd)), (.busy, decide (d.get (Obj.CAL_STATE ch) = 2))]
  d.command q 2 value tests fun d =>
    let d1 := d.put Obj.CAL_COMMAND value
    if cmd = 1 then (d1.calDue ch).onCal ch fun c => { c with rerun := true }
    else
      let t : NewTrims := { trims := fusedTrims ch, temp := d1.get Obj.DIE_TEMP, time := d1.tNs, written := true }
      let d2 := (d1.onCal ch fun c => { (c.write ch t) with next := some t }).put (Obj.CAL_STATE ch) 1
      if ch = 11 then d2.calApply 11 else d2

/-! ### Firmware (R559 to R562) -/

/-- STATE object of a slot, and its VERSION object. -/
def slotKeyFw (slot : Nat) : Nat := if slot = 0 then Obj.SLOT_A_STATE else Obj.SLOT_B_STATE
def versionKeyFw (slot : Nat) : Nat := if slot = 0 then Obj.SLOT_A_VERSION else Obj.SLOT_B_VERSION

/-- The VERSION of a slot. -/
def Dev.fwVersion (slot : Nat) (d : Dev) : Nat :=
  match Map.find d.service.versions slot with
  | some v => v
  | none => if slot = 0 then Config.fwVersion else 0

/-- The slot that is not active. -/
def Dev.fwSpare (d : Dev) : Nat := 1 - d.get Obj.ACTIVE_SLOT

/-- A part of a slot's image, and the whole image. -/
def Dev.fwPart (slot part : Nat) (d : Dev) : List Byte := padTo 1048576 (Map.get [] d.service.images (4 * slot + part))
def Dev.fwImage (slot : Nat) (d : Dev) : List Byte := (List.range 4).flatMap fun p => d.fwPart slot p

/-- An image passes R559. -/
def fwOk (b : List Byte) : Bool :=
  let n := field b 8 4
  decide (b.take 4 = [0x4B, 0x58, 0x46, 0x57] ∧ 65536 ≤ n ∧ n ≤ 4194304 ∧ field b 12 1 = 0xB1
    ∧ field b 60 4 = crc32c ((b.take n).drop 64))

/-- The supervisors change to the pending image (R561). -/
def Dev.fwChange (d : Dev) : Dev :=
  let new := d.fwSpare
  if d.get (slotKeyFw new) ≠ 4 then d
  else
    let d1 := d.raiseJ 0 0x1111 noShot [new, d.fwVersion new, lo32 d.ssnNext, hi16 d.ssnNext] []
    let d2 := ((d1.put (slotKeyFw new) 1).put (slotKeyFw (1 - new)) 2).put Obj.ACTIVE_SLOT new
    (d2.onService fun s => { s with change := some (d.clock.raw, 1 - new) }).calInterrupt true

/-- The pending image takes over at once when no stripe is in progress (R13, R561). -/
def Dev.fwSettle (d : Dev) : Dev := if d.stripes.isEmpty then d.fwChange else d

/-- The slot that is not active is pending. -/
def Dev.fwPending (d : Dev) : Bool := decide (d.get (slotKeyFw d.fwSpare) = 4)

/-- A write of one part of the slot that is not active (R560). -/
def fwImagePart (q : Query) (part : Nat) (b : List Byte) (d : Dev) : Answer :=
  let slot := d.fwSpare
  let tests : List (Abort × Bool) :=
    [(.length, decide (b.length ≠ 1048576)),
     (.stateForbids, d.writeForbidden q.index q.sub 0 || d.fwPending)]
  match firstAbort tests with
  | some a => .refuse a d
  | none =>
    .ok [] (((d.noteWrite q (d.fwPart slot part) b).onService fun s =>
      { s with images := Map.insert (4 * slot + part) b s.images }).put (slotKeyFw slot) 0)

/-- VERIFY: the slot is tested against R559 (R560). -/
def Dev.fwVerify (d : Dev) : Dev :=
  let slot := d.fwSpare
  let b := d.fwImage slot
  let v := field b 4 4
  let st := if fwOk b then (if d.get (slotKeyFw slot) = 4 then 4 else 2) else 3
  let d1 := (d.onService fun s => { s with versions := Map.insert slot v s.versions }).put (versionKeyFw slot) v
  (d1.put (slotKeyFw slot) st).raise 0 0x1110 [slot, v, if fwOk b then 2 else 3]

/-- FW_COMMAND (R560, R561). -/
def fwCommand (q : Query) (v : Nat) (d : Dev) : Answer :=
  let k := slotKeyFw d.fwSpare
  d.command q 1 v
    [(.stateForbids, decide (v = 3 ∧ d.get k ≠ 4)), (.range, decide (v = 0 ∨ 3 < v)), (.check, decide (v = 2 ∧ d.get k ≠ 2))]
    fun d => if v = 1 then d.fwVerify else if v = 2 then (d.put k 4).fwSettle else d.put k 2

/-- FW_READY (R562). -/
def fwReady (d : Dev) : Dev := d.onService fun s => { s with change := none }

/-- FW_REVERTED (R562): 100 ms have passed without a report. -/
def fwReverted (raw : Nat) (d0 : Dev) : Dev :=
  let d := d0.at raw
  match d.service.change with
  | none => d
  | some (at_, old) =>
    if at_ + 100000000 ≤ d.clock.raw then
      let d1 := d.raiseJ 0 0x1112 noShot [1 - old, old] []
      ((((d1.put (slotKeyFw (1 - old)) 3).put (slotKeyFw old) 1).put Obj.ACTIVE_SLOT old).onService fun s =>
        { s with change := none }).calInterrupt true
    else d

/-! ### Objects -/

/-- Objects of 18_self_calibration_and_live_service held elsewhere. -/
def Dev.serviceValue (k : Nat) (d : Dev) : Option Nat := if k = Obj.SLOT_A_VERSION then some (d.fwVersion 0) else none

/-- Byte objects of 18_self_calibration_and_live_service held elsewhere. -/
def Dev.serviceBytes (k : Nat) (d : Dev) : Option (List Byte) :=
  if Obj.TRIMS 0 ≤ k ∧ k ≤ Obj.TRIMS 11 ∧ k % 256 = 7 then some (d.trims ((k - Obj.TRIMS 0) / 256)) else none

/-! ### Meanings -/

def execCalRerun (r : Req) (channel : Byte) (s : State) : Host.Outcome State Fault Refusal :=
  s.next (Dev.serveCommand (r.write 0xB002 0) (calCommand (r.write 0xB002 0) (0x0100 + channel.toNat)))
def execCalFactory (r : Req) (channel : Byte) (s : State) : Host.Outcome State Fault Refusal :=
  s.next (Dev.serveCommand (r.write 0xB002 0) (calCommand (r.write 0xB002 0) (0x0200 + channel.toNat)))
def execCalRunStart (s : State) : Host.Outcome State Fault Refusal := s.next calRunStart
def execCalDone (channel : Fin 12) (m : CalMeasure) (s : State) : Host.Outcome State Fault Refusal :=
  s.next (calDone channel.val m)
def execRunLimit (channel : Fin 12) (raw : Nat) (s : State) : Host.Outcome State Fault Refusal :=
  s.next (runLimit channel.val raw)
def execCalApplied (channel : Fin 12) (s : State) : Host.Outcome State Fault Refusal := s.next (calApplied channel.val)
def execFwImagePart (r : Req) (part : Fin 4) (value : List Byte) (s : State) : Host.Outcome State Fault Refusal :=
  let q := r.write 0xB020 (part.val + 1)
  s.next (Dev.serveCommand q (fwImagePart q part.val value))
def execFwVerify (r : Req) (s : State) : Host.Outcome State Fault Refusal :=
  s.next (Dev.serveCommand (r.write 0xB022 0) (fwCommand (r.write 0xB022 0) 1))
def execFwActivate (r : Req) (s : State) : Host.Outcome State Fault Refusal :=
  s.next (Dev.serveCommand (r.write 0xB022 0) (fwCommand (r.write 0xB022 0) 2))
def execFwCancel (r : Req) (s : State) : Host.Outcome State Fault Refusal :=
  s.next (Dev.serveCommand (r.write 0xB022 0) (fwCommand (r.write 0xB022 0) 3))
def execFwReady (s : State) : Host.Outcome State Fault Refusal := s.next fwReady
def execFwReverted (raw : Nat) (s : State) : Host.Outcome State Fault Refusal := s.next (fwReverted raw)

end Sys2Proof.Machine
end

