-- ==== Sys2Proof/Machine/Replay.lean ====
section
/-!
DEFINITION. Sys2Proof/Machine/Replay.lean: the replay of a row from the package and the journal
(13_dose_ledger_and_recovery, R444 to R446; the bounds of R433; the cut stripes of R450 and R451).
-/
namespace Sys2Proof.Machine

/-! ### Journal entries -/

/-- A parameter of an event's entry. -/
def JournalEntry.param (i : Nat) (e : JournalEntry) : Nat :=
  match e.body with
  | .event ps _ => ps.getD i 0
  | .ledger _ => 0

/-- The data of an event's entry (bytes 32 to 59). -/
def JournalEntry.data (e : JournalEntry) : List Byte :=
  match e.body with
  | .event _ b => b
  | .ledger _ => []

/-- A STRIPE_OPENED entry (R619): its place in the journal and its fields. -/
structure Opening where
  jseq : Nat
  kind : Nat
  number : Nat
  set : Nat
  direction : Nat
  length : Nat
  origin : Int
  ssnBase : Nat
  deriving DecidableEq, Repr

/-- The opening that an entry holds. -/
def JournalEntry.opening (jseq : Nat) (e : JournalEntry) : Option Opening :=
  if e.code = 0x0306 then
    some { jseq := jseq, kind := e.param 1, number := e.param 0, set := field e.data 6 1, direction := field e.data 5 1,
           length := field e.data 8 4, origin := sfield e.data 16 8, ssnBase := e.ssn }
  else none

/-- Every opening of the job, in journal order. -/
def Ledger.openings (l : Ledger) : List Opening := l.entries.zipIdx.filterMap fun q => q.1.opening q.2

/-- The last opening of a stripe. -/
def Ledger.openingOf (kind number : Nat) (l : Ledger) : Option Opening :=
  (l.openings.filter fun o => o.kind = kind ∧ o.number = number).getLast?

/-! ### The stripe as it was opened -/

/-- The stripe of an opening, with the values of its set (R443, R444); none where the journal's set or mend-pass stripe
is unknown. -/
def Dev.replayed (mem : Map Byte) (o : Opening) (d : Dev) : Option Stripe :=
  let p := d.package
  let mend := d.ledger.mends.find? fun m => decide (m.number = o.number)
  match d.ledger.sets[o.set]?, decide (o.kind = 1 ∧ mend.isNone) with
  | some v, false =>
    let near := if o.kind = 0 then p.neighbours mem (Map.get (dfltOf Obj.SEAM_MODE) v.vals Obj.SEAM_MODE) o.number
      else (none, none)
    some
      { uid := 0, kind := o.kind, sequence := 0, number := o.number,
        src := match o.kind, mend with
          | 0, _ => p.source mem o.number
          | _, some m => m.src
          | _, none => p.source mem o.number,
        direction := o.direction, origin := o.origin, blanked := 0, ssnBase := o.ssnBase, entry := 0,
        jobScale := p.doseScale mem, cellCount := p.cellCount mem, vals := v.vals, tabs := v.tabs,
        tol := Map.get (dfltOf Obj.DOSE_TOLERANCE) v.vals Obj.DOSE_TOLERANCE,
        gains := d.ledger.gainTables.getD v.gainSlot [],
        minus := near.1, plus := near.2, columns := 0, slot := 9,
        original := (mend.map (·.original)).getD o.number, rowOffset := if o.kind = 1 then (mend.map (·.first)).getD 0 else 0,
        advanced := 0, launched := 0, struck := 0, frozen := 0, formed := 0, entered := 0, exited := 0, last := none,
        armed := false, clipPixels := 0, clipRows := 0, clipMax := 0, used := [], begun := 0, spoiled := false }
  | _, _ => none

/-! ### D′ (R236, R446) -/

/-- The part of row `y` of a source at tile column `tc`, as its tile expands. -/
def Dev.replayPart (mem : Map Byte) (s : Stripe) (src : Source) (y tc : Nat) (d : Dev) : Part :=
  let x := (src.expand mem (d.package.cells mem) s.cellCount (y / 256) tc).row (y % 256)
  { samples := x.1, scale := (src.tile mem (y / 256) tc).scale, reason := x.2 }

/-- The neighbour's part that own row `y` needs at tile column `tc` (R247, R249). -/
def Dev.replayEdge (mem : Map Byte) (s : Stripe) (y tc : Nat) (d : Dev) : Option Part :=
  (s.neighbour tc).map fun i =>
    let src := d.package.source mem i
    let v := if (d.package.stripe mem i).direction ≠ s.direction then src.length - 1 - y else y
    d.replayPart mem s src v tc

/-- The rows whose samples row `y` needs: those of the density window, or its own. -/
def Stripe.windowOf (y : Nat) (s : Stripe) : List Nat :=
  if s.kind = 0 ∧ s.val Obj.DENSITY_ON = 1 then
    (List.range 65).filterMap fun i => if 32 ≤ y + i ∧ y + i - 32 < s.src.length then some (y + i - 32) else none
  else [y]

/-- Press, with everything that row `y` of a replayed stripe needs. -/
def Dev.replayBench (mem : Map Byte) (s : Stripe) (y : Nat) (d : Dev) : Dev :=
  let keys := (s.windowOf y).flatMap fun v => (List.range 32).map fun tc => (v, tc)
  let parts : Map Part := keys.map fun q => (s.partKey q.1 q.2, d.replayPart mem s s.src q.1 q.2)
  let edges : Map Part := keys.filterMap fun q => (d.replayEdge mem s q.1 q.2).map fun e => (s.partKey q.1 q.2, e)
  let gridAt (gy : Nat) : Nat × Option (List Nat) :=
    let b := storeBytes mem (d.get Obj.MAP_BASE + d.package.mapOffset mem s.number + 264 * gy) 264
    (gridKey s.uid gy, if gridRowOk s.number gy b then some ((List.range 129).map fun i => field b (2 * i) 2) else none)
  d.onUnfold fun u =>
    { u with parts := parts, edges := edges, line := [], grid := [gridAt (y / 64), gridAt (y / 64 + 1)] }

/-- D′ of row `y` of a replayed stripe, and the tile columns whose parts cannot be replayed (R446). -/
def Dev.replayTargets (mem : Map Byte) (s : Stripe) (y : Nat) (d : Dev) : List Nat × List Nat :=
  let r := (d.replayBench mem s y).pressRow s y
  (r.raw.map (min 30720), (List.range 32).filter fun tc => r.reasons.getD tc 0 ≠ 0)

/-! ### What the journal says of a visit (R445) -/

/-- How replay takes a visit. In doubt: of a cut stripe, in a segment without echo (R451). -/
inductive Visit where
  | undelivered | delivered | uncertain | doubt
  deriving DecidableEq, Repr

/-- The journal as the replay of one stripe reads it: every entry of the job, those after the stripe's opening, those
after the last recovery before it, whether the stripe opened in HOLD, and the stripe's cut. -/
structure Facts where
  st : Stripe
  all : List JournalEntry
  after : List JournalEntry
  since : List JournalEntry
  held : Bool
  cut : Option Cut

/-- The last entry with SSN at most `x` that satisfies `p`. -/
def lastEntry (p : JournalEntry → Bool) (x : Nat) (es : List JournalEntry) : Option JournalEntry :=
  (es.filter fun e => p e && decide (e.ssn ≤ x)).getLast?

/-- SSN `x` lies in a run that entries of code `on` begin and entries of code `off` end. -/
def inRun (on off : Nat) (own : JournalEntry → Bool) (x : Nat) (es : List JournalEntry) : Bool :=
  match lastEntry (fun e => decide (e.code = on ∨ e.code = off) && own e) x es with
  | some e => decide (e.code = on)
  | none => false

/-- The journal as a replay of the stripe of an opening reads it. -/
def Dev.factsOf (s : Stripe) (o : Opening) (d : Dev) : Facts :=
  let es := d.ledger.entries
  let before := es.take o.jseq
  let done := before.zipIdx.filterMap fun q => if q.1.code = 0x0B04 then some (q.2 + 1) else none
  { st := s, all := es, after := es.drop o.jseq, since := es.drop ((done.getLast?).getD 0),
    held := ((before.filter fun e => decide (e.code = 0x0201)).getLast?).any fun e => decide (e.param 1 = 8),
    cut := d.ledger.cuts.find? fun c => decide (c.ssnBase = o.ssnBase) }

/-- Shot `x` lies in a HOLD interval: the last change of mode since the opening at or before it, or the mode at the
opening, is neither WRITE nor MEND. -/
def Facts.inHold (x : Nat) (f : Facts) : Bool :=
  match lastEntry (fun e => decide (e.code = 0x0201)) x f.after with
  | some e => decide (e.param 1 ≠ 7 ∧ e.param 1 ≠ 9)
  | none => f.held

/-- Shot `x` was blanked as a whole: HOLD, overspeed, a servo run, an interlock after its launch (R445). -/
def Facts.shotBlank (x : Nat) (f : Facts) : Bool :=
  f.inHold x || inRun 0x0801 0x0802 (fun _ => true) x f.since
    || inRun 0x0901 0x0902 (fun e => decide (e.param 0 % 256 = 0)) x f.since
    || inRun 0x0901 0x0902 (fun e => decide (e.param 0 % 256 = 1)) x f.since
    || f.all.any fun e => decide (e.code = 0x0610 ∧ e.ssn = x)

/-- Segment `seg` sent no dose at shot `x`: SEGMENT_BLANKED, COMPUTE_LATE. -/
def Facts.segmentBlank (seg x : Nat) (f : Facts) : Bool :=
  let own (e : JournalEntry) : Bool := decide (e.param (if e.code = 0x0604 then 0 else 1) = seg)
  inRun 0x0604 0x0603 own x f.all || f.all.any fun e => decide (e.code = 0x0606 ∧ e.ssn = x ∧ e.param 0 = seg)

/-- A FRAME_NACK names the half at shot `x`; a run's entry counts its shots (R439). -/
def Facts.nacked (seg h x : Nat) (f : Facts) : Bool :=
  f.all.any fun e => decide (e.code = 0x0607 ∧ e.param 0 = 2 * seg + h ∧ e.ssn ≤ x ∧ x < e.ssn + field e.data 0 4)

/-- A TWIN_MISMATCH names the beam at shot `x`. -/
def Facts.mismatched (r c x : Nat) (f : Facts) : Bool :=
  f.all.any fun e => decide (e.code = 0x0601 ∧ e.ssn = x ∧ e.param 3 = r * 65536 + c)

/-- Entries whose SSN lies in the stripe. -/
def Facts.own (f : Facts) : List JournalEntry :=
  f.all.filter fun e => decide (f.st.ssnBase ≤ e.ssn ∧ e.ssn < f.st.ssnBase + f.st.shots)

/-- The reason of a REASON_RUN on a part, 0 for none. -/
def Facts.reasonOf (y tc : Nat) (f : Facts) : Nat :=
  match f.own.find? fun e => decide (e.code = 0x0B05 ∧ e.param 0 = f.st.number ∧ e.param 1 / 256 = tc ∧ e.param 2 ≤ y
      ∧ y < e.param 2 + e.param 3) with
  | some e => e.param 1 % 256
  | none => 0

/-- The code words of row `y` marked LOST at SSN `x` or before (R440). -/
def Facts.lostWords (y x : Nat) (f : Facts) : List Nat :=
  let es := f.own.filter fun e =>
    decide (e.code = 0x0609 ∧ e.param 1 = f.st.number ∧ e.param 2 = y ∧ e.ssn ≤ x)
  let words := es.flatMap fun e => (List.range 14).map fun i => field e.data (2 * i) 2
  if words.contains 0xFFFF then allWords else words.filter fun w => decide (w < 2048)

/-- A half or its shot is named by ACK_MISSING, RETURN_DISAGREE, STROBE_OFF or DEFL_SATURATED. -/
def Facts.doubtful (seg h x : Nat) (f : Facts) : Bool :=
  f.all.any fun e => decide (e.ssn = x) &&
    (decide ((e.code = 0x0608 ∨ e.code = 0x0706) ∧ e.param 0 = 2 * seg + h) || decide (e.code = 0x0806 ∨ e.code = 0x0903))

/-- How the cut decides a visit of segment `seg`, half `h`, at shot `x` (R450, R451). -/
def Cut.visit (seg h x : Nat) (c : Cut) : Visit :=
  match Map.find c.echoes seg with
  | none => if x < c.c + 8192 then .doubt else .undelivered
  | some e =>
    if e.last < x then .undelivered
    else if e.cur ≤ x + 7 then
      if bitAt (if h = 0 then e.hist0 else e.hist1) (e.cur - x) then .delivered else .undelivered
    else .delivered

/-- How replay takes the visit of row `y` at logical row `rho` on beam column `c` of phase plane `plane` (R445); the
row's part carries no reason. -/
def Facts.visit (y rho c plane : Nat) (f : Facts) : Visit :=
  let x := f.st.ssnBase + y + 16 * rho
  let seg := rho / 8
  let h := rho % 8 / 4
  if (f.lostWords y x).contains (128 * plane + c / 4) || f.shotBlank x || f.segmentBlank seg x
      || f.mismatched (beamRow f.st.direction rho) c x || f.nacked seg h x then .undelivered
  else if f.doubtful seg h x then .uncertain
  else
    match f.cut with
    | some k => if k.disposed ≤ x then k.visit seg h x else .delivered
    | none => .delivered

/-- The live-visits table at shot `x` (R280, R444). -/
def Facts.table (x : Nat) (f : Facts) : Lvt :=
  let blanked := match lastEntry (fun e => decide (e.code = 0x0605)) x f.all with
    | some e => field e.data 0 8
    | none => 0
  { gains := f.st.gains, direction := f.st.direction, blanked := blanked }

/-! ### The replay of a row -/

/-- A pixel in replay: the residual where uncertain visits are taken as delivered, and the subs of those visits. -/
structure Pixel where
  res : Int
  extra : Nat
  deriving DecidableEq, Repr

/-- A visit of a pixel with gain `g` and entry `n` (R57, R433). -/
def Pixel.visit (v : Visit) (g n : Nat) (p : Pixel) : Pixel :=
  if g = 0 ∨ n = 0 ∨ v = .undelivered then p
  else
    let r := (split p.res g n).2
    { res := r, extra := if v = .delivered then p.extra else p.extra + (p.res - r).toNat }

/-- Logical row `rho` visits a row's planes. -/
def Facts.visitRow (y : Nat) (reasons : List Nat) (f : Facts) (planes : List (List Pixel)) (rho : Nat) :
    List (List Pixel) :=
  let br := beamRow f.st.direction rho
  let v := visitPlane f.st.direction rho
  let t := f.table (f.st.ssnBase + y + 16 * rho)
  planes.zipIdx.map fun q =>
    if q.2 = v then
      q.1.zipIdx.map fun p =>
        if reasons.getD (p.2 / 16) 0 ≠ 0 then p.1
        else p.1.visit (f.visit y rho p.2 v) (Map.get 0 f.st.gains (512 * br + p.2)) (t.entry br p.2)
    else q.1

/-- The pixels of a row after all its visits, in column order. -/
def Facts.replayRow (y : Nat) (targets : List Nat) (f : Facts) : List Pixel :=
  let reasons := (List.range 32).map fun tc => f.reasonOf y tc
  let start := (planesOf targets).map fun p => p.map fun (v : Nat) => ({ res := v, extra := 0 } : Pixel)
  let planes := (List.range 512).foldl (f.visitRow y reasons) start
  (List.range 8192).map fun x => (planes.getD (x % 16) []).getD (x / 16) { res := 0, extra := 0 }

/-- A visit of part `tc` of row `y` is taken as delivered but uncertain. -/
def Facts.uncertainPart (y tc : Nat) (f : Facts) : Bool :=
  (List.range 512).any fun rho =>
    (List.range 16).any fun i => decide (f.visit y rho (16 * tc + i) (visitPlane f.st.direction rho) = .uncertain)

/-- A shot of the cut stripe at or above DISPOSED_SSN visits row `y` in a segment without echo (R451). -/
def Facts.noEcho (y : Nat) (f : Facts) : Bool :=
  match f.cut with
  | none => false
  | some k => (List.range 512).any fun rho =>
      decide (k.disposed ≤ f.st.ssnBase + y + 16 * rho) && (Map.find k.echoes (rho / 8)).isNone

/-- Part `tc` of row `y` holds a LOST word. -/
def Facts.lostPart (y tc : Nat) (f : Facts) : Bool :=
  (f.lostWords y (f.st.ssnBase + f.st.shots + 8192)).any fun w => decide (w % 128 / 4 = tc)

/-- The class of a part of a replayed row (R429, R446): `reset` says that the row had not left S63. -/
def Facts.classOf (y tc : Nat) (reset failed : Bool) (px : List Pixel) (f : Facts) : Option (Nat × Amount) :=
  let reason := f.reasonOf y tc
  let lim : Int := 8 * f.st.tol
  if reason ≠ 0 then some (reason, byReplay)
  else if failed then some (reasonUnreplayable, byReplay)
  else if f.lostPart y tc then some (reasonLost, byReplay)
  else if f.noEcho y then some (reasonNoEcho, byReplay)
  else if f.uncertainPart y tc then some (reasonUncertain, byReplay)
  else
    match px.filterMap fun p => if lim < p.res then some p.res.toNat else none with
    | [] => none
    | l => some (if reset then (reasonReset, byReplay) else (reasonResidual, amountOf l))

/-- The overdose class of a part of a replayed row. -/
def Facts.overOf (y tc : Nat) (failed : Bool) (px : List Pixel) (f : Facts) : Option (Nat × Amount) :=
  let lim : Int := 8 * f.st.tol
  if f.reasonOf y tc ≠ 0 ∨ failed then none
  else
    match px.filterMap fun p => if p.res < -lim then some (-p.res).toNat else none with
    | [] => none
    | l => some (reasonOverdose, amountOf l)

/-- Replays row `y` and hands its classes to the ledger (R453). -/
def Dev.recoverRow (mem : Map Byte) (f : Facts) (y : Nat) (reset : Bool) (d : Dev) : Dev :=
  let (targets, failed) := d.replayTargets mem f.st y
  let px := f.replayRow y targets
  let part (tc : Nat) : List Pixel := (px.drop (256 * tc)).take 256
  let segs := columnsOf (fun tc => f.classOf y tc reset (failed.contains tc) (part tc))
    ++ columnsOf fun tc => f.overOf y tc (failed.contains tc) (part tc)
  let pass := if f.st.kind = 1 then d.get Obj.PASSES % 16 else 0
  d.ledgerRow f.st.ledgerStripe (f.st.rowOffset + y) pass segs

/-! ### The shortfall of a record's row (R454, R460) -/

/-- The stripe that a record's row is replayed from, its facts, and the row's number in it: the writing stripe, or the
mend-pass stripe of the record's pass. -/
def Dev.replayOf (mem : Map Byte) (r : LedgerRecord) (y : Nat) (d : Dev) : Option (Facts × Nat) :=
  let pick : Option (Opening × Nat) :=
    if r.pass = 0 then (d.ledger.openingOf 0 r.stripe).map fun o => (o, y)
    else
      match d.ledger.mends.find? fun m => decide (m.pass = r.pass ∧ m.original = r.stripe ∧ m.first ≤ y ∧ y < m.first + m.src.length) with
      | some m => (d.ledger.openingOf 1 m.number).map fun o => (o, y - m.first)
      | none => none
  match pick with
  | none => none
  | some (o, v) => (d.replayed mem o).map fun s => (d.factsOf s o, v)

/-- Full-target reasons (R428, R432). -/
def fullTarget (reason : Nat) : Bool := decide ((1 ≤ reason ∧ reason ≤ 0x0C) ∨ reason = reasonUnstarted)

/-- The shortfalls that a record owes in row `y`, in eighths, by pixel column from TC_FIRST to TC_LAST; none where the
row cannot be replayed. `high` takes the high bound. A shortfall at or below 8T owes nothing (R454). -/
def Dev.owed (mem : Map Byte) (r : LedgerRecord) (y : Nat) (high : Bool) (d : Dev) : Option (List Nat) :=
  match d.replayOf mem r y with
  | none => none
  | some (f, v) =>
    let (targets, failed) := d.replayTargets mem f.st v
    let cols := (List.range (r.tcLast + 1 - r.tcFirst)).map fun i => r.tcFirst + i
    if cols.any fun tc => failed.contains tc then none
    else
      let take {α : Type} (l : List α) : List α := (l.drop (256 * r.tcFirst)).take (256 * cols.length)
      if fullTarget r.reason then some (take targets)
      else
        let lim := 8 * f.st.tol
        some ((take (f.replayRow v targets)).map fun p =>
          let q := (if high then p.res + p.extra else p.res).toNat
          if lim < q then q else 0)

end Sys2Proof.Machine
end

