-- ==== Sys2Proof/Machine/Mend.lean ====
section
/-!
DEFINITION. Sys2Proof/Machine/Mend.lean: mend passes, decisions and the deficit map
(13_dose_ledger_and_recovery, R454 to R460).
-/
namespace Sys2Proof.Machine

/-! ### Rasters and KLF stripes (R455, R456, R460) -/

/-- The next multiple of 64. -/
def align64 (n : Nat) : Nat := (n + 63) / 64 * 64

/-- The samples of tile (t, tc) of a raster given by rows of 8,192. -/
def tileOfRows (rows : Nat → List Nat) (t tc : Nat) : List Nat :=
  (List.range 256).flatMap fun v => slice2 (rows (256 * t + v)) (256 * tc)
where
  /-- 256 samples of a row, zero beyond its end. -/
  slice2 (l : List Nat) (x : Nat) : List Nat :=
    let r := (l.drop x).take 256
    r ++ List.replicate (256 - r.length) 0

/-- A raster of `length` rows as a KLF stripe at offset `pos` of an area (R124, R456): the entry, the tile index and
the PRED tiles of the compressor, offsets counted from the area's base; every cost field holds its floor. -/
def klfStripe (foldA pos length direction : Nat) (origin : Int) (rows : Nat → List Nat) : List Byte :=
  let t := (length + 255) / 256
  let index := pos + 64
  let data := align64 (index + 528 * t)
  let tiles := (List.range t).flatMap fun i => (List.range 32).map fun tc =>
    compress 256 foldA tc 16 (16 * i) (tileOfRows rows i tc) []
  let places := tiles.foldl (fun (a : Nat × List (Nat × Nat)) b =>
    (a.1 + align64 b.length, (a.1, b.length) :: a.2)) (data, [])
  let place := places.2.reverse
  let tileBytes (n : Nat) : List Byte :=
    let q := place.getD n (0, 0)
    le 1 kPred ++ le 1 16 ++ le 2 0x4000 ++ le 8 q.1 ++ le 4 q.2
  let row (i : Nat) : List Byte :=
    let costs := le 4 (32 * 65536) ++ le 4 0 ++ le 4 0
    let es := (List.range 32).flatMap fun tc => tileBytes (32 * i + tc)
    costs ++ le 4 (crc32c (costs ++ es)) ++ es
  let head := padTo 60 (le 4 length ++ le 4 t ++ le 8 (ofSigned 64 origin) ++ le 8 index ++ le 1 direction)
  head ++ le 4 (crc32c head) ++ padTo (data - index) ((List.range t).flatMap row)
    ++ tiles.flatMap fun b => padTo (align64 b.length) b

/-- Adds a record's shortfalls to a row of 8,192 samples; where records overlap the larger value stands. -/
def overlay (tc : Nat) (vals row : List Nat) : List Nat :=
  row.take (256 * tc) ++ (List.zipWith Nat.max (row.drop (256 * tc)) vals) ++ row.drop (256 * tc + vals.length)

/-- What record `r` owes in row `y`, with the tile columns that cannot be replayed taken as 0 (R446, R454). -/
def Dev.owedPart (mem : Map Byte) (r : LedgerRecord) (y : Nat) (high : Bool) (d : Dev) : List Nat × List Nat :=
  let cols := (List.range (r.tcLast + 1 - r.tcFirst)).map fun i => r.tcFirst + i
  let one (tc : Nat) : Option (List Nat) := d.owed mem { r with tcFirst := tc, tcLast := tc } y high
  (cols.flatMap fun tc => (one tc).getD (List.replicate 256 0), cols.filter fun tc => (one tc).isNone)

/-- The row `y` of a stripe's raster from its records. -/
def Dev.owedRow (mem : Map Byte) (rs : List LedgerRecord) (high : LedgerRecord → Bool) (y : Nat) (d : Dev) : List Nat :=
  rs.foldl (fun row r =>
    if r.rowFirst ≤ y ∧ y ≤ r.rowLast then overlay r.tcFirst (d.owedPart mem r y (high r)).1 row else row)
    (List.replicate 8192 0)

/-! ### Mend passes (R454 to R458) -/

/-- A pass takes the record up: a pending deficit, or a held record with a decision (R454). -/
def LedgerRecord.mendable (r : LedgerRecord) : Bool :=
  decide ((r.state = 0 ∧ r.kind = 0) ∨ (r.state = 3 ∧ (r.decision = 1 ∨ r.decision = 2)))

/-- The records that a pass takes up. -/
def Dev.mendable (d : Dev) : List LedgerRecord := d.ledger.records.filter LedgerRecord.mendable

/-- The mend area overlaps the package or the map area, or lies outside the populated store (R456). -/
def Dev.mendAreaBad (mem : Map Byte) (d : Dev) : Bool :=
  let a := d.get Obj.AREA_BASE
  let n := d.get Obj.AREA_LENGTH
  let p := d.package
  overlaps a n p.base p.length || !d.populated a n
    || (decide (d.get Obj.MAP_ON = 1) && overlaps a n (d.get Obj.MAP_BASE) (p.mapLength mem))

/-- Changes ledger records. -/
def Dev.mapRecords (f : LedgerRecord → LedgerRecord) (d : Dev) : Dev :=
  d.onLedger fun l => { l with records := l.records.map f }

/-- The STATE that a record had before a pass (R431). -/
def LedgerRecord.prior (r : LedgerRecord) : Nat := if r.kind = 2 then 3 else 0

/-- Records of stripes that were withdrawn, not opened or not reached take back their STATE (R431). -/
def Dev.revertRecords (d : Dev) : Dev := d.mapRecords fun r => if r.state = 1 then { r with state := r.prior } else r

/-- A mend pass begins: its raster is built (R454). -/
def Dev.startPass (d : Dev) : Dev :=
  (((d.onLedger fun l => { l with passes := l.passes + 1 }).put Obj.PASSES (min 255 (d.get Obj.PASSES + 1))).put
    Obj.BUILD_STATE 1).put Obj.MEND_STRIPES 0

/-- A group of records that one mend-pass stripe covers: the original stripe, its rows, its records. -/
structure MendGroup where
  stripe : Nat
  first : Nat
  last : Nat
  records : List LedgerRecord
  deriving DecidableEq, Repr

/-- A record joins the group before it where the gap is at most MEND_GAP rows, else opens one (R455). -/
def joinGroup (gap : Nat) (r : LedgerRecord) : List MendGroup → List MendGroup
  | g :: gs =>
    if g.stripe = r.stripe ∧ r.rowFirst ≤ g.last + 1 + gap then
      { g with last := max g.last r.rowLast, records := g.records ++ [r] } :: gs
    else { stripe := r.stripe, first := r.rowFirst, last := r.rowLast, records := [r] } :: g :: gs
  | [] => [{ stripe := r.stripe, first := r.rowFirst, last := r.rowLast, records := [r] }]

/-- Inserts a record in order of stripe and first row. -/
def insertRecord (r : LedgerRecord) : List LedgerRecord → List LedgerRecord
  | [] => [r]
  | x :: xs =>
    if r.stripe < x.stripe ∨ (r.stripe = x.stripe ∧ r.rowFirst < x.rowFirst) then r :: x :: xs
    else x :: insertRecord r xs

/-- The mend-pass stripes' groups, in order of stripe and row (R455). -/
def mendGroups (gap : Nat) (rs : List LedgerRecord) : List MendGroup :=
  ((rs.foldr insertRecord []).foldl (fun gs r => joinGroup gap r gs) []).reverse

/-- The high bound is owed under DECISION 2 (R454). -/
def LedgerRecord.high (r : LedgerRecord) : Bool := decide (r.decision = 2)

/-- The parts of a record that cannot be replayed (row, tile column). -/
def Dev.unreplayable (mem : Map Byte) (r : LedgerRecord) (d : Dev) : List (Nat × List Nat) :=
  (List.range (r.rowLast + 1 - r.rowFirst)).filterMap fun i =>
    match (d.owedPart mem r (r.rowFirst + i) r.high).2 with
    | [] => none
    | l => some (r.rowFirst + i, l)

/-- A record whose parts all fail takes STATE 4; where some fail, they make UNREPLAYABLE records (R446; log
entry 61). -/
def Dev.failRecord (mem : Map Byte) (r : LedgerRecord) (d : Dev) : Dev :=
  let bad := d.unreplayable mem r
  let n := (bad.map fun q => q.2.length).sum
  if n = 0 then d
  else if n = (r.rowLast + 1 - r.rowFirst) * (r.tcLast + 1 - r.tcFirst) then
    d.mapRecords fun x => if x.number = r.number then { x with state := 4 } else x
  else
    (d.each bad fun q d =>
      d.ledgerRow r.stripe q.1 r.pass
        (columnsOf fun tc => if q.2.contains tc then some (reasonUnreplayable, byReplay) else none)).closeOpen

/-- A mend-pass stripe as it is built: what is written into the area, and its place. -/
structure Built where
  stripe : MendStripe
  records : List Nat
  bytes : List Byte
  pos : Nat

/-- Builds the groups one after the other until the area is full (R455, R456). -/
def Dev.buildGroups (mem : Map Byte) (d : Dev) : Nat → Nat → List MendGroup → List Built
  | _, _, [] => []
  | j, pos, g :: gs =>
    let o := d.ledger.openingOf 0 g.stripe
    let dir := (o.map (·.direction)).getD 0
    let σ : Int := if dir = d.get Obj.SCAN_SENSE then 1 else -1
    let origin := ((o.map (·.origin)).getD 0) + σ * ((g.first * d.get Obj.PIXEL_PITCH / 65536 : Nat) : Int)
    let length := g.last + 1 - g.first
    let b := klfStripe (0x40000000 + j) pos length dir origin fun y =>
      if y < length then d.owedRow mem g.records LedgerRecord.high (g.first + y) else List.replicate 8192 0
    if d.get Obj.AREA_LENGTH < pos + b.length then []
    else
      let m : MendStripe :=
        { number := j, pass := d.get Obj.PASSES % 16, original := g.stripe, first := g.first, direction := dir,
          origin := origin,
          src := { base := d.get Obj.AREA_BASE, foldA := 0x40000000 + j, indexOffset := pos + 64, length := length,
                   tileRows := (length + 255) / 256 }, opened := false }
      { stripe := m, records := g.records.map (·.number), bytes := b, pos := pos }
        :: Dev.buildGroups mem d (j + 1) (pos + b.length) gs

/-- The stripes of the present pass. -/
def Dev.passStripes (d : Dev) : List MendStripe := d.ledger.mends.filter fun m => m.pass = d.get Obj.PASSES % 16

/-- The pass ends (R458): MEND_PASS_END; from MEND a further pass follows while the limit allows it, else the device
goes to READY. -/
def Dev.endPass (further : Bool) (d : Dev) : Dev :=
  let p := d.get Obj.PASSES
  let js := d.passStripes.map (·.number)
  let mended := (d.ledger.records.filter fun r => r.state = 2 ∧ js.contains r.mendStripe).length
  let new := (d.ledger.records.filter fun r => r.pass = p % 16).length
  let d1 := d.revertRecords.raiseJ 0 0x0B07 noShot [p, mended, new, 0] []
  let d2 := (d1.put Obj.BUILD_STATE 0).put Obj.MEND_STRIPES 0
  if d2.mode = .mend ∧ further ∧ d2.mendable ≠ [] ∧ d2.ledger.passes < d2.get Obj.MEND_PASS_LIMIT then d2.startPass
  else if d2.mode = .mend ∨ d2.mode = .hold then d2.changeMode 5 .ready
  else d2

/-- MEND_RASTER_BUILT (R454 to R456): the stripes of the pass lie in the area and the pass starts. -/
def mendRasterBuilt (mem : Map Byte) (d : Dev) : List (Nat × List Byte) × Dev :=
  if d.get Obj.BUILD_STATE ≠ 1 ∨ ¬ (d.mode = .mend ∨ d.mode = .hold) then ([], d)
  else
    let d1 := d.each d.mendable (Dev.failRecord mem)
    let gs := mendGroups (d1.get Obj.MEND_GAP) d1.mendable
    let bs := d1.buildGroups mem d1.ledger.mends.length 0 gs
    let left := ((gs.drop bs.length).map fun g => g.records.length).sum
    let covered := (bs.map fun b => b.records.length).sum
    let f (r : LedgerRecord) : LedgerRecord :=
      match bs.find? fun b => b.records.contains r.number with
      | some b => { r with state := 1, mendStripe := b.stripe.number }
      | none => r
    let d2 := (d1.mapRecords f).onLedger fun l => { l with mends := l.mends ++ bs.map (·.stripe) }
    let p := d2.get Obj.PASSES
    let last := match bs.getLast? with
      | some b => b.stripe.number
      | none => 0xFFFFFFFF
    let d3 := d2.when (decide (bs.length < gs.length)) fun d => d.raiseJ 0 0x0B0D noShot [p, last, left, 0] []
    let d4 := d3.raiseJ 0 0x0B06 noShot [p, bs.length, covered, d3.mendRate] []
    let d5 := (d4.put Obj.BUILD_STATE 2).put Obj.MEND_STRIPES bs.length
    (bs.map fun b => (d.get Obj.AREA_BASE + b.pos, b.bytes), if bs.isEmpty then d5.endPass true else d5)

/-! ### Decisions (R459) -/

/-- A record that a decision reaches. -/
def LedgerRecord.heldOf (stripe : Nat) (r : LedgerRecord) : Bool :=
  decide (r.state = 3 ∧ (stripe = 0xFFFFFFFF ∨ r.stripe = stripe))

/-- The decision on a held record. -/
def LedgerRecord.decideBy (stripe choice : Nat) (r : LedgerRecord) : LedgerRecord :=
  if r.heldOf stripe then (if choice = 3 then { r with state := 6 } else { r with decision := choice }) else r

/-- A write of 0x7803. -/
def decisionCommand (q : Query) (v : Nat) (d : Dev) : Answer :=
  let stripe := bits v 31 0
  let choice := bits v 39 32
  let n := (d.ledger.records.filter (LedgerRecord.heldOf stripe)).length
  d.command q 8 (v % 2 ^ 32)
    [(.stateForbids, decide ¬ ((d.mode = .ready ∨ d.mode = .service) ∧ d.jobOpen)),
     (.range, decide (choice = 0 ∨ 3 < choice ∨ 2 ^ 40 ≤ v))]
    fun d => (d.raiseJ 0 0x0B08 noShot [stripe, choice, n, q.session] []).mapRecords (LedgerRecord.decideBy stripe choice)

/-! ### The deficit map (R230, R460) -/

/-- A write of 0x7840:05: START, with a job open and no stripe in progress. -/
def dmapCommand (q : Query) (v : Nat) (d : Dev) : Answer :=
  d.command q 1 v
    [(.stateForbids, !d.jobOpen || !d.stripes.isEmpty), (.range, decide (v ≠ 1)),
     (.busy, decide (d.get Obj.DMAP_STATE = 1))]
    fun d =>
      ((d.put Obj.DMAP_STATE 1).put Obj.BYTES 0).claimMap

/-- The pool context that the output holds (R230). -/
def Dev.dmapContext (d : Dev) : Option Nat := d.unfold.map

/-- The records that a map shows: what is still owed and can be replayed. -/
def Dev.mapped (stripe : Nat) (d : Dev) : List LedgerRecord :=
  d.ledger.records.filter fun r => r.stripe = stripe ∧ r.kind ≠ 1 ∧ (r.state = 0 ∨ r.state = 1 ∨ r.state = 3)

/-- The map's bytes; none where a part cannot be replayed or the stripe has no opening (log entry 62). -/
def Dev.deficitMap (mem : Map Byte) (d : Dev) : Option (List Byte) :=
  let i := d.get Obj.DMAP_STRIPE
  let high := decide (d.get Obj.SELECT = 1)
  let rs := d.mapped i
  match d.ledger.openingOf 0 i with
  | none => none
  | some o =>
    let fails := rs.any fun r => (List.range (r.rowLast + 1 - r.rowFirst)).any fun k =>
      (d.owedPart mem r (r.rowFirst + k) high).2 ≠ []
    if fails then none
    else some (klfStripe (0x60000000 + i) 0 o.length o.direction o.origin fun y => d.owedRow mem rs (fun _ => high) y)

/-- DEFICIT_MAP_DONE: the output waits for a pool context, writes the map where it fits, and is recorded. -/
def deficitMapDone (mem : Map Byte) (d : Dev) : List (Nat × List Byte) × Dev :=
  if d.get Obj.DMAP_STATE ≠ 1 then ([], d)
  else
    match d.dmapContext with
    | none => ([], d)
    | some j =>
      let a := d.get Obj.DMAP_ADDR
      let finish (state bytes : Nat) : Dev :=
        let d0 := { d.dropCtx (128 + j) with unfold := { (d.dropCtx (128 + j)).unfold with map := none } }
        let d1 := ((d0.put (Obj.CONTEXT_OWNER j) 0).put Obj.DMAP_STATE state).put Obj.BYTES bytes
        d1.raise 0 0x0B0C [d.get Obj.DMAP_STRIPE, state, bytes, d.get Obj.SELECT]
      match d.deficitMap mem with
      | none => ([], finish 4 0)
      | some b =>
        if d.get Obj.DMAP_LENGTH < b.length then ([], finish 3 0)
        else if d.populated a b.length then ([(a, b)], finish 2 b.length)
        else ([], finish 4 0)

/-! ### Meanings -/

def execMendRasterBuilt (s : State) : Host.Outcome State Fault Refusal := s.nextStore mendRasterBuilt
def execDecision (r : Req) (stripe : Word32) (choice : Byte) (s : State) : Host.Outcome State Fault Refusal :=
  let q := r.write 0x7803 0
  s.next (Dev.serveCommand q (decisionCommand q (choice.toNat * 2 ^ 32 + stripe.toNat)))
def execDeficitMapStart (r : Req) (s : State) : Host.Outcome State Fault Refusal :=
  let q := r.write 0x7840 5
  s.next (Dev.serveCommand q (dmapCommand q 1))
def execDeficitMapDone (s : State) : Host.Outcome State Fault Refusal := s.nextStore deficitMapDone

end Sys2Proof.Machine
end

