-- ==== Sys2Proof/Machine/Shot.lean ====
section
/-!
DEFINITION. Sys2Proof/Machine/Shot.lean: stripes and shots from the opening to the end: openings (R37, R44, R195 to
R198), arming (R353), advances (R262), launch and strobe (R357 to R362), hand-off (R269), drain (R287), and how
stripes, jobs and passes end (R97, R98, R110, R458).
-/
namespace Sys2Proof.Machine

/-! ### Which stripe is next (R109, R195, R196, R198) -/

/-- The index of the next writing stripe: after those opened, but for those withdrawn (R109). -/
def Ledger.nextStripe (l : Ledger) : Nat :=
  l.entries.foldl (fun n e =>
    if e.code = 0x0306 ∧ e.param 1 = 0 then e.param 0 + 1
    else if e.code = 0x0307 ∧ e.param 3 = 0 ∧ e.param 1 = 0 then min n (e.param 0)
    else n) 0

/-- The stripe is the one opened last, in the sequence of shots in use (R38, R61). -/
def Dev.newest (uid : Nat) (d : Dev) : Bool :=
  (d.stripes.getLast?).any fun s => decide (s.uid = uid ∧ s.sequence = d.sequence)

/-- STATE of 0x3020 follows the stripe opened last. -/
def Dev.stripeState (uid v : Nat) (d : Dev) : Dev := if d.newest uid then d.put Obj.STRIPE_STATE v else d

/-- Every context of slot 0 has begun the last tile row of its stripe (R196). -/
def Dev.lastRowBegun (s : Stripe) (d : Dev) : Bool :=
  (List.range 32).all fun q =>
    match d.ctx q with
    | some c => decide (c.row + 1 = s.src.tileRows ∧ (c.begun ∨ 5 ≤ c.state))
    | none => false

/-- The slot for the next writing stripe: 0 where it is free, 1 under R196. -/
def Dev.writingSlot (d : Dev) : Option Nat :=
  match d.slotStripe 0 with
  | none => some 0
  | some s => if (d.slotStripe 1).isNone && d.lastRowBegun s then some 1 else none

/-- Every context that serves an earlier stripe has completed its last tile row (R198). -/
def Dev.earlierDone (d : Dev) : Bool :=
  d.unfold.contexts.all fun e => decide (e.2.serves ≠ Serves.tiles ∨ (d.stripe? e.2.uid).isNone ∨ 5 ≤ e.2.state)

/-- What may open now: KIND, number and slot. -/
def Dev.nextOpening (d : Dev) : Option (Nat × Nat × Nat) :=
  let from_ (m : Mode) : Bool := decide (d.mode = m ∨ (d.mode = .hold ∧ d.get Obj.HOLD_ORIGIN = m.code))
  if d.mode = .measure then
    if d.stripes.any fun s => s.kind = 2 then none
    else some (2, (d.get Obj.MEASURE_SEQUENCE + 65535) % 65536, 8)
  else if from_ .write ∧ d.get Obj.JOB_STATE = 2 then
    let n := d.ledger.nextStripe
    if n < d.get Obj.JOB_STRIPES then d.writingSlot.map fun slot => (0, n, slot) else none
  else if from_ .mend ∧ 2 ≤ d.get Obj.BUILD_STATE ∧ d.earlierDone then
    (d.passStripes.find? fun m => ! m.opened).map fun m => (1, m.number, 3)
  else none

/-! ### Openings (R35, R44, R50, R246, R248, R324, R443) -/

/-- The stripe as it opens. -/
def Dev.newStripe (mem : Map Byte) (kind number slot : Nat) (d : Dev) : Stripe :=
  let p := d.package
  let m := d.ledger.mends.find? fun m => decide (m.number = number)
  let run := d.measuring
  let near := if kind = 0 then p.neighbours mem (d.get Obj.SEAM_MODE) number else (none, none)
  let e := p.stripe mem number
  let src := match kind, m with
    | 1, some m => m.src
    | 2, _ => { run.src with foldA := 0x80000000 + number }
    | _, _ => p.source mem number
  let direction := match kind, m with
    | 1, some m => m.direction
    | 2, _ => run.direction
    | _, _ => e.direction
  let origin := match kind, m with
    | 1, some m => m.origin
    | 2, _ => run.origin
    | _, _ => e.origin
  { uid := d.nextUid, kind := kind, sequence := d.sequence, number := number, src := src, direction := direction,
    origin := origin, blanked := d.blankedSegments,
    ssnBase := d.nextBase, entry := d.nextEntry,
    jobScale := if kind = 0 then p.doseScale mem else 0x4000, cellCount := if kind = 0 then p.cellCount mem else 0,
    vals := d.nextVals, tabs := d.nextTabs, tol := d.get Obj.DOSE_TOLERANCE, gains := d.effGains,
    minus := near.1, plus := near.2, columns := run.columns, slot := slot,
    original := if kind = 1 then (m.map (·.original)).getD 0 else number,
    rowOffset := if kind = 1 then (m.map (·.first)).getD 0 else 0,
    advanced := 0, launched := 0, struck := 0, frozen := 0, formed := 0, entered := 0, exited := 0, last := none,
    armed := false, clipPixels := 0, clipRows := 0, clipMax := 0, used := [], begun := 0, spoiled := false }

/-- STRIPE_OPENED (R438, R462, R619). -/
def Dev.openedEvent (s : Stripe) (set : Nat) (d : Dev) : Dev :=
  d.raiseJ 0 0x0306 s.ssnBase [s.number, s.kind, lo32 s.ssnBase, hi16 s.ssnBase]
    (le 4 s.number ++ le 1 s.kind ++ le 1 s.direction ++ le 1 set ++ [0] ++ le 4 s.src.length ++ le 4 0
      ++ le 8 (ofSigned 64 s.origin))

/-- The neighbours of a stripe by SEAM_MODE alone, whatever their length (R246). -/
def neighbourIndexes (mode count i : Nat) : List Nat :=
  if mode = 0 then [] else (if i = 0 then [] else [i - 1]) ++ if i + 1 < count then [i + 1] else []

/-- SEAM_MISMATCH of a writing stripe's opening (R246, R248). -/
def Dev.seamMismatch (mem : Map Byte) (s : Stripe) (d : Dev) : Dev :=
  let p := d.package
  let note (j cause : Nat) (d : Dev) : Dev := d.raise srcPress 0x0504 [s.number, j, cause]
  let ramp (tabs : Map (List Byte)) : List Byte := d.table tabs Obj.RAMP_TABLE 128
  if s.kind ≠ 0 then d
  else
    d.each (neighbourIndexes (s.val Obj.SEAM_MODE) (p.stripeCount mem) s.number) fun j d =>
      if (p.stripe mem j).length ≠ s.src.length then note j 3 d
      else
        match (d.ledger.openingOf 0 j).bind fun o => d.ledger.sets[o.set]? with
        | none => d
        | some v =>
          (d.when (decide (Map.get (dfltOf Obj.SEAM_OVERLAP) v.vals Obj.SEAM_OVERLAP ≠ s.val Obj.SEAM_OVERLAP))
            (note j 1)).when (decide (ramp v.tabs ≠ ramp s.tabs)) (note j 2)

/-- WAVE_BANK_SWITCH (R324). -/
def Dev.waveSwitch (s : Stripe) (d : Dev) : Dev :=
  let b := s.val Obj.WAVE_SELECT
  if b = d.get Obj.WAVE_IN_EFFECT then d
  else
    (d.raiseJ 0x3000 0x0709 s.ssnBase [b, lo32 s.ssnBase, hi16 s.ssnBase, d.get (Obj.WAVE_CHECK b)] []).put
      Obj.WAVE_IN_EFFECT b

/-- What the objects show of the stripe opened last. -/
def Dev.showStripe (s : Stripe) (d : Dev) : Dev :=
  let d1 := (((((((d.put Obj.STRIPE_INDEX s.number).put Obj.STRIPE_DIRECTION s.direction).put Obj.LENGTH_ROWS
    s.src.length).put Obj.SSN_BASE s.ssnBase).put Obj.SHOT_INDEX 0).puti 64 Obj.ORIGIN_COUNTS s.origin).put
    Obj.STRIPE_STATE 1).put Obj.KIND s.kind
  let d2 := (((((d1.put Obj.TOLERANCE_IN_EFFECT s.tol).put Obj.LEAD_MIN d1.leadRows).put Obj.FIRST_ROWS_READY 0).put
    Obj.COMMIT_PENDING 0).put Obj.SHOT_MAX_ERROR 0).each (List.range 16) fun g d => d.put (Obj.GROUP_PEAK g) 0
  ((d2.put (Obj.SVSTAT_MAX_ERROR 0) 0).put (Obj.SVSTAT_MAX_ERROR 1) 0).pressInEffect s

/-- Opens a stripe: an earlier one that still has its slot is served by it no longer (R198). -/
def Dev.openStripe (mem : Map Byte) (kind number slot : Nat) (d0 : Dev) : Dev :=
  let s := d0.newStripe mem kind number slot
  let d := { d0 with stripes := d0.stripes.map fun (t : Stripe) => if t.slot = slot then { t with slot := 9 } else t }
  let (set, d1) := if d.jobOpen then d.storeSet else (0, d)
  let d2 : Dev :=
    { d1 with stripes := d1.stripes ++ [s], nextUid := d1.nextUid + 1, nextEntry := d1.nextEntry + s.src.length,
              eff := s.vals, effBlobs := s.tabs }
  let d3 := ((((d2.openedEvent s set).fwChange).seamMismatch mem s).waveSwitch s).showStripe s
  let mark (m : MendStripe) : MendStripe := if kind = 1 ∧ m.number = number then { m with opened := true } else m
  (d3.onLedger fun l => { l with mends := l.mends.map mark }).openContexts s.uid mem

/-! ### Withdrawal, pause, STOP (R97, R98, R199, R254) -/

/-- A stripe is no longer in progress: the contexts that served it are idle. -/
def Dev.dropStripe (s : Stripe) (d : Dev) : Dev :=
  let own (e : Nat) : Bool := decide (s.entry ≤ e ∧ e < s.entry + s.src.length)
  let served := d.unfold.contexts.filter fun e => decide (e.2.serves = Serves.tiles ∧ e.2.uid = s.uid)
  let d1 := (d.each served fun e d => d.dropCtx e.1).onUnfold fun u =>
    { u with parts := u.parts.filter fun e => ! own (e.1 / 32),
             edges := u.edges.filter fun e => ! own (e.1 / 32), line := u.line.filter fun e => ! own e.1,
             queue := u.queue.filter fun r => r.uid ≠ s.uid, grid := u.grid.filter fun e => e.1 / 2 ^ 20 ≠ s.uid }
  { d1 with stripes := d1.stripes.filter fun t => t.uid ≠ s.uid }

/-- A stripe that has issued no shot is withdrawn (R97), by a pause (cause 1) or by STOP (cause 2): its SSNs are never
used. -/
def Dev.withdraw (cause : Nat) (s : Stripe) (d : Dev) : Dev :=
  let d1 := ((d.stripeEndedEvent s 0 0).when (decide (s.kind ≠ 2)) fun d => d.discardStripe s cause).discardFormed s
  let own (e : Nat × ConvRow) : Bool := decide (e.2.uid = s.uid)
  let d2 := d1.onConv fun c =>
    { c with rows := c.rows.filter fun e => ! own e, landing := c.landing.filter fun e => ! own e, flight := [],
             shots := c.shots.filter fun t => t.uid ≠ s.uid }
  let d3 := (d2.stripeState s.uid 4).dropStripe s
  if s.sequence = d.sequence ∧ d3.ssnNext < s.ssnBase + s.shots then d3.put Obj.SSN_NEXT (s.ssnBase + s.shots) else d3

/-- A mend pass with no stripe left in progress ends once the mode has left it (R458). -/
def Dev.settlePass (d : Dev) : Dev :=
  let running := d.mode = .mend ∨ (d.mode = .hold ∧ d.get Obj.HOLD_ORIGIN = 9)
  if d.get Obj.BUILD_STATE ≠ 0 ∧ ¬ running ∧ ¬ d.stripes.any fun s => s.kind = 1 then d.endPass false else d

/-- A pending pause acts (R97): stripes that have issued no shot are withdrawn, and the device goes to READY. -/
def Dev.actPause (d : Dev) : Dev :=
  let d1 := (d.put Obj.PAUSE_PENDING 0).each (d.stripes.filter fun s => s.launched = 0 ∧ s.kind ≠ 2) (Dev.withdraw 1)
  let d2 := if d1.mode = .write ∨ d1.mode = .mend ∨ d1.mode = .hold then d1.changeMode 5 .ready else d1
  d2.settlePass

/-- A stripe shoots: its origin is armed and it has issued a shot. -/
def Dev.shooting (d : Dev) : Bool := d.armedStripe.any fun s => decide (0 < s.launched)

/-- A pause that is pending acts where no stripe shoots. -/
def Dev.pauseIfIdle (d : Dev) : Dev :=
  if d.get Obj.PAUSE_PENDING = 1 ∧ ! d.shooting then d.actPause else d

/-- The origin is disarmed after the stripe's last strobe (R360). -/
def Dev.disarm (uid : Nat) (d : Dev) : Dev :=
  ((d.onStripe uid fun s => { s with armed := false }).stripeState uid 3).pace

/-- A stripe ends at its present shot (R98, R360): rows that have not entered S0 are discarded, shots that are not
launched are dropped, and its slot serves it no longer (R195, R199). A stripe without a shot is withdrawn; of one whose
shots are over, contexts that are done are discarded. -/
def Dev.stopStripe (s : Stripe) (d : Dev) : Dev :=
  if s.launched = 0 then d.withdraw 2 s
  else
    let d1 := (d.when (decide (s.kind ≠ 2)) fun d => d.discardStripe s 2).onStripe s.uid fun s => { s with slot := 9 }
    if ¬ s.armed then d1
    else
      let d2 := (d1.discardFormed s).onStripe s.uid fun s => { s with last := some (s.launched - 1) }
      let d3 := d2.onConv fun c => { c with shots := c.shots.filter fun t => t.uid ≠ s.uid || t.launched }
      if s.struck = s.launched then d3.disarm s.uid else d3

/-- MEASURE ends (R93, R295): the stripe ends at its present shot; the transition releases the pool contexts. -/
def Dev.endMeasure (cause : Nat) (d : Dev) : Dev :=
  if d.mode ≠ .measure then d
  else (d.changeMode cause .ready).each (d.stripes.filter fun s => s.kind = 2) Dev.stopStripe

/-! ### How jobs end (R37, R110) -/

/-- The job's last writing stripe has ended: mend, or READY (R93). -/
def Dev.afterJob (mem : Map Byte) (d : Dev) : Dev :=
  match d.mode with
  | .write =>
    if d.get Obj.AUTO_MEND = 1 ∧ d.mendable ≠ [] ∧ ¬ d.mendAreaBad mem then (d.changeMode 5 .mend).startPass
    else d.changeMode 5 .ready
  | .hold => if d.get Obj.HOLD_ORIGIN = 7 then d.changeMode 5 .ready else d
  | _ => d

/-- The job ends early at stripe `n` (R37, R110). -/
def Dev.endEarly (mem : Map Byte) (n : Nat) (d : Dev) : Dev :=
  let count := d.get Obj.JOB_STRIPES
  let d1 := d.each ((List.range (count - n)).map (n + ·)) fun i d =>
    d.listRows i 0 ((d.package.stripe mem i).length - 1) 0 reasonUnopened
  let d2 := ((d1.put Obj.JOB_STATE 5).put Obj.FIRST_UNOPENED n).raise 0 0x0304
    [d.get Obj.JOB_ID, d.get Obj.STRIPES_DONE, n]
  if d2.stripes.isEmpty then d2.afterJob mem else d2

/-- STRIPE_OPENED: the next stripe opens, unless a pause is pending or its SSNs would run out. -/
def stripeOpened (mem : Map Byte) (d0 : Dev) : Dev :=
  let d := d0.pauseIfIdle
  if ¬ d.running ∨ d.get Obj.PAUSE_PENDING = 1 then d
  else
    match d.nextOpening with
    | none => d
    | some (kind, number, slot) =>
      let s := d.newStripe mem kind number slot
      if s.ssnBase + s.shots ≤ 2 ^ 48 then (d.openStripe mem kind number slot).notePassed
      else if kind = 0 then d.endEarly mem number
      else if kind = 1 then (if d.stripes.isEmpty then d.endPass false else d)
      else d.endMeasure 5

/-! ### Advances (R262, R272, R281) -/

/-- S0 takes row `k` of the stripe (R253, R281); after its last row the slots exchange (R197). -/
def Dev.takeIn (s : Stripe) (k : Nat) (d : Dev) : Dev :=
  let (targets, reasons, d1) := d.takeRow s k
  let d2 := ((d1.reasonRuns s k reasons).enterRow s k targets reasons).onStripe s.uid fun s => { s with entered := k + 1 }
  if k + 1 < s.src.length then d2
  else if s.kind = 0 then d2.exchangeSlots
  else if s.kind = 1 then d2.onStripe s.uid fun s => { s with slot := 9 }
  else d2

/-- A row whose transfer is not complete at boundary `k` (R269, R272), with the segment that should have sent it. -/
def Dev.overdue (k : Nat) (d : Dev) : Option (Nat × ConvRow) :=
  match d.conv.rows.find? fun e => e.2.y + 128 * (e.1 / 128 + 1) ≤ k with
  | some e => some (e.1 / 128, e.2)
  | none => (d.conv.landing.find? fun e => decide (e.2.y + 128 * e.1 ≤ k)).map fun e => (e.1 - 1, e.2)

/-- HANDOFF_STALL. -/
def Dev.stalled (k : Nat) (d : Dev) : Dev :=
  match d.overdue k with
  | some (seg, r) =>
    if d.mode.canSafe then
      ((d.each (d.stripe? r.uid).toList fun s d => d.raiseOf s.uid (0x1000 + seg) 0x060B noShot [seg, r.number, r.y] [])).enterSafe 6
    else d
  | none => d

/-- The lanes that leave on another physical lane. -/
def Dev.lanesNow (d : Dev) : Map Nat :=
  (List.range 128).filterMap fun l => if d.get (Obj.LANE_MAP l) = l then none else some (l, d.get (Obj.LANE_MAP l))

/-- The advance of shot `k` of a stripe at STAGE time `t`: everything due at its boundary happens. -/
def Dev.shotAdvance (mem : Map Byte) (uid k t : Nat) (late : Bool) (d : Dev) : Dev :=
  match d.stripe? uid with
  | none => d
  | some s =>
    let x := s.ssnBase + k
    let d1 := ((d.switchEngines x).stepRepairs x).switchLanes x
    let engines := (List.range 64).map fun seg => d1.get (Obj.ENGINE_MAP seg)
    let shot : Shot :=
      { uid := uid, k := k, ssn := x, advanceAt := t, launched := false, blank := false, launchAt := 0, strobeAt := 0,
        waits := false, lanes := d1.lanesNow, struck := none, engines := engines, lvt := d1.conv.lvt,
        segs := ((List.range 64).filter fun seg => engines.getD seg 0xFF = 0xFF).map fun seg => (seg, SegShot.idle) }
    let d2 := (d1.onConv fun c => { c with shots := c.shots ++ [shot], steps := k + 1 }).onStripe uid fun s =>
      { s with advanced := k + 1 }
    let d3 := (d2.freezeTo mem uid k).stalled k
    let d4 := (if k < s.src.length ∧ (d3.rowIn 0 (k % 128)).isNone then d3.takeIn s k else d3).noteLead
    d4.checkpoint ((d4.stripe? uid).getD s) x late

/-! ### Arming (R353) -/

/-- The live-visits table of a stripe (R281): as its opening found the engine map, with effect from SSN_base on; where the
map has changed since, the table rebuilt from it takes its place at the same SSN (R42, R282). -/
def Dev.openingTable (s : Stripe) (d : Dev) : Dev :=
  let d1 := d.switchTable { gains := s.gains, direction := s.direction, blanked := s.blanked } 1 s.ssnBase
  let now := d.blankedSegments
  if now = s.blanked then d1
  else d1.switchTable d1.rebuilt (if now &&& s.blanked = now then 3 else 2) s.ssnBase

/-- The origin of stripe `s` is armed at progress `x`. -/
def Dev.armOrigin (mem : Map Byte) (s : Stripe) (x : Int) (d : Dev) : Dev :=
  let t := d.stage.now
  let d1 := (d.onStage fun g => { g with d := x, m := x, reversed := false }).onStripe s.uid fun s => { s with armed := true }
  let d2 := ((d1.takeOffset.servoArm).openingTable s).stripeState s.uid 2
  let d3 := d2.onConv fun c => { c with steps := 0 }
  let d4 := if s.kind = 0 then d3.onLedger fun l => { l with passes := 0 } else if s.kind = 1 then d3.put Obj.BUILD_STATE 3
    else d3
  ((d4.shotAdvance mem s.uid 0 t false).shotAdvance mem s.uid 1 t false).pace

/-- ORIGIN_ARM: the stripe that is to be armed next, where d is below 0 (R353); a pending overdose enters SAFE in its place
(R60). -/
def originArm (mem : Map Byte) (d0 : Dev) : Dev :=
  let d := d0.pauseIfIdle
  match d.toArm with
  | none => d
  | some (s, x) =>
    if 0 ≤ x then d.originPassed s x
    else if d.ledger.overdose then d.enterSafe 6
    else d.armOrigin mem s x

/-! ### Launch (R264, R265, R357, R361, R362) -/

/-- The shot to launch next: the lowest whose advance is made, once the shot before it has its strobe set. -/
def Dev.toLaunch (d : Dev) : Option (Stripe × Shot) :=
  match d.armedStripe with
  | none => none
  | some s =>
    let at_ (k : Nat) : Option Shot := d.conv.shots.find? fun t => decide (t.uid = s.uid ∧ t.k = k)
    let ready := decide (s.launched = 0) || (at_ (s.launched - 1)).all fun t => t.struck.isSome || ! t.waits
    if s.last.isSome ∨ ¬ ready then none else (at_ s.launched).map fun t => (s, t)

/-- The sample period of the shot source, ps (R345, R347). -/
def Dev.samplePeriod (d : Dev) : Nat := if d.get Obj.SHOT_SOURCE < 2 then 50000 else 4000

/-- The strobe that R357 sets at the launch; none while it waits for a crossing. -/
def Dev.strobeTime (s : Stripe) (t : Shot) (d : Dev) : Option Nat :=
  (d.crossing s t.k).map fun c =>
    r125 (max (max c (d.afterPrevious s t.k)) (max (t.advanceAt + 420000 + d.lead) (d.stage.now + d.lead)))

/-- A shot launched at `l` is sent with BLANK for a reason other than overspeed: the mode, an interlock, a supply WARN
(R571), the servo. -/
def Dev.otherBlank (l : Nat) (d : Dev) : Bool :=
  decide (d.mode ≠ .write ∧ d.mode ≠ .mend ∧ d.mode ≠ .measure) || d.blanked || d.warnPresent
    || d.servoBlanks l

/-- The predicted error at a strobe exceeds the tolerance (R357). -/
def Dev.overspeeds (s : Stripe) (t : Shot) (at_ : Nat) (d : Dev) : Bool :=
  decide (d.strobeTol s < (d.stage.m - d.theta t.k) * 65536 + d.velocity s * ((at_ : Int) - d.stage.now))

/-- A shot tested for overspeed begins, goes on with or ends a run (R362). -/
def Dev.overspeedRun (t : Shot) (fast : Bool) (d : Dev) : Dev :=
  match fast, d.stage.run with
  | true, none =>
    let d1 := d.raiseJ srcStage 0x0801 t.ssn [lo32 t.ssn, hi16 t.ssn, d.get (Obj.CHAN_SPEED (d.get Obj.SHOT_SOURCE))] []
    ((d1.bump Obj.OVERSPEED_RUNS).add 64 Obj.OVERSPEED_SHOTS 1).onStage fun g => { g with run := some 1 }
  | true, some n => (d.add 64 Obj.OVERSPEED_SHOTS 1).onStage fun g => { g with run := some (n + 1) }
  | false, some n =>
    (d.raiseJ srcStage 0x0802 t.ssn [lo32 t.ssn, hi16 t.ssn, n] []).onStage fun g => { g with run := none }
  | false, none => d

/-- The segment's codes for the shot are not in the LINK islands (R265). -/
def Shot.codesLate (t : Shot) (seg : Nat) : Bool := (Map.find t.segs seg).isNone

/-- COMPUTE_LATE of every segment whose codes are missing. -/
def Dev.computeLate (s : Stripe) (t : Shot) (d : Dev) : Dev :=
  d.each ((List.range 64).filter t.codesLate) fun seg d =>
    (d.raiseOf s.uid (0x1000 + seg) 0x0606 t.ssn [seg, t.engine seg, lo32 t.ssn, hi16 t.ssn] []).bump Obj.COMPUTE_LATE

/-- The frame of logical lane `lam` starts, after an ALIGN frame where one is due (R298, R302, R307). -/
def Dev.sendShotFrame (s : Stripe) (t : Shot) (blank : Bool) (lam : Nat) (d : Dev) : Dev :=
  let seg := lam / 2
  let h := lam % 2
  let lane := (Map.find t.lanes lam).getD lam
  let b := blank || t.codesLate seg
  let codes := match Map.find t.segs seg, b with
    | some g, false => (g.codes.drop (2048 * h)).take 2048
    | _, _ => List.replicate 2048 0
  let head : ShotHead :=
    { ssn := t.ssn, direction := s.direction, wbank := s.val Obj.WAVE_SELECT, tumble := s.val Obj.TUMBLE_ON, kind := s.kind }
  if (Map.find d.link.patterns lane).isSome then d
  else
    (d.when (d.link.alignDue.contains lane) fun d => d.sendAlign lane).send
      (.frame lane (d.skewDelay lane) (head.wire seg h b codes))

/-- Every lane's frame of the shot, and an ALIGN frame on every spare that is not in use (R301). -/
def Dev.sendFrames (s : Stripe) (t : Shot) (blank : Bool) (d : Dev) : Dev :=
  (d.each (List.range 128) fun lam d => d.sendShotFrame s t blank lam).each ((List.range 8).map (128 + ·)) fun l d =>
    d.when (decide (d.get (Obj.LANE_STATE l) = 1) && (Map.find d.link.patterns l).isNone) fun d => d.sendAlign l

/-- The shot is launched with its strobe at `at_`. -/
def Dev.launchShot (s : Stripe) (t : Shot) (at_ : Nat) (d : Dev) : Dev :=
  let l := at_ - d.lead
  let other := d.otherBlank l
  let fast := ! other && d.overspeeds s t at_
  let blank := other || fast
  let d1 := d.when (! other) fun d => d.overspeedRun t fast
  let d2 := (d1.servoLaunch l t.ssn).computeLate s t
  let d3 := (d2.sendIdle t.ssn).sendFrames s t blank
  let codes := if blank then [] else t.segs.map fun e => (e.1, e.2.codes)
  let d4 := d3.tumble (s.val Obj.GROUP_LIMIT) t.ssn (groupCounts t.ssn s.direction codes)
  let sent (u : Shot) : Shot :=
    let v := { u with launched := true, blank := blank, launchAt := l, strobeAt := at_, waits := false }
    if blank then v.discard else v
  let d5 := (d4.onShot t.ssn sent).onStripe s.uid fun s => { s with launched := t.k + 1 }
  let d6 := (d5.put Obj.SSN_NEXT (t.ssn + 1)).put Obj.SSN_LAST_ISSUED t.ssn
  ((d6.when (d6.newest s.uid) fun d => d.put Obj.SHOT_INDEX t.k).pace).pruneShots

/-- LAUNCH. -/
def launch (d : Dev) : Dev :=
  match d.toLaunch with
  | none => d
  | some (s, t) =>
    match d.strobeTime s t with
    | none => d
    | some at_ =>
      if d.mode = .safe ∨ ¬ d.running ∨ d.stage.now + d.samplePeriod + d.lead ≤ at_ then d else d.launchShot s t at_

/-! ### Strobe (R308, R358 to R360) -/

/-- The shot whose strobe fires next. -/
def Dev.toStrobe (d : Dev) : Option (Stripe × Shot) :=
  match d.armedStripe with
  | none => none
  | some s =>
    (d.conv.shots.find? fun t => decide (t.uid = s.uid) && t.launched && t.struck.isNone).bind fun t =>
      if ! t.waits || (t.blank && decide (s.last = some t.k)) then some (s, t) else none

/-- e in 1/256 count: the progress at the strobe, between the present sample and the next (R359). -/
def Dev.strobeError (s : Stripe) (t : Shot) (next : Nat) (position : Int) (d : Dev) : Int :=
  let p0 := d.sourceCounts (d.chan (d.get Obj.SHOT_SOURCE)).pos
  let p1 := d.sourceCounts position
  let e0 := d.progress s p0 - d.theta t.k
  let t0 := d.stage.now
  if next ≤ t0 ∨ t.strobeAt ≤ t0 then 256 * e0
  else
    nearest (256 * (e0 * ((next : Int) - t0) + d.sign s * (p1 - p0) * ((t.strobeAt : Int) - t0))) ((next : Int) - t0)

/-- The rows that a shot visits. -/
def Stripe.visited (k : Nat) (s : Stripe) : List Nat :=
  (List.range 128).flatMap fun n => halfRows s.src.length k (n / 2) (n % 2)

/-- The error of a strobe is reported, and a shot beyond the tolerance is uncertain (R359). -/
def Dev.noteError (s : Stripe) (t : Shot) (e : Int) (d : Dev) : Dev :=
  let d1 := d.puti 32 Obj.LAST_ERROR (clampInt (-2147483648) 2147483647 e)
  if t.blank then d1
  else
    let d2 := if d1.get Obj.SHOT_MAX_ERROR < e.natAbs then d1.put Obj.SHOT_MAX_ERROR (min 0xFFFFFFFF e.natAbs) else d1
    if d2.strobeTol s < (e.natAbs : Int) * 256 then
      ((d2.raiseJ srcStage 0x0806 t.ssn [lo32 t.ssn, hi16 t.ssn, ofSigned 32 e] []).add 64 Obj.STROBES_OFF 1).markUncertain
        s.uid (s.visited t.k)
    else d2

/-- Halves whose 4.0 µs have passed are decided (R268, R439). -/
def Dev.expireAcks (d : Dev) : Dev :=
  let due := d.conv.shots.filter fun t => t.struck.any fun r => decide (r + 4000 ≤ d.clock.raw)
  d.each due fun t d => d.each (List.range 128) fun n d => d.decideHalf t.ssn (n / 2) (n % 2) true

/-- After a stripe's last strobe the origin is disarmed and a pending pause acts (R97, R360). -/
def Dev.afterLast (s : Stripe) (k : Nat) (d : Dev) : Dev :=
  if k + 1 = s.shots ∨ s.last = some k then (d.disarm s.uid).pauseIfIdle else d

/-- STROBE: `next` and `position` are the sample after the strobe, `cross` the position of the servo's axis 1 at the
strobe in 1/256 count, `late` says that the checkpoint before is not in non-volatile memory yet. -/
def strobe (next : Nat) (position cross : Int) (late : Bool) (mem : Map Byte) (d0 : Dev) : Dev :=
  match d0.toStrobe with
  | none => d0
  | some (s, t) =>
    let at_ := t.strobeAt
    let e := d0.strobeError s t next position
    let d := d0.at (at_ / 1000)
    let d1 := ((d.onShot t.ssn fun u => { u with struck := some d.clock.raw, waits := false }).onStripe s.uid fun s =>
      { s with struck := t.k + 1 }).send
      (.strobe t.ssn at_ (d.get Obj.STROBE_WIDTH) (decide (d.get Obj.SHOTB_ENABLE = 1)))
    let mark (d : Dev) : Dev := d.markUncertain s.uid (s.visited t.k)
    let sat (a : Nat) (d : Dev) : Dev := if t.blank then d else d.servoSaturation a t.ssn t.launchAt at_ mark
    let d2 := (sat 1 (sat 0 (d1.noteError s t e))).captureStrobe t.k t.ssn at_
    let d3 := d2.expireAcks
    let d4 := if t.k + 2 < s.shots ∧ s.last.isNone then d3.shotAdvance mem s.uid (t.k + 2) at_ late else d3
    ((d4.servoStrobe s t.k at_ e cross).afterLast s t.k).pruneShots

/-! ### Hand-off and exit (R269, R273) -/

/-- The entry of a row's age-112 visit in a segment has been disposed of. -/
def Dev.ageDone (r : ConvRow) (seg : Nat) (d : Dev) : Bool :=
  match d.conv.shots.find? fun t => decide (t.uid = r.uid ∧ t.k = r.y + 128 * seg + 112) with
  | some t => (Map.find t.segs seg).all fun g => g.half1.disposed
  | none => true

/-- The strobe of shot y + 128s + 120 has fired, or the drain has passed that age. -/
def Dev.ageReached (r : ConvRow) (seg : Nat) (d : Dev) : Bool :=
  match d.stripe? r.uid with
  | some s => decide (r.y + 128 * seg + 120 < (if s.armed then s.struck else d.conv.steps))
  | none => false

/-- The oldest row of a segment that may leave it. -/
def Dev.toSend (seg : Nat) (d : Dev) : Option (Nat × ConvRow) :=
  let rows := (d.rowsOf seg).filter fun e => d.ageReached e.2 seg && d.ageDone e.2 seg
  (rows.foldl (fun (best : Option (Nat × ConvRow)) e =>
    match best with
    | some b => if e.2.y < b.2.y then some e else best
    | none => some e) none).map fun e => (e.1 % 128, e.2)

/-- A row leaves S63: it is tested and its slot is empty. -/
def Dev.exitRow (slot : Nat) (r : ConvRow) (d : Dev) : Dev :=
  let d1 := (d.clearRow 63 slot).land 63
  match d.stripe? r.uid with
  | some s => d1.rowExits s r
  | none => d1

/-- HANDOFF: a segment sends its oldest row that is due; S63 sends it to the exit checker. -/
def handoff (seg : Nat) (d : Dev) : Dev :=
  match d.toSend seg, Map.find d.conv.flight seg with
  | some (slot, r), none =>
    if seg = 63 then d.exitRow slot r
    else d.onConv fun c => { c with flight := Map.insert seg (slot + 1) c.flight }
  | _, _ => d

/-! ### Drain and stripe end (R287, R288, R110, R458) -/

/-- Rows whose age reaches 128 in a segment move on, S63 first. -/
def Dev.moveDue (k : Nat) (d : Dev) : Dev :=
  d.each (List.range 64).reverse fun seg d =>
    d.each ((d.rowsOf seg).filter fun e => e.2.y + 128 * (seg + 1) ≤ k) fun e d =>
      if seg = 63 then d.exitRow (e.1 % 128) e.2 else d.moveRow seg (e.1 % 128) e.2

/-- Every mend-pass stripe of the pass has ended. -/
def Dev.passDone (d : Dev) : Bool :=
  d.passStripes.all (·.opened) && ! d.stripes.any fun s => decide (s.kind = 1)

/-- The last row of a stripe has left S63: the stripe ends, and with it perhaps the job, the pass or MEASURE. -/
def Dev.finishStripe (mem : Map Byte) (s : Stripe) (d : Dev) : Dev :=
  let d1 := ((d.closeStripe s).stripeState s.uid 4).dropStripe s
  if s.kind = 0 then
    let d2 := d1.bump Obj.STRIPES_DONE
    let all := d2.get Obj.JOB_STRIPES ≤ d2.ledger.nextStripe
    if d2.stripes.isEmpty ∧ d2.get Obj.JOB_STATE = 2 ∧ all then
      ((d2.put Obj.JOB_STATE 4).raise 0 0x0303 [d2.get Obj.JOB_ID, d2.get Obj.STRIPES_DONE]).afterJob mem
    else if d2.stripes.isEmpty ∧ d2.get Obj.JOB_STATE = 5 then d2.afterJob mem
    else d2
  else if s.kind = 1 then
    let running := d1.mode = .mend ∨ (d1.mode = .hold ∧ d1.get Obj.HOLD_ORIGIN = 9)
    if running then (if d1.passDone then d1.endPass true else d1) else d1.settlePass
  else if d1.mode = .measure then d1.changeMode 5 .ready
  else d1

/-- The stripe that drains: not armed, its shots over. -/
def Dev.draining (d : Dev) : Option Stripe :=
  d.stripes.find? fun s => decide (0 < s.launched) && ! s.armed

/-- The entries of the stripe's shots have been disposed of (R287). -/
def Dev.allDisposed (s : Stripe) (d : Dev) : Bool :=
  d.conv.shots.all fun t => decide (t.uid ≠ s.uid) || t.disposed

/-- DRAIN_STEP: every row advances one age; the stripe ends with its last row. -/
def drainStep (mem : Map Byte) (d0 : Dev) : Dev :=
  let d := d0.pauseIfIdle
  match d.draining with
  | none => d
  | some s =>
    if ¬ d.running ∨ ! d.allDisposed s then d
    else
      let k := d.conv.steps
      let x := d.nextAdvanceSsn
      let d1 := (((d.onConv fun c => { c with steps := k + 1, flight := [] }).stepRepairs x).switchLanes x).moveDue k
      if d1.conveyorEmpty then d1.finishStripe mem ((d1.stripe? s.uid).getD s) else d1

/-! ### Meanings -/

def execStripeOpened (s : State) : Host.Outcome State Fault Refusal := s.nextMem stripeOpened
def execOriginArm (s : State) : Host.Outcome State Fault Refusal := s.nextMem originArm
def execLaunch (s : State) : Host.Outcome State Fault Refusal := s.next launch
def execStrobe (next : Nat) (position cross : Int) (checkpointLate : Bool) (s : State) :
    Host.Outcome State Fault Refusal := s.nextMem (strobe next position cross checkpointLate)
def execHandoff (segment : Fin 64) (s : State) : Host.Outcome State Fault Refusal := s.next (handoff segment.val)
def execDrainStep (s : State) : Host.Outcome State Fault Refusal := s.nextMem drainStep

end Sys2Proof.Machine
end

