-- ==== Sys2Proof/Machine/Recovery.lean ====
section
/-!
DEFINITION. Sys2Proof/Machine/Recovery.lean: recovery after a reset of the main die
(13_dose_ledger_and_recovery, R447 to R453; R60; the restored parts of R291 and R340).
-/
namespace Sys2Proof.Machine

/-! ### The scan in WAKE (R447, R448) -/

/-- What one entry of the journal restores: engines, sub-arrays, lanes. -/
def Dev.restoreEntry (e : JournalEntry) (d : Dev) : Dev :=
  let p := e.param
  match e.code with
  | 0x0602 => d.put (Obj.ENGINE_STATE (p 0)) 2
  | 0x0603 => (d.put (Obj.ENGINE_MAP (p 1)) (p 0)).put (Obj.ENGINE_STATE (p 0)) 0
  | 0x0604 => d.put (Obj.ENGINE_MAP (p 0)) 0xFF
  | 0x060F => d.put (Obj.ENGINE_STATE (p 0)) 1
  | 0x060E => d.put (Obj.SEGMENT_MEMORY (p 0)) (0x200 + p 1)
  | 0x0701 =>
    ((d.put (Obj.LANE_MAP (p 0)) (bits (p 1) 7 0)).put (Obj.LANE_STATE (bits (p 1) 15 8)) 3).put
      (Obj.LANE_STATE (bits (p 1) 7 0)) 2
  | 0x0702 => ((d.put (Obj.LANE_MAP (p 0)) (p 0)).put (Obj.LANE_STATE (p 0)) 0).put (Obj.LANE_STATE (p 1)) 1
  | 0x0B06 => d.put Obj.PASSES (p 0)
  | _ => d

/-- The stripe of an opening has ended, was withdrawn, or was settled by a recovery. -/
def Ledger.endedAfter (o : Opening) (l : Ledger) : Bool :=
  (l.entries.drop (o.jseq + 1)).any fun e =>
    decide (e.code = 0x0B04 ∨ (e.code = 0x0307 ∧ e.param 3 = o.kind ∧ e.param 0 = o.number))

/-- Openings without an end, in journal order. -/
def Ledger.unended (l : Ledger) : List Opening := l.openings.filter fun o => ! l.endedAfter o

/-- An OVERDOSE_RECORD that no journalled change to SAFE follows (R60). -/
def Ledger.overdosePending (l : Ledger) : Bool :=
  l.entries.foldl (fun p e =>
    if e.code = 0x0B02 then true else if e.code = 0x0201 ∧ e.param 1 = 11 then false else p) false

/-- The stripe that the reset cut, as its latest checkpoint holds it. -/
def Dev.cutOf (o : Opening) (d : Dev) : Cut :=
  let own := (d.ledger.slotA.toList ++ d.ledger.slotB.toList).filter fun c =>
    decide (c.stripe = o.number ∧ c.kind = o.kind ∧ o.ssnBase ≤ c.ssn)
  let best := own.foldl (fun (b : Option Checkpoint) c =>
    match b with
    | some x => if x.ssn < c.ssn then some c else b
    | none => some c) none
  { ssnBase := o.ssnBase, c := (d.ledger.latest.map (·.ssn)).getD 0,
    disposed := (best.map (·.disposed)).getD o.ssnBase, rowsDone := (best.map (·.rowsDone)).getD 0, echoes := [] }

/-- JOB_STATE as the journal shows it: ended early, ended, or accepted (R110). -/
def Dev.jobStateNow (d : Dev) : Nat :=
  if d.ledger.records.any fun r => decide (r.reason = reasonUnopened) then 5
  else if d.get Obj.JOB_STRIPES ≤ d.ledger.nextStripe then 4
  else 2

/-- What the objects show of the open job. -/
def Dev.restoreJob (j : OpenJob) (d : Dev) : Dev :=
  let first := (d.ledger.records.find? fun r => decide (r.reason = reasonUnopened)).map (·.stripe)
  let ended := (d.ledger.entries.filter fun e => decide (e.code = 0x0307 ∧ e.param 3 = 0 ∧ 0 < e.param 1)).length
  let d1 := (((d.put Obj.JOB_STRIPES j.stripes).put Obj.STRIPES_DONE ended).put Obj.FIRST_UNOPENED
    (first.getD 0)).put Obj.NEXT_NUMBER d.ledger.mends.length
  d1.put Obj.JOB_STATE d1.jobStateNow

/-- An opened stripe that cannot have issued a shot is withdrawn. -/
def Dev.withdrawOpening (o : Opening) (d : Dev) : Dev :=
  d.raiseJ 0 0x0307 noShot [o.number, 0, 0, o.kind] (le 8 0 ++ le 1 o.kind)

/-- The stripe of an opening was cut; a MEASURE stripe only sets the restart SSN. -/
def Dev.cutStripe (o : Opening) (d : Dev) : Dev :=
  if o.kind = 2 then d
  else
    ({ d with rescue := { at_ := d.clock.raw, cut := some (d.cutOf o), seen := [] } }.put Obj.RECOVERY_STATE 1).put
      Obj.CUT_STRIPE o.number

/-- Records in a mend pass when the reset came: those of the cut mend-pass stripe are mended by its rows, the others
take back their STATE (R431). -/
def Dev.settleRecords (o : Option Opening) (d : Dev) : Dev :=
  let cut (r : LedgerRecord) : Bool := o.any fun x => decide (x.kind = 1 ∧ r.mendStripe = x.number)
  (d.mapRecords fun r => if r.state = 1 ∧ cut r then { r with state := 2 } else r).revertRecords

/-- The recovery scan of the journal. -/
def Dev.scanJournal (d : Dev) : Dev :=
  let d0 := d.each d.ledger.entries Dev.restoreEntry
  match d0.ledger.job with
  | none => d0
  | some j =>
    let restart := (d0.ledger.latest.map (·.ssn)).getD 0 + 8192
    let d1 := (d0.put Obj.SSN_NEXT restart).put Obj.RESTART_SSN restart
    let d2 := d1.onLedger fun l => { l with overdose := l.overdose || l.overdosePending }
    let d3 := match d2.ledger.unended with
      | [] => d2.settleRecords none
      | o :: later => ((d2.cutStripe o).settleRecords (some o)).each later Dev.withdrawOpening
    d3.restoreJob j

/-! ### After the scan (R447, R452) -/

/-- RECOVERY_DONE with nothing replayed. -/
def Dev.nothingCut (d : Dev) : Dev :=
  let r := d.get Obj.RESTART_SSN
  (d.put Obj.RECOVERY_STATE 4).raiseJ 0 0x0B04 noShot [lo32 r, hi16 r, 0, 0] []

/-- The scan found no cut stripe in an open job: recovery waits for the package where the store lost its contents, and
is complete otherwise. -/
def Dev.scanDone (d : Dev) : Dev :=
  if d.ledger.job.isNone ∨ d.get Obj.RECOVERY_STATE = 1 then d
  else if d.get Obj.CONTENTS_KEPT = 1 then d.nothingCut
  else d.put Obj.RECOVERY_STATE 2

/-! ### Echoes (R449) -/

/-- The echo that a frame of lane `j` brings for a segment. -/
def Report.echo (j seg : Nat) (f : Report) : Echo :=
  let w := f.entryOf j seg
  { last := bits w 47 0, cur := f.cur, hist0 := bits w 55 48, hist1 := bits w 63 56 }

/-- While recovery reads echoes, the first valid frame on either lane of a segment is the segment's report. -/
def Dev.takeEcho (j : Nat) (report : Option Report) (d : Dev) : Dev :=
  match report, decide (d.get Obj.RECOVERY_STATE = 1 ∧ d.mode = .service) with
  | some f, true =>
    d.each (laneSegments j) fun seg d =>
      if (Map.find d.rescue.seen seg).isSome then d
      else { d with rescue := { d.rescue with seen := Map.insert seg (f.echo j seg) d.rescue.seen } }
  | _, _ => d

/-- The tests of an echo. -/
def Cut.accepts (e : Echo) (c : Cut) : Bool :=
  decide (c.ssnBase ≤ e.last ∧ e.last < c.c + 8192 ∧ c.disposed ≤ e.last + 1)

/-- ECHO_WAIT: every segment has reported, or the time is over; the replay starts, or the package is awaited. -/
def echoWait (raw : Nat) (d0 : Dev) : Dev :=
  let d := d0.at raw
  let late := d.rescue.at_ + d.get Obj.ECHO_WAIT * 1000000 ≤ d.clock.raw
  match d.rescue.cut with
  | none => d
  | some c =>
    if d.get Obj.RECOVERY_STATE ≠ 1 ∨ d.mode ≠ .service ∨ ¬ (late ∨ 64 ≤ d.rescue.seen.length) then d
    else
      let c1 := { c with echoes := d.rescue.seen.filter fun e => c.accepts e.2 }
      { d with rescue := { d.rescue with cut := some c1 } }.put Obj.RECOVERY_STATE
        (if d.get Obj.CONTENTS_KEPT = 1 then 3 else 2)

/-! ### CONTINUE (R452) -/

/-- A write of 0x7830:06. -/
def recoveryCommand (q : Query) (mem : Map Byte) (v : Nat) (d : Dev) : Answer :=
  let h := d.package.bytes mem 0 256
  let crc := (d.ledger.job.map (·.headerCrc)).getD 0
  d.command q 1 v
    [(.stateForbids, decide (d.get Obj.RECOVERY_STATE ≠ 2)), (.range, decide (v ≠ 1)),
     (.check, decide (¬ (field h 252 4 = crc ∧ crc32c (h.take 252) = crc)))]
    fun d => if d.rescue.cut.isSome then d.put Obj.RECOVERY_STATE 3 else d.nothingCut

/-! ### The replay (R450, R451, R453) -/

/-- Segments without an accepted echo, as bits. -/
def Cut.silent (c : Cut) : Nat :=
  (List.range 64).foldl (fun n s => if (Map.find c.echoes s).isNone then n + 2 ^ s else n) 0

/-- E of R450. -/
def Cut.lastShot (c : Cut) : Nat :=
  if c.echoes.isEmpty then c.c + 8191 else c.echoes.foldl (fun n e => max n e.2.cur) 0

/-- Replays the cut stripe and lists its rows; the answer is the number of rows replayed. -/
def Dev.replayCut (mem : Map Byte) (c : Cut) (s : Stripe) (o : Opening) (d : Dev) : Nat × Dev :=
  let last := c.lastShot - c.ssnBase
  let entered := min (last + 1) s.src.length
  let f := d.factsOf s o
  let rows := (List.range (entered - c.rowsDone)).map (c.rowsDone + ·)
  let d1 := (d.each rows fun y d => d.recoverRow mem f y (decide (last < y + 8192))).closeOpen
  let first := max entered c.rowsDone
  let pass := if s.kind = 1 then d1.get Obj.PASSES % 16 else 0
  let d2 :=
    if first < s.src.length then
      d1.listRows s.ledgerStripe (s.rowOffset + first) (s.rowOffset + s.src.length - 1) pass reasonUnstarted
    else d1
  (rows.length, d2)

/-- The opening of the cut stripe. -/
def Ledger.openingAt (base : Nat) (l : Ledger) : Option Opening :=
  (l.openings.filter fun o => decide (o.ssnBase = base)).getLast?

/-- STRIPE_CUT and RECOVERY_DONE. -/
def Dev.cutEvents (c : Cut) (number rows : Nat) (d : Dev) : Dev :=
  let r := d.get Obj.RESTART_SSN
  let idx := if c.echoes.isEmpty then 0xFFFFFFFF else (c.lastShot - c.ssnBase) % 2 ^ 32
  let silent := c.silent
  let without := ((List.range 64).filter fun s => bitAt silent s).length
  let d1 := d.raiseJ 0 0x0308 r [number, lo32 r, hi16 r, idx] (le 8 r ++ le 4 idx)
  let d2 := ((d1.put Obj.CUT_SHOT idx).put Obj.NO_ECHO silent).put Obj.RECOVERY_STATE (if silent = 0 then 4 else 5)
  d2.raiseJ 0 0x0B04 noShot [lo32 r, hi16 r, rows, without] []

/-- RECOVERY_DONE: the replay is complete. -/
def recoveryDone (mem : Map Byte) (d : Dev) : Dev :=
  match decide (d.get Obj.RECOVERY_STATE = 3), d.rescue.cut with
  | true, some c =>
    match d.ledger.openingAt c.ssnBase with
    | none => d
    | some o =>
      let d1 := d.onLedger fun l => { l with cuts := l.cuts ++ [c] }
      let (rows, d2) := match d1.replayed mem o with
        | some s => d1.replayCut mem c s o
        | none => (0, d1)
      let d3 := { d2 with rescue := { d2.rescue with cut := none, seen := [] } }.cutEvents c o.number rows
      d3.put Obj.JOB_STATE d3.jobStateNow
  | _, _ => d

/-- RETURN_FRAME (R304, R311, R551, R445): the lane's receiver takes what came on the wire; the report acts on the shots, on
the trims under trial and on recovery's echo. -/
def returnWire (lane : Nat) (wire : List Bool) (d : Dev) : Dev :=
  let report := receiveReturn lane wire
  ((returnFrame lane report d).calFrame lane report.isSome).takeEcho lane report

/-! ### Meanings -/

def execReturnFrame (lane : Fin 8) (wire : List Bool) (s : State) : Host.Outcome State Fault Refusal :=
  s.next (returnWire lane.val wire)
def execEchoWait (raw : Nat) (s : State) : Host.Outcome State Fault Refusal := s.next (echoWait raw)
def execRecoveryContinue (r : Req) (s : State) : Host.Outcome State Fault Refusal :=
  let q := r.write 0x7830 6
  s.nextMem fun mem => Dev.serveCommand q (recoveryCommand q mem 1)
def execRecoveryDone (s : State) : Host.Outcome State Fault Refusal := s.nextMem recoveryDone

end Sys2Proof.Machine
end

