-- ==== Sys2Proof/Machine/Store.lean ====
section
/-!
DEFINITION. Sys2Proof/Machine/Store.lean: bring-up, errors, retirement and refetch of the layout store
(14_layout_store).
-/
namespace Sys2Proof.Machine

def srcStore : Nat := 0x4200

/-! ### Ranks -/

/-- Parameter 0 of the rank events: [11:8] channel, [1:0] rank. -/
def rankWord (r : Nat) : Nat := r / 4 * 256 + r % 4

/-- The role of a rank (R468). -/
def Dev.role (r : Nat) (d : Dev) : Nat := d.get (Obj.RANK_ROLE (r / 4) (r % 4))

/-- The device sets a role. -/
def Dev.setRole (r v : Nat) (d : Dev) : Dev := d.put (Obj.RANK_ROLE (r / 4) (r % 4)) v

/-- Ranks in the order of R467: rank 0 of channels A to M, then rank 1, and so on. -/
def rankOrder : List Nat := (List.range 48).map fun i => 4 * (i % 12) + i / 12

/-- The ranks with a role, in the order of R467. -/
def Dev.ranksOf (role : Nat) (d : Dev) : List Nat := rankOrder.filter fun r => d.role r = role

/-- Physical pages of a rank at the density of DENSITY (R466). -/
def Dev.pagesPerRank (d : Dev) : Nat := 16384 + 8192 * d.get Obj.DENSITY

/-- The delay block of a rank passes its CHECK (R470). -/
def Dev.delaysOk (r : Nat) (d : Dev) : Bool :=
  let b := d.blob (Obj.STORE_DELAYS r) 128
  decide (field b 124 4 = crc32c (b.take 124))

/-- RCD_WORDS passes its CRC-32C (0x8050). -/
def Dev.rcdOk (d : Dev) : Bool :=
  let b := d.blob Obj.RCD_WORDS 64
  decide (field b 60 4 = crc32c (b.take 60))

/-- The delay blocks of every rank with role 1 or 2 pass (R472). -/
def Dev.allDelaysOk (d : Dev) : Bool := (List.range 48).all fun r => ¬ (d.role r = 1 ∨ d.role r = 2) || d.delaysOk r

/-- The stored objects pass their checks, so that WAKE brings the store up (R471; log entry 72). -/
def Dev.storeObjectsOk (d : Dev) : Bool := d.allDelaysOk && d.rcdOk

/-- TIMING_VALID (R472). -/
def Dev.timingValid (d : Dev) : Bool :=
  ((List.range 13).all fun j => d.get (Obj.TIMING_VALUE j) ≠ 0) && d.allDelaysOk
    && decide (d.get Obj.STORE_STATE = 2) && ! d.dram.layout.isEmpty

/-- RT_BOUND (R479), from the timing in effect; tCK is 5/16 ns. -/
def StoreState.rtBound (t : StoreState) : Nat :=
  let v (j : Nat) : Nat := t.timing.getD j 0
  if (List.range 13).any fun j => v j = 0 then 0
  else ((v 12 + v 4 + v 7 + 8 * (v 3 + v 2) + v 0 + 2731) * 5 + 15) / 16

/-! ### Pages of a rank, and the page that a rank loses -/

/-- Inserts a page number in rising order. -/
def insertPage (p : Nat) : List Nat → List Nat
  | [] => [p]
  | q :: l => if p < q then p :: q :: l else if p = q then q :: l else q :: insertPage p l

/-- The store pages on a rank, in rising order. -/
def StoreState.pagesOn (t : StoreState) (r : Nat) : List Nat :=
  let n := t.layout.length
  let plain := match t.layout.idxOf? r with
    | none => []
    | some k => ((List.range t.perRank).map fun u => u * n + k).filter fun p => p < storePages ∧ (t.remapped p).isNone
  let onRank (p : Nat) : Bool := match t.physical p with
    | some x => decide (x / 32768 = r)
    | none => false
  (t.remap.map Prod.fst).foldl (fun l p => if onRank p then insertPage p l else l) plain

/-- Every rank of the rank's channel that has a role is retiring: the channel has failed (R482). -/
def Dev.channelFailed (r : Nat) (d : Dev) : Bool :=
  (List.range 4).all fun j =>
    let v := d.role (4 * (r / 4) + j)
    decide (v = 0 ∨ v = 3)

/-- A page lies in the package of the open job or in its map area (R484). -/
def Dev.neededPage (p : Nat) (mem : Map Byte) (d : Dev) : Bool :=
  let at' (a n : Nat) : Bool := decide (n ≠ 0) && overlaps (p * pageBytes) pageBytes a n
  match d.ledger.job with
  | none => false
  | some j => at' j.offset j.length
      || (decide (d.get Obj.MAP_ON = 1) && at' (d.get Obj.MAP_BASE) (d.package.mapLength mem))

/-- PKG_OFFSET and MAP_OFFSET of a page, as the raw bits of an I64 (R484). -/
def Dev.pkgOffset (p : Nat) (d : Dev) : Nat :=
  let base := match d.ledger.job with
    | some j => j.offset
    | none => d.get Obj.JOB_PACKAGE_OFFSET
  ofSigned 64 ((p * pageBytes : Nat) - (base : Int))
def Dev.mapOffset (p : Nat) (d : Dev) : Nat :=
  if d.get Obj.MAP_ON = 0 then 2 ^ 63 else ofSigned 64 ((p * pageBytes : Nat) - (d.get Obj.MAP_BASE : Int))

/-- A page takes the next free physical page, or is unmapped (R482, R486). -/
def Dev.remapPage (p : Nat) (d : Dev) : Dev :=
  let x := d.freePage
  let d1 := d.onStore fun t => { t with remap := t.remap ++ [(p, x)] }
  if x.isNone then d1.raiseJ srcStore 0x0C0A noShot [p] [] else d1

/-- A refetch request (R484). -/
def Dev.requestRefetch (p : Nat) (d : Dev) : Dev :=
  let pkg := d.pkgOffset p
  let d1 := (d.onStore fun t => { t with refetch := (t.refetch.filter fun q => q ≠ p) ++ [p] }).vector 37
  d1.raiseJ srcStore 0x0C06 noShot [p, lo32 pkg, pkg / 2 ^ 32, lo32 (d.mapOffset p)] []

/-- A lost page (R482, R484): a free page takes its place, AWAITING is set, and it is requested from the host or
reported lost. Its bytes become zero (`State.nextLost`). -/
def Dev.losePage (p : Nat) (mem : Map Byte) (d : Dev) : Dev :=
  let d1 := d.remapPage p
  let d2 := d1.when (d1.dram.physical p).isSome fun d => d.onStore fun t => { t with awaiting := insertPage p t.awaiting }
  if ¬ d.neededPage p mem then d2.raiseJ srcStore 0x0C08 noShot [p] []
  else d2.when (d2.dram.physical p).isSome (Dev.requestRefetch p)

/-- Counts pages migrated and lost of a retiring rank. -/
def Dev.countPages (r migrated lost : Nat) (d : Dev) : Dev :=
  let v := Map.get (0, 0) d.dram.moved r
  d.onStore fun t => { t with moved := Map.insert r (v.1 + migrated, v.2 + lost) t.moved }

/-- A retiring rank without pages is retired (R482). -/
def Dev.retireDone (r : Nat) (d : Dev) : Dev :=
  if d.role r = 3 ∧ (d.dram.pagesOn r).isEmpty then
    let v := Map.get (0, 0) d.dram.moved r
    let d1 := (d.setRole r 4).onStore fun t => { t with retiring := t.retiring.filter fun q => q ≠ r }
    d1.raiseJ srcStore 0x0C05 noShot [rankWord r, v.1, v.2] []
  else d

/-- Every page of a rank is lost. -/
def Dev.loseRank (r : Nat) (mem : Map Byte) (d : Dev) : Dev :=
  let ps := d.dram.pagesOn r
  ((d.each ps fun p d => d.losePage p mem).countPages r 0 ps.length).retireDone r

/-- A rank starts to retire (R482): cause 1 uncorrectable, 2 command, 3 corrected rate, 4 command object. In a channel
that has failed, every page of the channel is lost. -/
def Dev.retireRank (r cause : Nat) (mem : Map Byte) (d : Dev) : Dev :=
  if ¬ (d.role r = 1 ∨ d.role r = 2) then d
  else
    let ps := d.dram.pagesOn r
    let d1 := (d.setRole r 3).onStore fun t =>
      { t with retiring := t.retiring ++ [r], moved := Map.insert r (0, 0) t.moved }
    let d2 := d1.raiseJ srcStore 0x0C04 noShot [rankWord r, cause, ps.length] []
    if d2.channelFailed r then
      d2.each ((List.range 4).map fun j => 4 * (r / 4) + j) fun q d => if d.role q = 3 then d.loseRank q mem else d
    else if cause = 2 then d2.loseRank r mem
    else if cause = 1 then d2
    else d2.retireDone r

/-! ### Errors of bursts (R480, R481) -/

/-- A corrected burst (R481, R482). -/
def Dev.burstCorrected (a : Nat) (mem : Map Byte) (d : Dev) : Dev :=
  match d.dram.physical (a / pageBytes) with
  | none => d
  | some x =>
    let r := x / 32768
    let raw := d.clock.raw
    let l := raw :: (Map.get [] d.dram.corrected r).filter fun t => raw < t + 1000000000
    let d1 := (d.bump (Obj.RANK_CORRECTED (r / 4) (r % 4))).onStore fun t => { t with corrected := Map.insert r l t.corrected }
    let last := Map.get 0 d.dram.correctedAt r
    let d2 :=
      if last = 0 ∨ last + 1000000000 ≤ raw + 1 then
        (d1.raise srcStore 0x0C01 [rankWord r, l.length, lo32 a, a / 2 ^ 32]).onStore fun t =>
          { t with correctedAt := Map.put 0 r (raw + 1) t.correctedAt }
      else d1.count 0x0C01
    let limit := d.get Obj.RETIRE_CORRECTED
    if limit ≠ 0 ∧ limit ≤ l.length then d2.retireRank r 3 mem else d2

/-- An uncorrectable burst (R481, R482): the rank retires and the page is lost. -/
def Dev.burstLost (a : Nat) (mem : Map Byte) (d : Dev) : Dev :=
  let p := a / pageBytes
  match d.dram.physical p with
  | none => d
  | some x =>
    let r := x / 32768
    let d1 := (d.bump (Obj.RANK_UNCORRECTABLE (r / 4) (r % 4))).raiseJ srcStore 0x0C02 noShot
      [rankWord r, p, a % pageBytes] []
    let d2 := d1.retireRank r 1 mem
    if d2.dram.physical p = some x then ((d2.losePage p mem).countPages r 0 1).retireDone r else d2

/-- The errors that a read found. -/
def Dev.burstErrors (corrected lost : List Nat) (mem : Map Byte) (d : Dev) : Dev :=
  (d.each corrected fun a d => d.burstCorrected a mem).each lost fun a d => d.burstLost a mem

/-- STORE_READ_COMPLETE (R474): the read's commands are issued in the arbiter's order (R475), the bursts' errors act, and the
data reaches the context; a page that awaits its refetch, or has none to come, returns as uncorrectable (R483). -/
def storeReadComplete (q : Nat) (corrected lost : List Nat) (mem : Map Byte) (d : Dev) : Dev :=
  if ¬ d.running ∨ (d.ctx q).all (fun c => c.state ≠ 1) then d
  else
    let v := d.readRange q mem
    let bad (a : Nat) : Bool := decide (v.1 ≤ a / 64 * 64 + 63 ∧ a / 64 * 64 < v.1 + v.2)
    let gone := lost.filter bad
    let d1 := (d.issueRead q mem).burstErrors (corrected.filter bad) gone mem
    let out (p : Nat) : Bool := d1.dram.awaiting.contains p || (gone.any fun a => a / pageBytes = p)
    let pages := if v.2 = 0 then [] else (pagesOf v.1 v.2).filter out
    d1.dataArrives q pages.isEmpty pages mem

/-! ### Bring-up (R471, R473, R620) -/

/-- How many bytes the store holds under the new translation: a byte follows its physical page (R471: bring-up neither
writes nor clears stored data; log entry 73). -/
def relocate (old new : StoreState) (mem : Map Byte) : Map Byte :=
  let inverse (x : Nat) : Option Nat :=
    match (new.remap.filter fun e => new.physical e.1 = some x).getLast? with
    | some e => some e.1
    | none =>
      match new.layout.idxOf? (x / 32768) with
      | none => none
      | some k =>
        let p := x % 32768 * new.layout.length + k
        if new.physical p = some x then some p else none
  mem.foldl (fun m (e : Nat × Byte) =>
    match (old.physical (e.1 / pageBytes)).bind inverse with
    | some p => Map.put 0 (p * pageBytes + e.1 % pageBytes) e.2 m
    | none => m) []

/-- The store's state after bring-up: the layout of R467 where a setting changed, it was never computed, or a rank was
rejected; timing and banks at their start. -/
def Dev.broughtUp (rejected : List Nat) (d : Dev) : StoreState :=
  let t := d.dram
  let fresh := t.dirty || decide (t.perRank = 0) || ! rejected.isEmpty
  let t1 := { t with timing := (List.range 13).map fun j => d.get (Obj.TIMING_VALUE j),
                     debt := [], powerDown := [], doubled := [], banks := [], dirty := false,
                     remap := if t.dirty then [] else t.remap,
                     retiring := if t.dirty then [] else t.retiring }
  if fresh then { t1 with layout := d.ranksOf 1, spares := d.ranksOf 2, perRank := d.pagesPerRank } else t1

/-- The header of the open job's package passes its CRC and is the accepted one (R473). -/
def Dev.headerKept (mem : Map Byte) (d : Dev) : Bool :=
  match d.ledger.job with
  | none => true
  | some j =>
    let h := d.package.bytes mem 0 256
    decide (field h 252 4 = j.headerCrc ∧ crc32c (h.take 252) = j.headerCrc)

/-- CONTENTS_KEPT is decided, once per start of the main die (R473, R620). -/
def Dev.decideContents (up : Bool) (mem : Map Byte) (d : Dev) : Dev :=
  if d.dram.decided then d
  else
    let c := d.dram.lostCause
    let cause := if c = 1 ∨ c = 2 ∨ c = 3 then c else if ¬ up then 5 else if ¬ d.headerKept mem then 4 else 0
    let d1 := (d.onStore fun t => { t with decided := true }).put Obj.CONTENTS_KEPT (bit01 (decide (cause = 0)))
    if cause = 0 then d1 else d1.raiseJ srcStore 0x0C0B noShot [cause] []

/-- STORE_INIT: bring-up completes. The store's bytes follow the new translation, and are gone where the DIMMs did not
hold them. -/
def storeInit (rejected : List RankReject) (held : Bool) (s : State) : State :=
  let d := s.dev
  let inWake := decide (d.mode = .wake) && ! d.dram.decided && d.storeObjectsOk
  if ¬ (inWake ∨ d.get Obj.STORE_STATE = 1) then s
  else
    let bad := rejected.filter fun e => d.role e.rank.val = 1 ∨ d.role e.rank.val = 2
    let reject (e : RankReject) (d : Dev) : Dev :=
      (d.setRole e.rank.val 4).raise srcStore 0x0C0C [rankWord e.rank.val, e.cause]
    let d1 := d.each bad reject
    let t := d1.broughtUp (bad.map fun e => e.rank.val)
    let d2 := { d1 with dram := t }
    let up := ! t.layout.isEmpty
    let mem := if ¬ held then []
      else if t.layout = d.dram.layout ∧ t.perRank = d.dram.perRank ∧ t.remap = d.dram.remap then s.store
      else relocate d.dram t s.store
    let d3 := (d2.put Obj.STORE_STATE (if up then 2 else 3)).raise srcStore 0x0C0D [t.layout.length, bad.length, t.mapped]
    let d4 := if d.get Obj.STORE_COMMAND / 65536 = 2 then d3.put Obj.STORE_COMMAND 0 else d3
    { s with store := mem, dev := if inWake then d4.decideContents true mem else d4 }

/-- Bytes that lost pages held are zero afterwards (R482). -/
def clearPages (ps : List Nat) (mem : Map Byte) : Map Byte := mem.filter fun e => ! ps.contains (e.1 / pageBytes)

/-- A command in which pages may be lost: the pages that the remap list gained are written to zero. -/
def State.nextLost (s : State) (f : Map Byte → Dev → Dev) : Host.Outcome State Fault Refusal :=
  let d := f s.store s.dev
  .next { s with store := clearPages ((d.dram.remap.drop s.dev.dram.remap.length).map Prod.fst) s.store, dev := d }

/-! ### Commands (0x8003, 0x8040:05) -/

/-- STORE_COMMAND (R469, R471, R482). A read shows the outcome in [23:16]. -/
def storeCommand (q : Query) (v : Nat) (mem : Map Byte) (d : Dev) : Answer :=
  let code := v / 2 ^ 24
  let ch := bits v 11 8
  let r := 4 * ch + v % 4
  let setup := decide (d.mode = .setup) && ! d.jobOpen
  let state := if code = 1 ∨ code = 3 then ! setup
    else decide (code = 2 ∧ ch < 12) && ! decide (d.role r = 1 ∨ d.role r = 2)
  let extra := if code = 2 then bits v 23 12 ≠ 0 ∨ bits v 7 2 ≠ 0 ∨ 11 < ch else v % 2 ^ 24 ≠ 0
  let tests : List (Abort × Bool) :=
    [(.stateForbids, state), (.range, decide (code = 0 ∨ 3 < code ∨ extra)),
     (.busy, decide (code = 1 ∧ d.get Obj.STORE_STATE = 1))]
  let effect (d : Dev) : Dev :=
    if code = 1 then (d.put Obj.STORE_STATE 1).put Obj.STORE_COMMAND (2 * 65536)
    else if code = 2 then (d.put Obj.STORE_COMMAND 0).retireRank r 4 mem
    else (d.put Obj.STORE_COMMAND 0).onStore fun t => { t with remap := [], awaiting := [], retiring := [], dirty := true }
  match d.command q 4 v tests effect with
  | .refuse a d => .refuse a (d.put Obj.STORE_COMMAND 65536)
  | x => x

/-- DONE (R485): the page holds its data again. -/
def doneCommand (q : Query) (p : Nat) (d : Dev) : Answer :=
  d.command q 4 p [(.range, ! d.dram.refetch.contains p)] fun d =>
    let d1 := d.onStore fun t => { t with awaiting := t.awaiting.filter fun x => x ≠ p, refetch := t.refetch.filter fun x => x ≠ p }
    ((d1.raiseJ srcStore 0x0C07 noShot [p, q.session] []).refetched p)

/-- JOB_CLOSE withdraws the pending requests and clears AWAITING (R485). -/
def Dev.withdrawRefetch (d : Dev) : Dev := d.onStore fun t => { t with awaiting := [], refetch := [] }

/-! ### Command errors, migration, refresh, patrol -/

/-- COMMAND_ERROR (R481): a second error of a rank within 1 ms is persistent. -/
def commandError (ch : Nat) (ranks : List Nat) (mem : Map Byte) (d : Dev) : Dev :=
  let one (j : Nat) (d : Dev) : Dev :=
    let r := 4 * ch + j
    let raw := d.clock.raw
    let last := Map.get 0 d.dram.commandError r
    let again := decide (last ≠ 0 ∧ raw + 1 < last + 1000000)
    let d1 := (d.raiseJ srcStore 0x0C03 noShot [rankWord r, if again then 2 else 1] []).onStore fun t =>
      { t with commandError := Map.put 0 r (raw + 1) t.commandError }
    if again then
      if d1.role r = 3 then d1.loseRank r mem else d1.retireRank r 2 mem
    else d1
  if ¬ d.running then d else d.each ranks one

/-- The next page to migrate (R482): the lowest page of the rank that began to retire first. -/
def Dev.migrating (d : Dev) : Option (Nat × Nat) :=
  d.dram.retiring.findSome? fun r => (d.dram.pagesOn r).head?.map fun p => (r, p)

/-- PAGE_MIGRATION (R482): the page is copied and its entry switched; without a free page it is unmapped (R486). -/
def pageMigration (d : Dev) : Dev :=
  if ¬ d.running ∨ d.get Obj.STORE_STATE ≠ 2 then d
  else
    match d.migrating with
    | none => d
    | some (r, p) =>
      let d1 := d.remapPage p
      let kept := (d1.dram.physical p).isSome
      (d1.countPages r (bit01 kept) (bit01 (! kept))).retireDone r

/-- PAGE_MIGRATION over the store: a page that is unmapped leaves no bytes. -/
def migrate (s : State) : State :=
  let d := pageMigration s.dev
  let gone := (d.dram.remap.drop s.dev.dram.remap.length).filterMap fun e => if e.2.isNone then some e.1 else none
  { s with store := clearPages gone s.store, dev := d }

/-- A rank that bring-up left up. -/
def Dev.rankUp (r : Nat) (d : Dev) : Bool :=
  d.running && decide (d.get Obj.STORE_STATE = 2) && decide (d.role r = 1 ∨ d.role r = 2 ∨ d.role r = 3)

/-- REFRESH_DUE (R478): postponed while the rank has a real-time request, queued or in progress, forced beyond POSTPONE_LIMIT; otherwise the
owed refreshes are issued. -/
def refreshDue (r : Nat) (progress : Bool) (mem : Map Byte) (d : Dev) : Dev :=
  if ¬ d.rankUp r then d
  else
    let debt := Map.get 0 d.dram.debt r
    let busy := progress || d.rankAsked true r mem
    let setDebt (n : Nat) (d : Dev) : Dev := d.onStore fun t => { t with debt := Map.put 0 r n t.debt }
    let wake (d : Dev) : Dev := d.onStore fun t => { t with powerDown := t.powerDown.filter fun q => q ≠ r }
    if ¬ busy then wake (setDebt 0 d)
    else if d.get Obj.POSTPONE_LIMIT < debt + 1 then wake ((setDebt (d.get Obj.POSTPONE_LIMIT) d).bump Obj.FORCED_REFRESHES)
    else setDebt (debt + 1) d

/-- TEMPERATURE_POLL (R478). -/
def temperaturePoll (r : Nat) (doubled : Bool) (d : Dev) : Dev :=
  if ¬ d.rankUp r ∨ d.dram.doubled.contains r = doubled then d
  else
    let d1 := d.onStore fun t =>
      { t with doubled := if doubled then insertPage r t.doubled else t.doubled.filter fun q => q ≠ r }
    d1.raise srcStore 0x0C09 [rankWord r, if doubled then 2 else 1]

/-- IDLE_PD (R477): a rank with no queued request enters power-down. -/
def idlePd (r : Nat) (mem : Map Byte) (d : Dev) : Dev :=
  if ¬ d.rankUp r ∨ d.get Obj.IDLE_PD = 0 ∨ d.rankAsked false r mem then d
  else d.onStore fun t => { t with powerDown := insertPage r t.powerDown }

/-- PATROL (R487): a mapped page of the package or the map area is read. -/
def patrol (p : Nat) (corrected lost : List Nat) (mem : Map Byte) (d : Dev) : Dev :=
  if ¬ d.running ∨ d.get Obj.PATROL_HOURS = 0 ∨ ¬ d.neededPage p mem ∨ (d.dram.physical p).isNone then d
  else
    let inPage (a : Nat) : Bool := decide (a / pageBytes = p)
    (d.access false (p * pageBytes) pageBytes mem).burstErrors (corrected.filter inPage) (lost.filter inPage) mem

/-! ### The store objects -/

/-- Writes of the store's settings (R468, R469). -/
def Dev.storeTests (index sub v : Nat) (d : Dev) : List (Abort × Bool) :=
  let config := decide ((index = 0x8000 ∧ (sub = 1 ∨ sub = 2)) ∨ index = 0x8001 ∨ (0x8010 ≤ index ∧ index ≤ 0x801B)
    ∨ index = 0x8050 ∨ (0x8100 ≤ index ∧ index ≤ 0x812F))
  let ranks := d.get Obj.RANKS_PER_CHANNEL
  let range :=
    if index = 0x8000 ∧ sub = 1 then (List.range 48).any fun r => decide (v ≤ r % 4) && decide (d.role r ≠ 0)
    else if 0x8010 ≤ index ∧ index ≤ 0x801B then decide (2 < v ∨ (v ≠ 0 ∧ ranks < sub))
    else false
  [(.stateForbids, config && d.jobOpen), (.range, range)]

/-- What a write of a store setting does beside being stored: the next bring-up computes the layout anew (R469). -/
def Dev.storeWritten (index sub : Nat) (d : Dev) : Dev :=
  if (index = 0x8000 ∧ (sub = 1 ∨ sub = 2)) ∨ (0x8010 ≤ index ∧ index ≤ 0x801B) then
    d.onStore fun t => { t with dirty := true }
  else d

/-- The store objects that are formed on a read. -/
def Dev.storeValue (k : Nat) (d : Dev) : Option Nat :=
  let first := d.dram.refetch.head?
  if k = Obj.TIMING_VALID then some (bit01 d.timingValid)
  else if k = Obj.PAGES_MAPPED then some d.dram.mapped
  else if k = Obj.PAGES_FREE then some d.pagesFree
  else if k = Obj.REMAP_ENTRIES then some d.dram.remap.length
  else if k = Obj.MIGRATING then some (d.dram.retiring.foldl (fun n r => n + (d.dram.pagesOn r).length) 0)
  else if k = Obj.REFETCH_PENDING ∨ k = Obj.REFETCH_COUNT then some d.dram.refetch.length
  else if k = Obj.PAGE then some (first.getD 0)
  else if k = Obj.PKG_OFFSET then some ((first.map fun p => d.pkgOffset p).getD 0)
  else if k = Obj.MAP_OFFSET then some ((first.map fun p => d.mapOffset p).getD 0)
  else if k = Obj.RT_BOUND then some d.dram.rtBound
  else none

/-- Bytes of STORE_TRANSLATION (R465). -/
def Dev.translationBytes (off n : Nat) (d : Dev) : List Byte :=
  let first := off / 4
  let entries := (List.range ((off + n + 3) / 4 - first)).flatMap fun i => le 4 (d.dram.entry (first + i))
  slice entries (off % 4) n

/-- CLEAR_REMAP (R469): bytes follow their physical pages to the default layout. -/
def clearRemap (r : Req) (s : State) : State :=
  let d := Dev.serveCommand (r.write 0x8003 0) (storeCommand (r.write 0x8003 0) 0x03000000 s.store) s.dev
  { s with store := if d.dram.remap = s.dev.dram.remap then s.store else relocate s.dev.dram d.dram s.store, dev := d }

/-! ### Meanings -/

def execStoreReadComplete (context : Fin 160) (corrected uncorrectable : List Nat) (s : State) :
    Host.Outcome State Fault Refusal := s.nextLost (storeReadComplete context.val corrected uncorrectable)
def execStoreCommandInit (r : Req) (s : State) : Host.Outcome State Fault Refusal :=
  s.nextMem fun mem => Dev.serveCommand (r.write 0x8003 0) (storeCommand (r.write 0x8003 0) 0x01000000 mem)
def execStoreInit (rejected : List RankReject) (contentsHeld : Bool) (s : State) : Host.Outcome State Fault Refusal :=
  .next (storeInit rejected contentsHeld s)
def execStoreRetire (r : Req) (channel : Fin 16) (rank : Fin 4) (s : State) : Host.Outcome State Fault Refusal :=
  s.nextLost fun mem => Dev.serveCommand (r.write 0x8003 0)
    (storeCommand (r.write 0x8003 0) (0x02000000 + channel.val * 256 + rank.val) mem)
def execClearRemap (r : Req) (s : State) : Host.Outcome State Fault Refusal :=
  .next (clearRemap r s)
def execCommandError (channel : Fin 12) (ranks : List (Fin 4)) (s : State) : Host.Outcome State Fault Refusal :=
  s.nextLost (commandError channel.val (ranks.map Fin.val))
def execRefetchDone (r : Req) (page : Word32) (s : State) : Host.Outcome State Fault Refusal :=
  s.next (Dev.serveCommand (r.write 0x8040 5) (doneCommand (r.write 0x8040 5) page.toNat))
def execRefreshDue (channel : Fin 12) (rank : Fin 4) (busy : Bool) (s : State) : Host.Outcome State Fault Refusal :=
  s.nextMem (refreshDue (4 * channel.val + rank.val) busy)
def execTemperaturePoll (channel : Fin 12) (rank : Fin 4) (doubled : Bool) (s : State) :
    Host.Outcome State Fault Refusal := s.next (temperaturePoll (4 * channel.val + rank.val) doubled)
def execIdlePd (channel : Fin 12) (rank : Fin 4) (s : State) : Host.Outcome State Fault Refusal :=
  s.nextMem (idlePd (4 * channel.val + rank.val))
def execPatrol (page : Nat) (corrected uncorrectable : List Nat) (s : State) : Host.Outcome State Fault Refusal :=
  s.nextLost (patrol page corrected uncorrectable)

end Sys2Proof.Machine
end

