-- ==== Sys2Proof/Machine/Power.lean ====
section
/-!
DEFINITION. Sys2Proof/Machine/Power.lean: supplies, resets, standby and wake (19_power_reset_keeper).
-/
namespace Sys2Proof.Machine

def srcKeeper : Nat := 0x5000

/-- Changes the keeper's own state. -/
def Dev.onKeeper (f : Keeper → Keeper) (d : Dev) : Dev := { d with keeper := f d.keeper }

/-! ### Closing a session (R89) -/

/-- The owner entries of the dictionary (R116): first key and number of entries. -/
def ownerEntries : List (Nat × Nat) :=
  [(Obj.PROBE_OWNER 0, 4), (Obj.COMPARE_OWNER 0, 4), (Obj.ENC_OWNER 0, 8), (Obj.TIMER_OWNER 0, 16),
   (Obj.CONTEXT_OWNER 0, 32), (Obj.THRESHOLD_OWNER 0, 64), (Obj.CAM_OWNER 0, 4)]

/-- The context of a check job whose claim ends: a job in progress ends as ABORT ends it (R232). -/
def Dev.endCheckJob (j : Nat) (d : Dev) : Dev :=
  let res := d.checkJobResult j
  let d1 := if res = 1 ∨ res = 2 then d.checkJobDone j 6 else d
  d1.dropCtx (128 + j)

/-- Every entry that names the session is released: its own reservations, its check jobs and its counters. -/
def Dev.releaseSession (n : Nat) (d : Dev) : Dev :=
  Dev.claimMap <| d.each ownerEntries fun (e : Nat × Nat) d =>
    d.each (List.range e.2) fun i d =>
      let o := d.get (e.1 + i)
      if o = 0x0600 + n ∨ o = 0x0900 + n then d.put (e.1 + i) 0
      else if o = 0x0800 + n then (d.endCheckJob i).put (e.1 + i) 0
      else d

/-- A session closes: its staging buffer, subscriptions and claims are released, and SESSION_CLOSED is recorded. -/
def Dev.closeSession (n : Nat) (d : Dev) : Dev :=
  match d.session n with
  | none => d
  | some s =>
    let d1 := { d with cop := { d.cop with
      sessions := Map.erase n d.cop.sessions, subs := d.cop.subs.filter fun x => x.session ≠ n } }
    (d1.releaseSession n).raise 0 0x1005 [n * 8 + s.last.port.code]

/-- Every session closes at a reset of the main die (R89, R90). -/
def Dev.closeSessions (d : Dev) : Dev := d.each (d.cop.sessions.map Prod.fst) Dev.closeSession

/-! ### BLANK_ALL_N (R334) -/

/-- Every interlock input in use is safe (R331, R333). -/
def Dev.interlocksSafe (d : Dev) : Bool :=
  (List.range 4).all fun n => d.get (Obj.ILK_ROLE n) = 0 || ! d.bit Obj.ILK_STATE n

/-- The keeper releases BLANK_ALL_N where R334 allows it. -/
def Dev.tryUnblank (d : Dev) : Dev :=
  let ok := d.running && decide (d.mode ≠ .wake) && decide (d.mode ≠ .safe) && d.interlocksSafe
    && (List.range 9).all fun r => d.get (Obj.RAIL_STATE r) ≠ 2
  if ok then { d with blanked := false } else d

/-- Input `n`, in use, is unsafe and was not: BLANK_ALL_N is asserted, WRITE and MEND go to HOLD, MEASURE ends, and
INTERLOCK_UNSAFE is journalled (R332). -/
def Dev.trip (n : Nat) (d : Dev) : Dev :=
  let d1 := (d.putBit Obj.ILK_STATE n true).putBit Obj.ILK_STATE (n + 4) true
  let d2 := d1.raiseJ srcKeeper 0x0707 d.ssnNext [n, d.get (Obj.ILK_ROLE n), lo32 d.ssnNext, d.mode.code] []
  (d2.blankAll.enterHold 2).endMeasure 2

/-- What a write of ILK_ROLE does (R331, R332, R334): an input put in use while its level is unsafe acts at once, and one
taken out of use is ignored from then on. -/
def Dev.modeWritten (index sub v : Nat) (d : Dev) : Dev :=
  let n := sub - 1
  if index ≠ 0x5850 then d
  else if v = 0 then (d.putBit Obj.ILK_STATE n false).tryUnblank
  else if bitAt d.keeper.ilkHigh n ∧ ¬ d.bit Obj.ILK_STATE n then d.trip n
  else d

/-! ### What a reset keeps (R576, R577) -/

/-- Objects that are not RW-S and that keeper memory, or the keeper itself, holds through a reset of the main die. -/
def keeperHolds (k : Nat) : Bool :=
  let index := k / 256
  decide (k = Obj.JOB_ID ∨ k = Obj.NEXT_SEQ ∨ k = Obj.HOST_RESETS ∨ k = Obj.ILK_STATE ∨ k = Obj.ACTIVE_SLOT
    ∨ k = Obj.SLOT_A_STATE ∨ k = Obj.SLOT_B_STATE ∨ k = Obj.SLOT_A_VERSION ∨ k = Obj.SLOT_B_VERSION
    ∨ index = 0x3011 ∨ index = 0x3012 ∨ index = 0x3013 ∨ index = 0x4002 ∨ index = 0xB802 ∨ k = Obj.KEEPER_TEMP ∨ index = 0xB830 ∨ index = 0xB831
    ∨ (0xB810 ≤ index ∧ index ≤ 0xB819 ∧ (k % 256 = 4 ∨ k % 256 = 6 ∨ k % 256 = 7)))

/-- The object is RW-S. -/
def isStored (k : Nat) : Bool :=
  match findRow (k / 256) (k % 256) with
  | some r => decide (r.acc = .rwS)
  | none => false

/-- The RW-L values at a start of the main die: those of the latest set while a job is open (R577). -/
def Dev.latestSet (d : Dev) : Map Nat × Map (List Byte) :=
  match d.ledger.job, d.ledger.openings.getLast? with
  | some _, some o =>
    match d.ledger.sets[o.set]? with
    | some v => (v.vals, v.tabs)
    | none => ([], [])
  | _, _ => ([], [])

/-- Two maps with different numbers as one. -/
def joinMaps {α : Type} (a b : Map α) : Map α := b.foldl (fun m (e : Nat × α) => Map.insert e.1 e.2 m) a

/-- The store's state through a reset: the table in effect, the remap list, and what waits for the host. -/
def StoreState.kept (t : StoreState) (cause : Nat) : StoreState :=
  { StoreState.reset with
    layout := t.layout, spares := t.spares, perRank := t.perRank, dirty := t.dirty, remap := t.remap,
    awaiting := t.awaiting, refetch := t.refetch, moved := t.moved, retiring := t.retiring, lostCause := cause }

/-- Stored settings that name a resource claim it again (R113, R364, R376, R412; log entry 76). -/
def Dev.reclaim (d : Dev) : Dev :=
  let cross := d.get Obj.CHANNEL
  let d1 := if cross < 8 then (d.claim (Obj.ENC_OWNER cross) 0x0200).put Obj.CROSS_STATE 1 else d
  let src := d1.get (Obj.SERVO_SOURCE 1)
  let d2 := if 2 ≤ src then d1.claim (Obj.ENC_OWNER (src - 2)) 0x0301 else d1
  d2.each (List.range 4) fun a d =>
    let n := d.get (Obj.SWITCH_CHANNEL a)
    if n < 8 then d.claim (Obj.ENC_OWNER n) (0x0400 + a) else d

/-- The main die after a reset, held in KEEP; `keep` says which objects stay. -/
def Dev.restart (keep : Nat → Bool) (cause : Nat) (d : Dev) : Dev :=
  let s := d.latestSet
  let slots (c : CalChannel) : CalChannel := { CalChannel.reset with slotA := c.slotA, slotB := c.slotB }
  Dev.reclaim { Dev.reset with
    mode := .keep, highRate := d.highRate,
    objs := joinMaps (d.objs.filter fun e => keep e.1) s.1,
    blobs := joinMaps (d.blobs.filter fun e => keep e.1) s.2,
    effGains := d.effGains, gains := d.gains, eff := s.1, effBlobs := s.2,
    free := d.free, out := d.out, recorder := d.recorder,
    ledger := { d.ledger with openRecords := [] },
    keeper := { d.keeper with measured := false },
    dram := d.dram.kept cause,
    service := { d.service with cal := d.service.cal.map fun e => (e.1, slots e.2), change := none } }

/-- RC_CLEARED of both servo axes at a reset of the main die (R395). -/
def Dev.rcResets (d : Dev) : Dev := (d.raise srcStage 0x0906 [0, 3]).raise srcStage 0x0906 [1, 3]

/-- How a reset leaves the store (R473): confirmed, or the cause of CONTENTS_LOST. -/
def Dev.lostCause (confirmed : Bool) (d : Dev) : Nat :=
  if confirmed then 0 else if d.get (Obj.RAIL_STATE 6) = 2 then 3 else 2

/-- The main die stops (R89, R93): its sessions close, the mode becomes KEEP, the learning memories are cleared (R395), and
a calibration run ends with result 5 (R555). -/
def Dev.enterKeep (d : Dev) : Dev := ((d.closeSessions.changeMode 9 .keep).rcResets).calInterrupt false

/-- A reset of the main die (R575 to R579): the source is counted; where the main die runs, BLANK_ALL_N is asserted, the
reset is recorded, and the main die stops. -/
def Dev.mainReset (source cause : Nat) (confirmed : Bool) (d : Dev) : Dev :=
  if d.mode = .off then d
  else
    let d1 := d.bump (Obj.RESET_COUNTS (source - 1))
    if ¬ d.running then d1
    else
      let d2 := ((d1.put Obj.LAST_SOURCE source).put Obj.LAST_CAUSE (if source = 7 then cause else 0)).put
        Obj.RESET_LAST_TIME d.backupNs
      let d3 := d2.blankAll.raiseJ srcKeeper 0x1201 noShot [source, cause, lo32 d.ssnNext, hi16 d.ssnNext] []
      d3.enterKeep.restart (fun k => isStored k || keeperHolds k) (d.lostCause confirmed)

/-- A command after which the main die may have been reset: the store's bytes are gone where its self-refresh was not
confirmed (R473). -/
def State.nextReset (s : State) (f : Dev → Dev) : Host.Outcome State Fault Refusal :=
  let d := f s.dev
  .next { s with store := if s.dev.running ∧ ¬ d.running ∧ d.dram.lostCause ≠ 0 then [] else s.store, dev := d }

/-! ### Supply monitors (R570 to R573) -/

/-- A WARN condition is decided (R571): recorded, and WRITE and MEND go to HOLD; shots carry BLANK while it lasts. -/
def Dev.warn (monitor mv : Nat) (d : Dev) : Dev :=
  (d.raiseJ srcKeeper 0x0101 noShot [monitor, mv, lo32 d.ssnNext, d.mode.code] []).enterHold 3

/-- SUPPLY_WARN. -/
def supplyWarn (r mv : Nat) (d : Dev) : Dev :=
  if d.mode = .off ∨ d.keeper.standby ∨ d.get (Obj.RAIL_STATE r) ≠ 0 then d
  else (((d.put (Obj.VOLTAGE_MV r) mv).put (Obj.RAIL_STATE r) 1).bump (Obj.WARNS r)).warn r mv

/-- SUPPLY_RESET (R572): a rail that falls through WARN and RESET at once is decided below both. -/
def supplyReset (r mv : Nat) (confirmed : Bool) (d : Dev) : Dev :=
  if d.mode = .off ∨ d.keeper.standby ∨ d.get (Obj.RAIL_STATE r) = 2 then d
  else
    let d1 := ((supplyWarn r mv d).put (Obj.VOLTAGE_MV r) mv).put (Obj.RAIL_STATE r) 2
    (d1.raiseJ srcKeeper 0x0102 noShot [r, mv] []).mainReset 2 0 confirmed

/-- SUPPLY_RECOVERED (R570): above RESET again, or above WARN again, which is recorded with the time below WARN. -/
def supplyRecovered (r mv below : Nat) (aboveWarn : Bool) (d : Dev) : Dev :=
  if d.mode = .off ∨ d.keeper.standby ∨ d.get (Obj.RAIL_STATE r) = 0 then d
  else
    let d1 := d.put (Obj.VOLTAGE_MV r) mv
    if aboveWarn then ((d1.put (Obj.RAIL_STATE r) 0).raise srcKeeper 0x0103 [r, mv, below]).tryUnblank
    else (d1.put (Obj.RAIL_STATE r) 1).tryUnblank

/-- PWR_FAIL (R573). -/
def pwrFail (e : PwrFailEdge) (d : Dev) : Dev :=
  if d.mode = .off ∨ d.keeper.standby then d
  else
    match e with
    | .fall =>
      if d.keeper.pwrFailLow then d
      else ((d.onKeeper fun k => { k with pwrFailLow := true }).put Obj.PWR_FAIL_LEVEL 1).raiseJ srcKeeper 0x0104 noShot [1, 0] []
    | .filtered =>
      if ¬ d.keeper.pwrFailLow ∨ d.keeper.pwrFailWarn then d
      else (d.onKeeper fun k => { k with pwrFailWarn := true }).warn 0xFF 0
    | .rise low =>
      if ¬ d.keeper.pwrFailLow then d
      else
        ((d.onKeeper fun k => { k with pwrFailLow := false, pwrFailWarn := false }).put Obj.PWR_FAIL_LEVEL 0).raiseJ
          srcKeeper 0x0104 noShot [2, low] []

/-- PWR_FAIL_DELAY (R573). -/
def pwrFailDelay (confirmed : Bool) (d : Dev) : Dev :=
  if d.keeper.pwrFailLow ∧ ¬ d.keeper.standby ∧ d.get Obj.PWR_FAIL_ACTION = 1 then d.mainReset 7 1 confirmed else d

/-! ### VKEEP (R572) -/

/-- VKEEP_FALL: the main die stops where it runs, the keeper stops, and the mode goes from KEEP to OFF (R93); what keeper
non-volatile memory holds stays. -/
def vkeepFall (mv : Nat) (d : Dev) : Dev :=
  if d.mode = .off then d
  else
    let d1 := d.blankAll.put (Obj.VOLTAGE_MV 9) mv
    let d2 := if d1.running then d1.enterKeep else d1
    { (d2.changeMode 9 .off).restart (fun k => isStored k || keeperHolds k) 1 with mode := .off, tap := 0x02 }

/-- Objects that keeper non-volatile memory holds through a power-on. -/
def nonVolatile (k : Nat) : Bool :=
  isStored k || decide (k = Obj.JOB_ID ∨ k = Obj.NEXT_SEQ ∨ k = Obj.ACTIVE_SLOT ∨ k = Obj.SLOT_A_STATE
    ∨ k = Obj.SLOT_B_STATE ∨ k = Obj.SLOT_A_VERSION ∨ k = Obj.SLOT_B_VERSION ∨ k / 256 = 0x3011 ∨ k / 256 = 0x3012
    ∨ k / 256 = 0x3013 ∨ k / 256 = 0x4002)

/-- VKEEP_RISE: a power-on (R575 source 1): the keeper starts from reset, and the mode becomes KEEP. -/
def vkeepRise (d : Dev) : Dev :=
  if d.mode ≠ .off then d
  else
    let d1 := d.restart nonVolatile 1
    let d2 := { d1 with keeper := Keeper.reset, mode := .off, recorder := { d1.recorder with queue := [], dropped := 0, dropCode := 0 } }
    ((((d2.put Obj.LAST_SOURCE 1).put (Obj.RESET_COUNTS 0) 1).changeMode 9 .keep).raiseJ srcKeeper 0x1201 noShot
      [1, 0, lo32 d2.ssnNext, hi16 d2.ssnNext] []).rcResets

/-- VKEEP_RISE over the store: after a power-on its contents are undefined (R471; they read as log entry 3 says). -/
def State.powerOn (s : State) : State :=
  if s.dev.mode = .off then { s with store := [], dev := vkeepRise s.dev } else s

/-! ### Resets by pin, watchdog and command (R575, R580) -/

/-- RESET_N (source 3): in KEEP after STANDBY its pulse lets the main die wake again (R580). -/
def resetN (confirmed : Bool) (d : Dev) : Dev :=
  (if d.running then d else d.onKeeper fun k => { k with standbyHeld := false }).mainReset 3 0 confirmed

/-- WATCHDOG (source 6), but for the 100 ms after a change of image (R562). -/
def watchdog (confirmed : Bool) (d : Dev) : Dev :=
  match d.service.change with
  | some c => if d.clock.raw < c.1 + 100000000 then d else d.mainReset 6 0 confirmed
  | none => d.mainReset 6 0 confirmed

/-- The tests of RESET_COMMAND (R580); the reset follows the response. -/
def resetCommand (q : Query) (v : Nat) (d : Dev) : Answer :=
  let ok := decide (d.mode = .test ∨ d.mode = .setup ∨ d.mode = .ready ∨ d.mode = .service)
  d.command q 4 v [(.stateForbids, ! ok), (.range, decide (v ≠ 1 ∧ v ≠ 2))] id

/-- Answers a command and then acts on it where it was accepted. -/
def Dev.answeredThen (q : Query) (act : Dev → Dev) : Answer → Dev
  | .ok payload d => act (d.finish q (q.response 0 payload))
  | .refuse a d => d.refuse q a

/-- What RESET_COMMAND does after its response. -/
def Dev.commandReset (v : Nat) (confirmed : Bool) (d : Dev) : Dev :=
  (d.mainReset 5 0 confirmed).onKeeper fun k => { k with standbyHeld := decide (v = 2) }

/-- RESET_COMMAND. -/
def serveReset (r : Req) (v : Nat) (confirmed : Bool) (d : Dev) : Dev :=
  let q := r.write 0xB803 0
  d.serveWith (Dev.answeredThen q (Dev.commandReset v confirmed)) q [(.access, d.sessionFails q)] (resetCommand q v)

/-! ### The sentinel and the wake (R581, R582) -/

/-- The levels of a sample: interlocks in bits 0 to 3, WAKE_N, RESET_N and PWR_FAIL_N low in bits 4 to 6. -/
def sampleWord (v : SentinelInputs) : Nat :=
  v.ilk.toNat + 16 * bit01 v.wakeLow + 32 * bit01 v.resetLow + 64 * bit01 v.pwrFailLow

/-- Every main rail is below its RESET threshold. -/
def Dev.railsDown (d : Dev) : Bool := (List.range 9).all fun r => d.get (Obj.RAIL_STATE r) = 2

/-- The level of interlock input `n`, in use or not. -/
def Dev.interlockLevel (n : Nat) (high : Bool) (d : Dev) : Dev :=
  d.onKeeper fun k => { k with ilkHigh := setBit k.ilkHigh n high }

/-- An accepted interlock level in standby. -/
def Dev.standbyInterlock (n : Nat) (opened : Bool) (d0 : Dev) : Dev :=
  let d := d0.interlockLevel n opened
  if d.get (Obj.ILK_ROLE n) = 0 ∨ d.bit Obj.ILK_STATE n = opened then d
  else
    let d1 := d.putBit Obj.ILK_STATE n opened
    let d2 := if opened then d1.putBit Obj.ILK_STATE (n + 4) true else d1
    d2.raise srcKeeper 0x1204 [n, if opened then 1 else 2, lo32 d.backupNs, d.backupNs / 2 ^ 32]

/-- SENTINEL_SAMPLE: 4,096 crystal periods after the last. KEEP enters standby once every main rail is down; in standby
levels are accepted after two equal samples, and a main rail above RESET ends standby. -/
def sentinelSample (v : SentinelInputs) (d : Dev) : Dev :=
  if d.mode ≠ .keep ∨ ¬ (d.keeper.standby ∨ d.railsDown) then d
  else
    let d0 := if d.keeper.standby then d
      else (d.onKeeper fun k => { k with standby := true, sampled := (sampleWord v) }).raise srcKeeper 0x1203 []
    let d1 := d0.onKeeper fun k => { k with ticks := k.ticks + 4096 }
    let same (b : Nat) : Bool := bitAt d1.keeper.sampled b = bitAt (sampleWord v) b
    let d2 := d1.each (List.range 4) fun n d => if same n then d.standbyInterlock n (bitAt (sampleWord v) n) else d
    let level (b : Nat) (old : Bool) : Bool := if same b then bitAt (sampleWord v) b else old
    let d3 := (d2.onKeeper fun k =>
      { k with wakeNLow := level 4 k.wakeNLow, resetNLow := level 5 k.resetNLow, pwrFailLow := level 6 k.pwrFailLow,
               standbyHeld := k.standbyHeld && ! (same 4 && v.wakeLow) && ! (same 5 && v.resetLow),
               sampled := (sampleWord v) })
    let d4 := (d3.put Obj.PWR_FAIL_LEVEL (bit01 d3.keeper.pwrFailLow)).each (List.range 10) fun r d =>
      d.put (Obj.VOLTAGE_MV r) (v.rails.getD r 0)
    let up := (List.range 9).any fun r => d4.get (Obj.RESET_MV r) < v.rails.getD r 0
    if up then d4.onKeeper fun k => { k with standby := false } else d4

/-- The wake conditions that the state shows (R582). -/
def Dev.mayWake (wakeLow : Bool) (d : Dev) : Bool :=
  decide (d.mode = .keep) && ! d.keeper.standby && ! d.keeper.pwrFailLow
    && ((List.range 10).all fun r => d.get (Obj.RAIL_STATE r) = 0)
    && decide (d.geti 16 Obj.KEEPER_TEMP < 10 * ((d.get Obj.TEMP_SHUTDOWN : Int) - 15))
    && (wakeLow || (decide (d.get Obj.WAKE_POLICY = 0) && ! d.keeper.standbyHeld))

/-- MAIN_RELEASED (R582): the main die is released into WAKE; START of the recorder is emptied first (R532). -/
def mainReleased (kept ticks : Nat) (wakeLow : Bool) (d : Dev) : Dev :=
  if ¬ d.mayWake wakeLow then d
  else
    let byPin := decide (d.get Obj.WAKE_POLICY = 1) || d.keeper.standbyHeld
    let d1 := d.onKeeper fun k =>
      { k with ticks := k.ticks + ticks, sysref := true, resetNLow := false, wakeNLow := wakeLow, standbyHeld := false }
    let d2 := { d1 with recorder := { d1.recorder with start := [] } }
    (d2.changeMode 9 .wake).raise srcKeeper 0x1202 [kept, bit01 byPin]

/-! ### Clocks, backup time and temperature (R585 to R587) -/

/-- CLOCK_LOST. -/
def clockLost (crystal confirmed : Bool) (d : Dev) : Dev :=
  if d.mode = .off then d
  else if crystal then
    if d.get Obj.CRYSTAL = 0 then d else (d.put Obj.CRYSTAL 0).raiseJ srcKeeper 0x0106 noShot [2] []
  else if ¬ d.keeper.sysref ∧ ¬ d.running then d
  else
    ((d.onKeeper fun k => { k with sysref := false }).raiseJ srcKeeper 0x0106 noShot [1] []).mainReset 7 3 confirmed

/-- BACKUP_BASE_SET (R586): BACKUP_NS equals T_NS. -/
def backupBaseSet (d : Dev) : Dev :=
  if ¬ d.running then d
  else d.onKeeper fun k => { k with base := toSigned 64 d.tNs - (k.ticks * 1000000000 / 32768 : Nat) }

/-- A KX7262-FB runs at 32.0 Gb/s. -/
def Dev.rateLimited (d : Dev) : Bool := ! d.highRate && decide (d.get Obj.LANE_RATE = 2)

/-- The junction's limit at 32.0 Gb/s (R295), from its temperature and whether it was at most 85 °C before: a rise above
85 °C leaves a pause pending, or ends MEASURE; the limit of 83 °C then holds until DIE_TEMP has been read at or below it. -/
def Dev.rateTemp (t : Int) (below : Bool) (d : Dev) : Dev :=
  if t ≤ 830 then d.onKeeper fun k => { k with hot := false }
  else if 850 < t ∧ d.rateLimited ∧ below then
    let d1 := (d.onKeeper fun k => { k with hot := true }).raiseJ srcKeeper 0x070C noShot [ofSigned 32 t] []
    if d1.mode = .write ∨ d1.mode = .mend then d1.pendPause.pauseIfIdle
    else if d1.mode = .measure then d1.endMeasure 1
    else d1
  else d

/-- DIE_TEMP_UPDATE (R587): temperatures and rail voltages; at TEMP_SHUTDOWN the main die is reset. -/
def dieTempUpdate (die keeper : Int) (rails : List Nat) (confirmed : Bool) (d : Dev) : Dev :=
  if d.mode = .off ∨ d.keeper.standby then d
  else
    let first := ! d.keeper.measured
    let d1 := (d.puti 16 Obj.KEEPER_TEMP keeper).each (List.range 10) fun r d =>
      let mv := rails.getD r 0
      (d.put (Obj.VOLTAGE_MV r) mv).put (Obj.MIN_MV r) (if first then mv else min mv (d.get (Obj.MIN_MV r)))
    if ¬ d.running then d1
    else
      let top := if first then die else max die (d.geti 16 Obj.DIE_TEMP_MAX)
      let below := if first then ! d.keeper.hot else decide (d.geti 16 Obj.DIE_TEMP ≤ 850)
      let d2 := ((((d1.puti 16 Obj.DIE_TEMP die).puti 16 Obj.DIE_TEMP_MAX top).onKeeper fun k =>
        { k with measured := true }).rateTemp die below)
      if 10 * (d.get Obj.TEMP_SHUTDOWN : Int) ≤ die then
        (d2.raiseJ srcKeeper 0x0105 noShot [ofSigned 32 die] []).mainReset 7 2 confirmed
      else d2.calTemperature

/-! ### Objects (R574, R590) -/

/-- Writes of thresholds (R574). -/
def Dev.powerTests (index sub v : Nat) (d : Dev) : List (Abort × Bool) :=
  let r := index - 0xB810
  if 0xB810 ≤ index ∧ index ≤ 0xB819 ∧ (sub = 2 ∨ sub = 3) then
    let w := if sub = 2 then v else d.get (Obj.WARN_MV r)
    let t := if sub = 3 then v else d.get (Obj.RESET_MV r)
    let nom := d.get (Obj.NOMINAL_MV r)
    let ok := if r = 9 then decide (1620 ≤ t ∧ t < w ∧ w ≤ 1800) else decide (t < w ∧ w < nom ∧ 85 * nom ≤ 100 * t)
    [(.range, ! ok)]
  else []

/-- The keeper's objects that are formed on a read. -/
def Dev.powerValue (k : Nat) (d : Dev) : Option Nat :=
  if k = Obj.TICKS then some (d.keeper.ticks % 2 ^ 64)
  else if k = Obj.BASE then some (ofSigned 64 d.keeper.base)
  else if k = Obj.BACKUP_NS then some d.backupNs
  else none

/-! ### Meanings -/

def execSupplyWarn (rail : Fin 10) (mv : Nat) (s : State) : Host.Outcome State Fault Refusal := s.next (supplyWarn rail.val mv)
def execSupplyReset (rail : Fin 9) (mv : Nat) (confirmed : Bool) (s : State) : Host.Outcome State Fault Refusal :=
  s.nextReset (supplyReset rail.val mv confirmed)
def execSupplyRecovered (rail : Fin 10) (mv below : Nat) (aboveWarn : Bool) (s : State) :
    Host.Outcome State Fault Refusal := s.next (supplyRecovered rail.val mv below aboveWarn)
def execVkeepRise (s : State) : Host.Outcome State Fault Refusal := .next s.powerOn
def execVkeepFall (mv : Nat) (s : State) : Host.Outcome State Fault Refusal := s.next (vkeepFall mv)
def execPwrFail (e : PwrFailEdge) (s : State) : Host.Outcome State Fault Refusal := s.next (pwrFail e)
def execPwrFailDelay (confirmed : Bool) (s : State) : Host.Outcome State Fault Refusal := s.nextReset (pwrFailDelay confirmed)
def execResetN (confirmed : Bool) (s : State) : Host.Outcome State Fault Refusal := s.nextReset (resetN confirmed)
def execWatchdog (confirmed : Bool) (s : State) : Host.Outcome State Fault Refusal := s.nextReset (watchdog confirmed)
def execResetCommandReset (r : Req) (confirmed : Bool) (s : State) : Host.Outcome State Fault Refusal :=
  s.nextReset (serveReset r 1 confirmed)
def execResetCommandStandby (r : Req) (confirmed : Bool) (s : State) : Host.Outcome State Fault Refusal :=
  s.nextReset (serveReset r 2 confirmed)
def execSentinelSample (v : SentinelInputs) (s : State) : Host.Outcome State Fault Refusal := s.next (sentinelSample v)
def execMainReleased (kept ticks : Nat) (wakeLow : Bool) (s : State) : Host.Outcome State Fault Refusal :=
  s.next (mainReleased kept ticks wakeLow)
def execClockLost (crystal confirmed : Bool) (s : State) : Host.Outcome State Fault Refusal :=
  s.nextReset (clockLost crystal confirmed)
def execBackupBaseSet (s : State) : Host.Outcome State Fault Refusal := s.next backupBaseSet
def execDieTempUpdate (die keeper : Int) (rails : List Nat) (confirmed : Bool) (s : State) :
    Host.Outcome State Fault Refusal := s.nextReset (dieTempUpdate die keeper rails confirmed)

end Sys2Proof.Machine
end

