-- ==== Sys2Proof/Machine/OnChip.lean ====
section
/-!
DEFINITION. Sys2Proof/Machine/OnChip.lean: rinse and the checkers of the on-chip arrays (15_on_chip_memory).
-/
namespace Sys2Proof.Machine

/-! ### The arrays (R494) -/

/-- Words of one instance of an array: 64-bit words, bytes in the byte class; a segment's spare included (R497). -/
def arrayWords (id : Nat) : Nat :=
  [294912, 1024, 12288, 3072, 2056, 2097152, 16384, 2048, 3145728, 131072, 81920, 180224, 131072, 1572864, 4456448].getD id 1

/-- Whether an array has an instance of a number: segments (the landing buffers from S1 on), contexts, or one. -/
def hasInstance (id part : Nat) : Bool :=
  if id < 4 then decide (part < 64)
  else if id = 4 then decide (1 ≤ part ∧ part < 64)
  else if id = 6 then decide (part < 128)
  else if id = 7 then decide (part < 160)
  else decide (part = 0)

/-! ### What an owner does (R494) -/

/-- The slot whose rows a word of segment memory holds, where it holds any (R257, R284). -/
def Dev.slotOfWord (seg addr : Nat) (d : Dev) : Option Nat :=
  if addr < 262144 then
    let slot := addr / 2048
    if d.onSpare seg slot then none else some slot
  else
    let slot := 16 * (d.get (Obj.SEGMENT_MEMORY seg) % 256) + (addr - 262144) / 2048
    if slot < 128 ∧ d.onSpare seg slot then some slot else none

/-- A word of segment memory is lost (R260, R284, R286). -/
def Dev.segmentWordLost (seg addr : Nat) (d : Dev) : Dev :=
  match d.slotOfWord seg addr with
  | none => d
  | some slot => (d.markLost seg slot d.nextAdvanceSsn [addr % 2048] false).askRepair seg (slot / 16) 1

/-- A word of a landing buffer is lost (array 4): its word of the row is, or the whole row where it held the header (R271). -/
def Dev.landingWordLost (seg addr : Nat) (d : Dev) : Dev :=
  match Map.find d.conv.landing seg with
  | none => d
  | some r =>
    let all := decide (2048 ≤ addr)
    let words := if all then [] else [addr]
    (d.onConv fun c => { c with landing := Map.insert seg (r.mark (r.newlyLost words all)) c.landing }).noteLost seg
      d.nextAdvanceSsn r words all

/-- A word of a commit entry is lost: the entry is written with the LOST mark on it (R494, array 2; `Dev.commitHalf`
records it then). -/
def Dev.commitWordLost (seg ssn slot word : Nat) (d : Dev) : Dev :=
  d.onShot ssn fun t =>
    match Map.find t.segs seg with
    | none => t
    | some g =>
      let planes := g.planes.zipIdx.map fun p =>
        if visitSlot t.k p.2 = slot then p.1.map (markWord (word % 128)) else p.1
      { t with segs := Map.insert seg { g with planes := planes } t.segs }

/-- A segment's table slice is lost: both its frames are blanked until it is reloaded, within 64 shots (array 3). -/
def Dev.sliceLost (seg : Nat) (d : Dev) : Dev :=
  d.onConv fun c => { c with slices := Map.insert seg (d.ssnNext + min 64 Config.sliceReload) c.slices }

/-- The engine that holds a context is released. -/
def Dev.releaseEngine (q : Nat) (d : Dev) : Dev :=
  d.each (d.unfold.engines.filter fun e => e.2 = q + 1) fun e d => d.unhold (e.1 / 32) (e.1 % 32)

/-- The tile of a context, or its repeat store alone where the tile does not use it, is lost to array `id`. -/
def Dev.tileLost (id q : Nat) (c : Context) (w : Work) (mem : Map Byte) (d : Dev) : Dev :=
  if id = 6 ∧ w.tile.kind ≠ kRepeat ∧ c.hist = [] then d.setCtx q { c with rep := [], repFail := rMemory }
  else
    match (d.unfold.engines.filter fun e => e.2 = q + 1).head? with
    | some e => d.unitFails q (e.1 / 32) (e.1 % 32) c w rMemory mem
    | none => d.unitFails q (kindClass w.tile.kind) 31 c w rMemory mem

/-- A word of a context's repeat store (array 6) or input window (array 7) is lost: its tile or its cell fails with reason
MEMORY, and a check job ends with a store error (R232). -/
def Dev.contextLost (id q : Nat) (mem : Map Byte) (d : Dev) : Dev :=
  match d.ctx q with
  | none => d
  | some c =>
    if c.state = 5 ∨ c.state = 6 then d
    else
      match c.serves with
      | .range => ((d.releaseEngine q).setCtx q { c with state := 6 }).checkJobDone (q - 128) 5
      | .cell cell => (d.releaseEngine q).cellFilled q cell (cellFailedAt (d.cellUnit cell mem).width rMemory c.block) mem
      | .map => d
      | .tiles =>
        match d.work q c mem with
        | none => d
        | some w => d.tileLost id q c w mem

/-- Parts of a line row take reason MEMORY (array 9). -/
def LineRow.lost (parts : List Nat) (r : LineRow) : LineRow :=
  { r with reasons := r.reasons.zipIdx.map fun q => if parts.contains q.2 then rMemory else q.1 }

/-- A part of a formed row takes reason MEMORY (array 10). -/
def FormedRow.lost (column : Nat) (r : FormedRow) : FormedRow :=
  { r with reasons := r.reasons.zipIdx.map fun q => if q.2 = column then rMemory else q.1 }

/-- Changes the value listed at a number. -/
def mapAt {α : Type} (k : Nat) (f : α → α) (m : Map α) : Map α := m.map fun e => if e.1 = k then (e.1, f e.2) else e

/-- The owner of a word reacts to its loss (R494, R499). -/
def Dev.wordLost (id part addr : Nat) (mem : Map Byte) (d : Dev) : WordHolds → Dev
  | .nothing => d
  | .placed =>
    if id = 0 then d.segmentWordLost part addr
    else if id = 1 then d.markLost part (addr / 8) d.nextAdvanceSsn [] true
    else if id = 3 then d.sliceLost part
    else if id = 4 then d.landingWordLost part addr
    else d
  | .commit ssn slot word => if id = 2 then d.commitWordLost part ssn slot word else d
  | .part entry column => d.partLost entry column
  | .edge entry column => d.onUnfold fun u => { u with edges := mapAt (32 * entry + column) Part.lost u.edges }
  | .context q => d.contextLost id q.val mem
  | .cell c => d.cellLost c 2
  | .line entry parts => d.onUnfold fun u => { u with line := mapAt entry (LineRow.lost parts) u.line }
  | .formed place column => d.onUnfold fun u =>
      { u with queue := u.queue.zipIdx.map fun q => if q.2 = place then q.1.lost column else q.1 }
  | .reloaded => d
  | .supervisor confirmed => if id = 13 then d.mainReset 6 0 confirmed else d
  | .request slot => d.putArea (mbReq slot.val) []
  | .staged n => d.onSession n.val fun s => if s.staged.isSome then { s with staged := none, spoiled := true } else s
  | .kept n => d.onSession n.val fun s => { s with kept := none }

/-! ### Rinse (R497 to R499) -/

/-- A pass of an instance starts: the pass before it took the time since its own start; PASS_TIME is that of the slowest
instance, µs. -/
def Dev.startPassRinse (id part raw : Nat) (d : Dev) : Dev :=
  let key := 1024 * id + part
  let r := d.rinse
  let took := match Map.find r.began key with
    | some t => Map.insert key (raw - t) r.took
    | none => r.took
  let slowest := (took.filter fun e => e.1 / 1024 = id).foldl (fun n (e : Nat × Nat) => max n e.2) 0
  { d with rinse := { r with began := Map.insert key raw r.began, took := took } }.put (Obj.PASS_TIME id) (slowest / 1000)

/-- RINSE_READ: the next word of an array. -/
def rinseRead (id part raw : Nat) (found : RinseResult) (holds : WordHolds) (mem : Map Byte) (d : Dev) : Dev :=
  if ¬ d.running ∨ d.get Obj.RINSE_ON = 0 ∨ ¬ hasInstance id part then d
  else
    let key := 1024 * id + part
    let addr := Map.get 0 d.rinse.next key
    let d0 := d.at raw
    let d1 := if addr = 0 then d0.startPassRinse id part raw else d0
    let d2 := { d1 with rinse := { d1.rinse with next := Map.put 0 key ((addr + 1) % arrayWords id) d1.rinse.next } }
    match found with
    | .clean => d2
    | .corrected =>
      let d3 := d2.memCorrected id part addr 1
      match id, holds, d3.slotOfWord part addr with
      | 0, .placed, some slot => d3.noteCorrected part (slot / 16) d3.nextAdvanceSsn
      | _, _, _ => d3
    | .uncorrectable => (d2.memUncorrectable id part addr 1).wordLost id part addr mem holds
    | .valid => (d2.memUncorrectable id part addr 2).wordLost id part addr mem holds

/-! ### The test of the checkers (R500, R501) -/

/-- A sub-array that fails its test is repaired onto a free spare at once; any other is a CHECKER_FAULT. The answer says
whether it was repaired. -/
def Dev.subarrayFault (f : SubarrayFault) (d : Dev) : Bool × Dev :=
  let seg := f.segment.val
  let v := d.get (Obj.SEGMENT_MEMORY seg)
  if f.sub.val = 8 ∨ (d.spareInUse seg ∧ ¬ (v / 256 = 2 ∧ v % 256 = f.sub.val)) then
    (false, d.raiseJ (0x1000 + seg) 0x0D03 noShot [0, seg, f.pattern] [])
  else if d.spareInUse seg then (true, d)
  else
    let r : Repair := { segment := seg, sub := f.sub.val, cause := 4, started := true, slots := 0, steps := 0 }
    let d1 := d.raiseJ (0x1000 + seg) 0x060C noShot [seg, f.sub.val, lo32 d.nextAdvanceSsn, 4] []
    (true, d1.repairDone r d.nextAdvanceSsn)

/-- The outcome of the test: its first failure as array and instance, whether a sub-array was repaired, and the device. -/
def Dev.checkers (subs : List SubarrayFault) (arrays : List ArrayFault) (d : Dev) : Option (Nat × Nat) × Bool × Dev :=
  let step (a : Option (Nat × Nat) × Bool × Dev) (f : SubarrayFault) : Option (Nat × Nat) × Bool × Dev :=
    let r := a.2.2.subarrayFault f
    (if r.1 then a.1 else a.1.or (some (0, f.segment.val)), a.2.1 || r.1, r.2)
  let (first, repaired, d1) := subs.foldl step (none, false, d)
  let d2 := d1.each arrays fun f d => d.raiseJ (memSource f.array.val f.part) 0x0D03 noShot [f.array.val, f.part, f.pattern] []
  (first.or (arrays.head?.map fun f => (f.array.val, f.part)), repaired, d2)

/-- CHECKER_TEST (R500, R501). -/
def checkerTest (q : Query) (v : Nat) (subs : List SubarrayFault) (arrays : List ArrayFault) (d : Dev) : Answer :=
  d.command q 1 v [(.stateForbids, decide (d.mode ≠ .test)), (.range, decide (v ≠ 1))] fun d =>
    let (first, repaired, d1) := d.checkers subs arrays
    let d2 := d1.put Obj.CHKRES_RESULT (if first.isSome then 2 else if repaired then 3 else 1)
    (d2.put Obj.ARRAY ((first.map Prod.fst).getD 0xFF)).put Obj.CHKRES_INSTANCE ((first.map Prod.snd).getD 0)

/-! ### Meanings -/

def execRinseRead (array : Fin 15) (part raw : Nat) (found : RinseResult) (holds : WordHolds) (s : State) :
    Host.Outcome State Fault Refusal := s.nextReset (rinseRead array.val part raw found holds s.store)
def execCheckerTest (r : Req) (subarrays : List SubarrayFault) (arrays : List ArrayFault) (s : State) :
    Host.Outcome State Fault Refusal :=
  s.next (Dev.serveCommand (r.write 0x8830 0) (checkerTest (r.write 0x8830 0) 1 subarrays arrays))

end Sys2Proof.Machine
end

