-- ==== Sys2Proof/Machine/Boundary.lean ====
section
/-!
DEFINITION. Sys2Proof/Machine/Boundary.lean: the signal balls, the boundary register and the test access port
(20_electrical_and_package, R604, R605, R608).
-/
namespace Sys2Proof.Machine

/-! ### Balls (R608) -/

/-- The signal balls, group by group as R608 has them; `neg` is the N ball of a pair. A DDR channel's 154 balls are numbered
in the order of R608. -/
inductive Ball where
  | wlTx (lane : Fin 136) (neg : Bool) | wlRx (lane : Fin 8) (neg : Bool)
  | shot (second neg : Bool) | defl (n : Fin 2) (neg : Bool)
  | ddr (channel : Fin 12) (n : Fin 154)
  | pcieTx (lane : Fin 16) (neg : Bool) | pcieRx (lane : Fin 16) (neg : Bool) | pcieRefclk (neg : Bool) | perstN
  | netTx (port : Fin 2) (neg : Bool) | netRx (port : Fin 2) (neg : Bool)
  | scSin (n : Fin 2) (neg : Bool) | scCos (n : Fin 2) (neg : Bool) | scRef (n : Fin 2) (neg : Bool)
  | encA (n : Fin 8) | encB (n : Fin 8) | encZ (n : Fin 8) | prb (n : Fin 4) | cmp (n : Fin 4)
  | axG (axis g : Fin 4) | axCs (axis : Fin 4) (n : Fin 2)
  | paceSlowN | amodScl | amodSda
  | ilkN (n : Fin 4) | wakeN | resetN | pwrFailN | blankAllN
  | sysref (neg : Bool) | xkIn | xkOut | extBias
  | tck | tms | tdi | tdo | trstN
  deriving DecidableEq, Repr

/-- The standard under which the boundary register covers a ball (R605). -/
inductive ScanStandard where
  /-- IEEE 1149.1. -/
  | levels
  /-- IEEE 1149.6, with AC-coupled test receivers. -/
  | edges
  deriving DecidableEq, Repr

/-- The cover of the boundary register (R605): the DDR balls, the VDD_IO-domain balls of R599 and the lanes. -/
def Ball.scan : Ball → Option ScanStandard
  | .ddr _ _ | .encA _ | .encB _ | .encZ _ | .prb _ | .cmp _ | .axG _ _ | .paceSlowN | .amodScl | .amodSda => some .levels
  | .tck | .tms | .tdi | .tdo | .trstN => some .levels
  | .wlTx _ _ | .wlRx _ _ => some .edges
  | .shot _ _ | .defl _ _ | .pcieTx _ _ | .pcieRx _ _ | .pcieRefclk _ | .perstN | .netTx _ _ | .netRx _ _ => none
  | .scSin _ _ | .scCos _ _ | .scRef _ _ | .axCs _ _ | .ilkN _ | .wakeN | .resetN | .pwrFailN | .blankAllN => none
  | .sysref _ | .xkIn | .xkOut | .extBias => none

/-- The two balls of a pair. -/
def pairOf (f : Bool → Ball) : List Ball := [f false, f true]

/-- The balls that the boundary register covers, in the order of R608. The spec gives the cells no order (DESIGN CHOICE, log
entry 91). -/
def boundaryBalls : List Ball :=
  ((List.finRange 136).flatMap fun n => pairOf (.wlTx n)) ++ ((List.finRange 8).flatMap fun n => pairOf (.wlRx n))
    ++ ((List.finRange 12).flatMap fun c => (List.finRange 154).map (.ddr c))
    ++ ((List.finRange 8).flatMap fun n => [.encA n, .encB n, .encZ n]) ++ (List.finRange 4).map .prb
    ++ (List.finRange 4).map .cmp ++ ((List.finRange 4).flatMap fun a => (List.finRange 4).map (.axG a))
    ++ [.paceSlowN, .amodScl, .amodSda, .tck, .tms, .tdi, .tdo, .trstN]

/-! ### The test access port (R604, R606) -/

/-- IDCODE (R604). -/
def tapIdcode : Nat := 0xB7262A5B

/-- What an instruction code stands for (R604): every code not listed is BYPASS. -/
inductive TapInstruction where
  | extest | samplePreload | idcode | highz | clamp | extestPulse | extestTrain | bypass
  deriving DecidableEq, Repr

def tapInstruction (code : Nat) : TapInstruction :=
  match code with
  | 0x00 => .extest
  | 0x01 => .samplePreload
  | 0x02 => .idcode
  | 0x03 => .highz
  | 0x04 => .clamp
  | 0x08 => .extestPulse
  | 0x09 => .extestTrain
  | _ => .bypass

/-- The instruction code as the instruction register then holds it. -/
def tapCode (code : Nat) : Nat := if tapInstruction code = .bypass then 0xFF else code

/-- The instructions that take the balls from the device, a latched fault while the main die runs (R606). -/
def takesBalls : TapInstruction → Bool
  | .extest | .highz | .clamp | .extestPulse | .extestTrain => true
  | .samplePreload | .idcode | .bypass => false

/-- The data register between TDI and TDO, by the standard (PRESUMED, log entry 91). -/
inductive TapRegister where
  | boundary | idcode | bypass
  deriving DecidableEq, Repr

def tapRegister : TapInstruction → TapRegister
  | .extest | .samplePreload | .extestPulse | .extestTrain => .boundary
  | .idcode => .idcode
  | .highz | .clamp | .bypass => .bypass

/-- The cell of a covered ball in the boundary register. -/
def Dev.cellOf (b : Ball) (d : Dev) : Option Bool :=
  match boundaryBalls.findIdx? (· = b) with
  | some n => some (d.boundary.getD n false)
  | none => none

/-- The level that the boundary register puts on a ball in place of the device: with EXTEST and CLAMP on a ball under IEEE
1149.1 the cell's. BLANK_ALL_N has no cell, so that no pattern releases the beams (R606). -/
def Dev.scanDrives (b : Ball) (d : Dev) : Option Bool :=
  match tapInstruction d.tap, b.scan with
  | .extest, some .levels | .clamp, some .levels => d.cellOf b
  | _, _ => none

end Sys2Proof.Machine
end

