-- ==== Sys2Proof/Machine/Mode.lean ====
section
/-!
DEFINITION. Sys2Proof/Machine/Mode.lean: mode commands, boot, soak, diagnostics and interlocks
(03_control_and_modes, R91 to R104; interlocks R331 to R334).
-/
namespace Sys2Proof.Machine

/-! ### Arm checks (R94) -/

/-- The arm checks in the order of R94, with whether each passes. -/
def Dev.armChecks (d : Dev) : List Bool :=
  let i := d.link.identity
  [d.identityValid,
   decide (i.beamRows = 512 ∧ i.beamColumns = 512 ∧ 136 ≤ i.txLanes ∧ i.rxLanes = 8),
   decide (d.get Obj.LANE_RATE ≤ d.get Obj.MAX_LANE_RATE),
   ! (d.rateLimited && (decide (850 < d.dieTemp) || d.keeper.hot)),
   decide (d.get Obj.JOB_SHOT_RATE ≤ d.get Obj.ID_MAX_SHOT_RATE ∧ d.get Obj.JOB_SHOT_RATE ≤ d.linkShotRate),
   d.skewOk, d.waveOk, d.lanesOk, d.valid (d.get Obj.SHOT_SOURCE), d.timingValid, d.gainsOk]

/-- The number of the first arm check that fails; 0 where all pass. -/
def Dev.armFailure (d : Dev) : Nat :=
  match d.armChecks.findIdx? (· = false) with
  | some i => i + 1
  | none => 0

/-! ### Mode commands (R92, R93, R97, R98) -/

/-- Whether R93 has a row for the command from the present mode and job state. -/
def Dev.modeAllows (code : Nat) (d : Dev) : Bool :=
  match code with
  | 0x01 => decide (d.mode = .setup)
  | 0x02 => decide (d.mode = .ready) && ! d.jobOpen
  | 0x03 => decide (d.mode = .ready)
  | 0x04 => decide (d.mode = .write ∨ d.mode = .mend)
  | 0x05 => decide (d.mode = .hold)
  | 0x06 => decide (d.mode = .write ∨ d.mode = .mend ∨ d.mode = .hold)
  | 0x07 => decide (d.mode = .hold)
  | 0x08 => decide (d.mode = .ready) && d.jobOpen && ! d.mendable.isEmpty
  | 0x09 => decide (d.mode = .ready)
  | 0x0A => decide (d.mode = .measure)
  | 0x0B => decide (d.mode = .ready)
  | 0x0C => decide (d.mode = .service) && ! decide (1 ≤ d.get Obj.RECOVERY_STATE ∧ d.get Obj.RECOVERY_STATE ≤ 3)
  | 0x0D => decide (d.mode = .setup) && ! d.jobOpen
  | 0x0E => decide (d.mode = .test)
  | 0x0F => decide (d.mode = .safe)
  | 0x10 => d.mode.canSafe
  | _ => true

/-- The arm check number that a command's CHECK reports, where its arm checks are part of its condition. -/
def Dev.commandArmFailure (code : Nat) (d : Dev) : Nat :=
  if code = 0x01 ∨ code = 0x03 ∨ code = 0x08 ∨ code = 0x09 ∨ code = 0x0C then d.armFailure else 0

/-- The conditions of R93 beside the arm checks that answer CHECK. -/
def Dev.modeCheckFails (code : Nat) (mem : Map Byte) (d : Dev) : Bool :=
  match code with
  | 0x03 => decide (d.get Obj.JOB_STATE ≠ 2) || ! d.interlocksSafe
  | 0x05 => ! d.interlocksSafe || d.warnPresent
  | 0x08 => ! d.interlocksSafe || d.mendAreaBad mem
  | 0x09 => ! d.interlocksSafe || d.measureFails mem
  | _ => false

/-- STOP (R98): the stripe ends at its present shot, and the device goes to READY. -/
def Dev.stop (d : Dev) : Dev := (((d.changeMode 1 .ready).each d.stripes Dev.stopStripe).settlePass).pauseIfIdle

/-- MEASURE (R38, R231): its entry and columns are taken, contexts are claimed; without a job a sequence of its own starts
at SSN 0, after ALIGN frames. -/
def Dev.measure (mem : Map Byte) (d0 : Dev) : Dev :=
  let d := (d0.changeMode 1 .measure).takeMeasure mem
  let d1 := ((d.claimMeasure.add 16 Obj.MEASURE_SEQUENCE 1).put Obj.MEASURE_SHORT_PIXELS 0).put Obj.MEASURE_BLANKED_PARTS 0
  if d.jobOpen then d1 else d1.newSequence

/-- END_TEST (R93). -/
def Dev.endTest (d : Dev) : Dev :=
  if d.jobOpen then d.changeMode 1 .service else (d.changeMode 1 .setup).startRead none

/-- What an accepted mode command does; RELEASE acts after its response. -/
def Dev.modeEffect (code : Nat) (mem : Map Byte) (d : Dev) : Dev :=
  match code with
  | 0x01 => d.changeMode 1 .ready
  | 0x02 => d.changeMode 1 .setup
  | 0x03 => d.changeMode 1 .write
  | 0x04 => d.enterHold 1
  | 0x05 => (d.changeMode 1 (if d.get Obj.HOLD_ORIGIN = 9 then .mend else .write)).put Obj.HOLD_ORIGIN 0
  | 0x06 => (d.put Obj.PAUSE_PENDING 1).pauseIfIdle
  | 0x07 => d.stop
  | 0x08 => (d.changeMode 1 .mend).startPass
  | 0x09 => d.measure mem
  | 0x0A => d.endMeasure 1
  | 0x0B => d.changeMode 1 .service
  | 0x0C => d.changeMode 1 .ready
  | 0x0D => d.changeMode 1 .test
  | 0x0E => d.endTest
  | 0x10 => d.enterSafe 1
  | _ => d

/-- The restricted modes take no other mode command, an unlisted code among them (R102). -/
def Dev.modeRestricts (v : Nat) (d : Dev) : Bool :=
  match d.mode with
  | .test => decide (v ≠ 0x0E ∧ v ≠ 0x10)
  | .safe => decide (v ≠ 0x0F)
  | _ => false

/-- MODE_COMMAND: a read shows the code, the outcome and the first failed arm check. -/
def modeCommand (q : Query) (v : Nat) (mem : Map Byte) (d : Dev) : Answer :=
  let code := v % 256
  let known := decide (1 ≤ v ∧ v ≤ 16)
  let interlocks := known && (decide (code = 0x03) && decide (d.get Obj.JOB_STATE ≠ 2))
  let arm := if interlocks then 0 else d.commandArmFailure code
  let busy := decide (code = 0x09) && decide (d.freePool.length < d.measureColumns.length)
  let tests : List (Abort × Bool) :=
    [(.stateForbids, d.modeRestricts v || (known && ! d.modeAllows code)), (.resourceBusy, known && busy), (.range, ! known),
     (.check, decide (arm ≠ 0) || d.modeCheckFails code mem),
     (.busy, decide (code = 0x0E) && decide (d.get Obj.DIAG_STATE = 1))]
  match d.command q 4 v tests fun d => (d.put Obj.MODE_COMMAND (commandWord code 0 0)).modeEffect code mem with
  | .refuse .check d => .refuse .check (d.put Obj.MODE_COMMAND (commandWord code 1 arm))
  | .refuse a d => .refuse a (d.put Obj.MODE_COMMAND (commandWord code 1 0))
  | x => x

/-- RELEASE resets the main die after its response (R93, R575 source 7 cause 4). -/
def serveRelease (r : Req) (confirmed : Bool) (mem : Map Byte) (d : Dev) : Dev :=
  let q := r.write 0x2001 0
  d.serveWith (Dev.answeredThen q fun d => d.mainReset 7 4 confirmed) q [(.access, d.sessionFails q)] (modeCommand q 0x0F mem)

/-- A mode command's meaning. -/
def modeExec (code : Nat) (r : Req) (s : State) : Host.Outcome State Fault Refusal :=
  s.nextMem fun mem => Dev.serveCommand (r.write 0x2001 0) (modeCommand (r.write 0x2001 0) code mem)

/-! ### Boot (R93, R447, R507, R556, R562, R620) -/

/-- The slot that boots: the active one where it is valid, else the other, which is recorded (R562). -/
def Dev.bootSlot (slotA slotB : Bool) (d : Dev) : Dev :=
  let active := d.get Obj.ACTIVE_SLOT
  let ok (n : Nat) : Bool := if n = 0 then slotA else slotB
  if ok active then d
  else if ok (1 - active) then
    ((((d.raiseJ 0 0x1113 noShot [active] []).put (slotKeyFw active) 3).put (slotKeyFw (1 - active)) 1)).put Obj.ACTIVE_SLOT
      (1 - active)
  else d.raiseJ 0 0x1113 noShot [active] []

/-- END_OF_BOOT: the recovery scan, the decision on the store's contents, the records of calibration, the time, then
soak; a boot that fails enters SAFE. -/
def endOfBoot (slotA slotB recordsValid : Bool) (mem : Map Byte) (d : Dev) : Dev :=
  if d.mode ≠ .wake then d
  else
    let d1 := d.bootSlot slotA slotB
    if ¬ (slotA ∨ slotB) ∨ ¬ recordsValid then d1.enterSafe 7
    else
      let d2 := (d1.scanJournal.decideContents false mem).scanDone
      let d3 := (d2.each (List.range 12) Dev.loadCal).setFromBackup
      let d4 := { d3.changeMode 7 .test with soaking := true }
      ((d4.put Obj.DIAG_STATE 1).put Obj.LAST 1).tryUnblank

/-! ### The steps of soak (R101, R103) -/

/-- Bits of a list of numbers in a byte object. -/
def bitmap (n : Nat) (l : List Nat) : List Byte :=
  (List.range n).map fun i => BitVec.ofNat 8 ((List.range 8).foldl (fun v b => if l.contains (8 * i + b) then v + 2 ^ b else v) 0)

/-- Step 2: engines that fail become FAILED, and spares that do not have completed a pass (R278); a spare takes over, or the
segment is blanked. `all` tests retired engines too. -/
def Dev.soakEngines (all : Bool) (failed : List Nat) (d : Dev) : Dev :=
  let one (e : Nat) (d : Dev) : Dev :=
    let st := d.get (Obj.ENGINE_STATE e)
    if st = 1 then knownAnswerPass e false d
    else if st = 3 ∨ (st = 2 ∧ ! all) then d
    else d.put (Obj.ENGINE_STATE e) 3
  let passed (e : Nat) (d : Dev) : Dev := if d.get (Obj.ENGINE_STATE e) = 1 then knownAnswerPass e true d else d
  let d0 := d.each ((List.range 68).filter fun e => ! failed.contains e) passed
  let d1 := (d0.each failed one).putBlob Obj.ENGINES_FAILED (bitmap 9 failed)
  d1.each (List.range 64) fun s d =>
    let e := d.get (Obj.ENGINE_MAP s)
    if e ≠ 0xFF ∧ d.get (Obj.ENGINE_STATE e) ≠ 0 then d.darn { due := d.ssnNext, segment := s, engine := e } else d

/-- Steps 3 and 4: transmit lanes become FAILED and their logical lanes are spared; return lanes go out of service. -/
def Dev.soakLanes (lanes returns : List Nat) (d : Dev) : Dev :=
  let d1 := d.putBlob Obj.LANES_FAILED (bitmap 18 (lanes ++ returns.map (136 + ·)))
  let d2 := d1.each lanes fun l d => d.put (Obj.LANE_STATE l) 3
  let d3 := d2.each (List.range 128) fun lam d =>
    if lanes.contains (d.get (Obj.LANE_MAP lam)) then d.autoSpare lam d.ssnNext else d
  d3.each returns fun j d => d.laneDown j 1

/-- Both return lanes of a segment fail (R101, step 4). -/
def noEchoLeft (returns : List Nat) : Bool := (List.range 4).any fun j => returns.contains j && returns.contains (j + 4)

/-- The steps of soak in order: the step that fails, 0 where none does, and the device. -/
def Dev.soakSteps (t : SelfTest) (d : Dev) : Nat × Dev :=
  let clear := (d.putBlob Obj.ENGINES_FAILED []).putBlob Obj.LANES_FAILED []
  let (first, _, d1) := clear.checkers t.subarrays t.arrays
  if first.isSome then (1, d1)
  else
    let returns := t.returns.map Fin.val
    let d2 := (d1.soakEngines false (t.engines.map Fin.val)).soakLanes (t.lanes.map Fin.val) returns
    if noEchoLeft returns then (4, d2) else (0, d2.calSoak)

/-- The result of a diagnostic in 0xF001. -/
def Dev.diagResult (failed : Bool) (step duration : Nat) (d : Dev) : Dev :=
  (((d.put Obj.DIAG_STATE 2).put Obj.DIAG_RESULT (if failed then 2 else 1)).put Obj.FAILED_STEP step).put Obj.DURATION duration

/-- SOAK_RESULT (R93, R101): TEST goes to SETUP, SERVICE or SAFE. The wait for echoes counts from here (R449), and the
identity is read on entering SETUP (R329). -/
def soakResult (t : SelfTest) (d : Dev) : Dev :=
  if d.mode ≠ .test ∨ ! d.soaking then d
  else
    let (step, d1) := d.soakSteps t
    let d2 := { d1.diagResult (decide (step ≠ 0)) step t.duration with soaking := false }
    if step ≠ 0 then d2.enterSafe 8
    else if d2.jobOpen then
      { d2.changeMode 8 .service with rescue := { d2.rescue with at_ := d2.clock.raw } }
    else (d2.changeMode 8 .setup).startRead none

/-! ### Diagnostics (R103) -/

/-- DIAG_COMMAND: one diagnostic runs at a time. -/
def diagCommand (q : Query) (v : Nat) (d : Dev) : Answer :=
  let a := d.get Obj.TEST_ADDR
  let n := d.get Obj.TEST_LENGTH
  let badRange := decide (v = 4) && (decide (a % 64 ≠ 0 ∨ n % 64 ≠ 0) || ! d.populated a n)
  d.command q 1 v
    [(.stateForbids, decide (d.mode ≠ .test)), (.range, decide (v = 0 ∨ 5 < v) || badRange),
     (.busy, decide (d.get Obj.DIAG_STATE = 1))]
    fun d =>
      let d1 := ((((d.put Obj.DIAG_COMMAND v).put Obj.DIAG_STATE 1).put Obj.LAST v).put Obj.DIAG_RESULT 0).put Obj.FAILED_STEP 0
      if v = 4 then { ((d1.put Obj.TEST_ERRORS 0).put Obj.FIRST_ERROR 0).put Obj.TEST_DONE_BYTES 0 with march := (a, n) } else d1

/-- The march test (R103): errors are counted and act under R481 and R482. -/
def Dev.marchDone (errors : List (Nat × Bool)) (duration : Nat) (mem : Map Byte) (d : Dev) : Dev :=
  let first := (errors.head?.map Prod.fst).getD 0
  let d1 := ((d.put Obj.TEST_ERRORS errors.length).put Obj.FIRST_ERROR first).put Obj.TEST_DONE_BYTES d.march.2
  (d1.each errors fun e d => if e.2 then d.burstLost e.1 mem else d.burstCorrected e.1 mem).diagResult (! errors.isEmpty) 0 duration

/-- DIAG_DONE: the diagnostic that runs completes. LANES fails where any lane fails (DESIGN CHOICE, log entry 92: R103
does not say when it passes; unsafe). -/
def diagDone (r : DiagResult) (mem : Map Byte) (d : Dev) : Dev :=
  if d.mode ≠ .test ∨ d.soaking ∨ d.get Obj.DIAG_STATE ≠ 1 then d
  else
    match d.get Obj.LAST, r with
    | 1, .parts t =>
      let (step, d1) := d.soakSteps t
      d1.diagResult (decide (step ≠ 0)) step t.duration
    | 2, .parts t => (d.soakEngines true (t.engines.map Fin.val)).diagResult (! t.engines.isEmpty) 0 t.duration
    | 3, .parts t =>
      let returns := t.returns.map Fin.val
      (d.soakLanes (t.lanes.map Fin.val) returns).diagResult (! t.lanes.isEmpty || ! t.returns.isEmpty)
        (if noEchoLeft returns then 4 else 0) t.duration
    | 4, .store errors duration => d.marchDone errors duration mem
    | 5, .keeper areas records duration =>
      ((d.put Obj.AREAS_FAILED (areas % 65536)).put Obj.RECORDS_FAILED (records % 2 ^ 32)).diagResult
        (decide (areas ≠ 0 ∨ records ≠ 0)) 0 duration
    | _, _ => d

/-- The bytes of a range become zero. -/
def clearRange (a n : Nat) (mem : Map Byte) : Map Byte := mem.filter fun e => ! decide (a ≤ e.1 ∧ e.1 < a + n)

/-- DIAG_DONE over the store: a march test leaves zeros. -/
def State.diagDone (r : DiagResult) (s : State) : Host.Outcome State Fault Refusal :=
  let marched := decide (s.dev.get Obj.DIAG_STATE = 1 ∧ s.dev.get Obj.LAST = 4 ∧ s.dev.mode = .test)
  let isStore := match r with
    | .store _ _ => true
    | _ => false
  let s1 := if marched && isStore then
      { s with store := clearRange s.dev.march.1 s.dev.march.2 s.store } else s
  s1.nextLost (Machine.diagDone r)

/-- A diagnostic command's meaning. -/
def diagExec (v : Nat) (r : Req) (s : State) : Host.Outcome State Fault Refusal :=
  s.next (Dev.serveCommand (r.write 0xF000 0) (diagCommand (r.write 0xF000 0) v))

/-! ### Interlocks (R331 to R334) -/

/-- INTERLOCK_UNSAFE (R332). -/
def interlockUnsafe (n : Nat) (d0 : Dev) : Dev :=
  if d0.mode = .off ∨ (d0.mode = .keep ∧ d0.keeper.standby) then d0
  else
    let d := d0.interlockLevel n true
    if d.get (Obj.ILK_ROLE n) = 0 then d
    else
      let d1 := d.bump (Obj.ILK_TRIPS n)
      if d1.bit Obj.ILK_STATE n then d1.putBit Obj.ILK_STATE (n + 4) true else d1.trip n

/-- INTERLOCK_SAFE (R333). -/
def interlockSafe (n : Nat) (d0 : Dev) : Dev :=
  if d0.mode = .off ∨ (d0.mode = .keep ∧ d0.keeper.standby) then d0
  else
    let d := d0.interlockLevel n false
    if ! d.bit Obj.ILK_STATE n ∨ d.get (Obj.ILK_ROLE n) = 0 then d
    else ((d.putBit Obj.ILK_STATE n false).raise srcKeeper 0x0708 [n, d.get (Obj.ILK_ROLE n), d.get Obj.ILK_STABLE]).tryUnblank

/-! ### Boundary scan (R604, R606) -/

/-- TAP_INSTRUCTION_LOAD: the TAP is held in Test-Logic-Reset while the main die is; an instruction that takes the
balls is a latched fault. The boundary register holds what was shifted into it (R605). -/
def tapLoad (x : TapLoad) (d : Dev) : Dev :=
  if ¬ d.running then d
  else
    let d1 := { d with tap := tapCode x.code.toNat, boundary := x.cells }
    if takesBalls (tapInstruction x.code.toNat) then d1.enterSafe 6 else d1

/-! ### Objects of the modes -/

/-- Mode objects that are formed on a read. -/
def Dev.modeValue (k : Nat) (d : Dev) : Option Nat :=
  if k = Obj.MODE then some d.mode.code
  else if k = Obj.HOLD_ORIGIN then some (if d.mode = .hold then d.get Obj.HOLD_ORIGIN else 0)
  else none

/-! ### Meanings -/

def execArm (r : Req) (s : State) : Host.Outcome State Fault Refusal := modeExec 0x01 r s
def execDisarm (r : Req) (s : State) : Host.Outcome State Fault Refusal := modeExec 0x02 r s
def execStart (r : Req) (s : State) : Host.Outcome State Fault Refusal := modeExec 0x03 r s
def execHold (r : Req) (s : State) : Host.Outcome State Fault Refusal := modeExec 0x04 r s
def execResume (r : Req) (s : State) : Host.Outcome State Fault Refusal := modeExec 0x05 r s
def execPause (r : Req) (s : State) : Host.Outcome State Fault Refusal := modeExec 0x06 r s
def execStop (r : Req) (s : State) : Host.Outcome State Fault Refusal := modeExec 0x07 r s
def execMend (r : Req) (s : State) : Host.Outcome State Fault Refusal := modeExec 0x08 r s
def execMeasure (r : Req) (s : State) : Host.Outcome State Fault Refusal := modeExec 0x09 r s
def execEndMeasure (r : Req) (s : State) : Host.Outcome State Fault Refusal := modeExec 0x0A r s
def execService (r : Req) (s : State) : Host.Outcome State Fault Refusal := modeExec 0x0B r s
def execEndService (r : Req) (s : State) : Host.Outcome State Fault Refusal := modeExec 0x0C r s
def execDiagnose (r : Req) (s : State) : Host.Outcome State Fault Refusal := modeExec 0x0D r s
def execEndTest (r : Req) (s : State) : Host.Outcome State Fault Refusal := modeExec 0x0E r s
def execRelease (r : Req) (confirmed : Bool) (s : State) : Host.Outcome State Fault Refusal :=
  s.nextReset (serveRelease r confirmed s.store)
def execEnterSafe (r : Req) (s : State) : Host.Outcome State Fault Refusal := modeExec 0x10 r s
def execEndOfBoot (slotA slotB recordsValid : Bool) (s : State) : Host.Outcome State Fault Refusal :=
  s.nextMem (endOfBoot slotA slotB recordsValid)
def execSoakResult (t : SelfTest) (s : State) : Host.Outcome State Fault Refusal := s.next (soakResult t)
def execDiagSoak (r : Req) (s : State) : Host.Outcome State Fault Refusal := diagExec 1 r s
def execDiagEngines (r : Req) (s : State) : Host.Outcome State Fault Refusal := diagExec 2 r s
def execDiagLanes (r : Req) (s : State) : Host.Outcome State Fault Refusal := diagExec 3 r s
def execDiagStore (r : Req) (s : State) : Host.Outcome State Fault Refusal := diagExec 4 r s
def execDiagKeeper (r : Req) (s : State) : Host.Outcome State Fault Refusal := diagExec 5 r s
def execDiagDone (result : DiagResult) (s : State) : Host.Outcome State Fault Refusal := s.diagDone result
def execInterlockUnsafe (input : Fin 4) (s : State) : Host.Outcome State Fault Refusal := s.next (interlockUnsafe input.val)
def execInterlockSafe (input : Fin 4) (s : State) : Host.Outcome State Fault Refusal := s.next (interlockSafe input.val)
def execTapInstructionLoad (x : TapLoad) (s : State) : Host.Outcome State Fault Refusal := s.next (tapLoad x)

end Sys2Proof.Machine
end

