-- ==== Sys2Proof/Machine/Job.lean ====
section
/-!
DEFINITION. Sys2Proof/Machine/Job.lean: the acceptance and the close of a job
(03_control_and_modes, R105 to R111, R614, R615; 04_layout_package, R155 to R157; R221 to R226, R435).
-/
namespace Sys2Proof.Machine

/-! ### JOB_ACCEPT (R105, R106, R224) -/

/-- The package that JOB_PACKAGE_OFFSET and JOB_PACKAGE_LENGTH name; the acceptance reads them where it uses them (log entry
92). -/
def Dev.offered (d : Dev) : Package := { base := d.get Obj.JOB_PACKAGE_OFFSET, length := d.get Obj.JOB_PACKAGE_LENGTH }

/-- Test 1 of R156: the package, and with MAP_ON the map area, lie within the populated store and apart. -/
def Dev.storeRangeBad (mem : Map Byte) (p : Package) (d : Dev) : Bool :=
  let a := d.get Obj.MAP_BASE
  let n := p.mapLength mem
  ! d.populated p.base p.length
    || (decide (d.get Obj.MAP_ON = 1) && (! d.populated a n || overlaps a n p.base p.length))

/-- Test 2 of R156: the identity and the module's rank (R330). -/
def Dev.moduleBad (d : Dev) : Bool :=
  ! d.identityValid || decide (d.get Obj.MAX_LANE_RATE < d.get Obj.LANE_RATE)
    || decide (d.get Obj.ID_MAX_SHOT_RATE < d.get Obj.JOB_SHOT_RATE) || decide (d.linkShotRate < d.get Obj.JOB_SHOT_RATE)

/-- The tests before the cell library pass (R156, R225). -/
def Dev.cellsDue (mem : Map Byte) (p : Package) (d : Dev) : Bool :=
  ! d.storeRangeBad mem p && ! d.moduleBad && (p.fault mem (d.get Obj.KLF_VERSION)).isNone

/-- Acceptance starts (R224): every free pool context is claimed for cell-cache fill, the cell cache is cleared, and where
the tests before the cell library pass each context takes a cell. -/
def Dev.startAcceptance (mem : Map Byte) (d : Dev) : Dev :=
  let p := d.offered
  let pool := d.freePool
  let d1 := ((((d.put Obj.JOB_ACCEPT 1).put Obj.JOB_STATE 1).put Obj.CELLS_FAILED 0).put Obj.REFILLS 0).each pool fun j d =>
    d.put (Obj.CONTEXT_OWNER j) 0x0600
  let d2 := d1.onUnfold fun u => { u with cells := [], fill := some { package := p, contexts := pool, next := 0 } }
  if d.cellsDue mem p then d2.each (pool.take (p.cellCount mem)) fun j d => d.nextCell (128 + j) mem else d2

/-- JOB_ACCEPT. -/
def jobAcceptCommand (q : Query) (v : Nat) (mem : Map Byte) (d : Dev) : Answer :=
  let runs := decide (d.get Obj.JOB_STATE = 1)
  d.command q 4 v
    [(.stateForbids, decide (d.mode ≠ .ready) || d.jobOpen), (.resourceBusy, ! runs && d.freePool.isEmpty),
     (.range, decide (v ≠ 1)), (.busy, runs)]
    (Dev.startAcceptance mem)

/-! ### How acceptance ends (R107, R108, R614) -/

/-- The pool contexts of the cell-cache fill are released. -/
def Dev.endFill (d : Dev) : Dev :=
  match d.unfold.fill with
  | none => d
  | some f =>
    let d1 := d.each f.contexts fun j d => (d.dropCtx (128 + j)).unclaim (Obj.CONTEXT_OWNER j) 0x0600
    (d1.onUnfold fun u => { u with fill := none }).claimMap

/-- An acceptance ends rejected (R614): result, code, MAX_SHOT_RATE, first failing stripe and tile row. -/
def Dev.reject (result code rate stripe row : Nat) (d : Dev) : Dev :=
  let d1 := (((d.put Obj.ACCEPT_RESULT result).put Obj.ACCEPT_MAX_SHOT_RATE rate).put Obj.FAIL_STRIPE stripe).put Obj.FAIL_TILE_ROW row
  ((d1.put Obj.JOB_STATE 0).endFill).raise 0 0x0302 [result, code, stripe, row]

/-- A rejection by a test that names no stripe. -/
def Dev.rejectPlain (result : Nat) (d : Dev) : Dev := d.reject result 0 0 0xFFFFFFFF 0xFFFFFFFF

/-- A rejection with ACCEPT_RESULT 2 fills 0x4001 PACKAGE_FAULT. -/
def Dev.rejectPackage (f : PackageFault) (d : Dev) : Dev :=
  let d1 := ((d.put Obj.FAULT_CODE f.code).put Obj.FAULT_TILE_COLUMN f.column).put Obj.CELL f.cell
  let d2 := (d1.put Obj.FAULT_OFFSET f.offset).put Obj.JOB_ATTEMPT ((d.get Obj.JOB_ID + 1) % 2 ^ 32)
  d2.reject 2 f.code 0 f.stripe f.tileRow

/-- The cells that fit the cache together, in the order of the directory (R225). -/
def fittingCells (capacity : Nat) : Nat → Map CellData → Map CellData
  | _, [] => []
  | n, c :: l => if capacity < n + c.2.bytes then [] else c :: fittingCells capacity (n + c.2.bytes) l

/-- The cells of package `p` that its acceptance has decoded so far; none where another package has been offered since. -/
def Dev.filledCells (p : Package) (d : Dev) : Map CellData :=
  match d.unfold.fill with
  | some f => if f.package = p then d.unfold.cells else []
  | none => []

/-- The cell library of a package: the cells decoded so far, and the others as they decode now (R225). -/
def Dev.library (mem : Map Byte) (p : Package) (d : Dev) : Map CellData :=
  let filled := d.filledCells p
  (p.cells mem).map fun c => (c.1, (Map.find filled c.1).getD c.2)

/-- The cell library is decoded into the cell cache, up to the first cell that does not fit; a cell that fails its decoding is
counted and recorded once (R225, R226). -/
def Dev.fillCells (mem : Map Byte) (p : Package) (d : Dev) : Dev :=
  let filled := d.filledCells p
  let cells := fittingCells (d.get Obj.CAPACITY) 0 (d.library mem p)
  let d1 := (d.onUnfold fun u => { u with cells := filled }).when filled.isEmpty (Dev.put Obj.CELLS_FAILED 0)
  d1.each (cells.filter fun c => (Map.find filled c.1).isNone) fun c d => d.takeCell c.1 c.2

/-- What 0x4002 PACKAGE_INFO shows of an accepted package (R157). -/
def Dev.packageInfo (mem : Map Byte) (p : Package) (d : Dev) : Dev :=
  let d1 := (d.putBlob Obj.JOB_TAG (p.bytes mem 16 16)).put Obj.STRIPE_COUNT (p.stripeCount mem)
  ((d1.put Obj.CELL_COUNT (p.cellCount mem)).put Obj.JOB_DOSE_SCALE (p.doseScale mem)).put Obj.HEADER_CRC (p.headerCrc mem)

/-- The data of the acceptance entry (R619). -/
def OpenJob.data (j : OpenJob) : List Byte := le 4 j.id ++ le 4 j.headerCrc ++ le 8 j.offset ++ le 8 j.length ++ le 4 j.rate

/-- The job opens (R107): the journal, the checkpoint slots and the set store are emptied, the acceptance entry is
written, the job's sequence of shots starts at SSN 0 after ALIGN frames (R38), and 0x3020 shows no stripe of it yet (R61). -/
def Dev.openJob (mem : Map Byte) (p : Package) (d : Dev) : Dev :=
  let j : OpenJob :=
    { id := (d.get Obj.JOB_ID + 1) % 2 ^ 32, headerCrc := p.headerCrc mem, offset := p.base, length := p.length,
      rate := d.get Obj.JOB_SHOT_RATE, stripes := p.stripeCount mem }
  let d1 := (d.onLedger fun l => { Ledger.reset with job := some j, overdose := l.overdose }).newSequence
  let d2 := ((d1.each (List.range 8) fun i d => d.put (Obj.STRIPE_INDEX + i) 0).put Obj.JOB_ID j.id).packageInfo mem p
  let d3 := (((d2.put Obj.JOB_STRIPES j.stripes).put Obj.STRIPES_DONE 0).put Obj.FIRST_UNOPENED 0).put Obj.PASSES 0
  let d4 := ((d3.put Obj.NEXT_NUMBER 0).put Obj.MEND_STRIPES 0).put Obj.BUILD_STATE 0
  let d5 := (((d4.put Obj.ACCEPT_RESULT 0).put Obj.ACCEPT_MAX_SHOT_RATE 0).put Obj.FAIL_STRIPE 0xFFFFFFFF).put Obj.FAIL_TILE_ROW
    0xFFFFFFFF
  ((d5.put Obj.JOB_STATE 2).raiseJ 0 0x0301 noShot [j.id, j.headerCrc, j.stripes, p.cellCount mem] j.data).endFill

/-- The cell library's overflow ends the acceptance with code 0x0E, and is recorded after the rejection (R225). -/
def Dev.rejectCells (mem : Map Byte) (p : Package) (cell bytes : Nat) (d : Dev) : Dev :=
  let f := { headerFault 0x0E (p.cellDir mem + 16 * cell) with cell := cell }
  (d.rejectPackage f).raise srcUnfold 0x0408 [bytes, d.get Obj.CAPACITY, cell]

/-- The tests of R156 from the cell library on. -/
def Dev.judge (mem : Map Byte) (p : Package) (d0 : Dev) : Dev :=
  let d := d0.fillCells mem p
  match firstUnfit (d.get Obj.CAPACITY) 0 (d0.library mem p) with
  | some (cell, bytes) => d.rejectCells mem p cell bytes
  | none =>
    match p.admission mem (d.get Obj.SEAM_MODE) (d.get Obj.SEAM_OVERLAP) (d.get Obj.JOB_SHOT_RATE) (d.get Obj.ADMISSION_SHARE) with
    | some (stripe, row, rate) => d.reject 1 0 rate stripe row
    | none => d.openJob mem p

/-- JOB_ACCEPTED: the acceptance that runs comes to its end (R156). -/
def jobAccepted (mem : Map Byte) (d : Dev) : Dev :=
  if d.get Obj.JOB_STATE ≠ 1 then d
  else
    let p := d.offered
    let d1 := if d.get Obj.MAP_ON = 1 then d.put Obj.MAP_LENGTH (p.mapLength mem % 2 ^ 64) else d
    if d1.storeRangeBad mem p then d1.rejectPlain 4
    else if d1.moduleBad then d1.rejectPlain 3
    else
      match p.fault mem (d1.get Obj.KLF_VERSION) with
      | some f => d1.rejectPackage f
      | none => d1.judge mem p

/-! ### JOB_CLOSE (R111, R485) -/

/-- A record that the close of its job closes. -/
def closesWithJob (r : LedgerRecord) : Bool := decide (r.state = 0 ∨ r.state = 1 ∨ r.state = 3)

/-- The close of the job. -/
def Dev.closeJob (d : Dev) : Dev :=
  let n := (d.ledger.records.filter closesWithJob).length
  let f (r : LedgerRecord) : LedgerRecord := if closesWithJob r then { r with state := 5 } else r
  let d1 := (d.put Obj.JOB_CLOSE 1).onLedger fun l => { l with records := l.records.map f }
  let d2 := (d1.put Obj.JOB_STATE 0).raiseJ 0 0x0305 noShot [d.get Obj.JOB_ID, n] []
  (d2.onLedger fun l => { l with job := none, lowReported := false }).withdrawRefetch

/-- JOB_CLOSE. -/
def jobCloseCommand (q : Query) (v : Nat) (d : Dev) : Answer :=
  d.command q 4 v [(.stateForbids, decide (d.mode ≠ .ready) || ! d.jobOpen), (.range, decide (v ≠ 1))] Dev.closeJob

/-! ### Objects -/

/-- Writes of JOB_SHOT_RATE while a job is open (R223). -/
def Dev.jobTests (index _sub v : Nat) (d : Dev) : List (Abort × Bool) :=
  match d.ledger.job with
  | some j => if index = 0x2012 then [(.stateForbids, decide (j.rate < v))] else []
  | none => []

/-- 0x4002 PACKAGE_INFO reads as zero while no job is open (R157). -/
def Dev.jobValue (k : Nat) (d : Dev) : Option Nat :=
  if ! d.jobOpen && decide (Obj.STRIPE_COUNT ≤ k ∧ k ≤ Obj.HEADER_CRC) then some 0 else none

/-- JOB_TAG reads as zero while no job is open. -/
def Dev.jobBytes (k : Nat) (d : Dev) : Option (List Byte) :=
  if k = Obj.JOB_TAG ∧ ! d.jobOpen then some (List.replicate 16 0) else none

/-! ### Meanings -/

def execJobAccept (r : Req) (s : State) : Host.Outcome State Fault Refusal :=
  s.nextMem fun mem => Dev.serveCommand (r.write 0x2014 0) (jobAcceptCommand (r.write 0x2014 0) 1 mem)
def execJobAccepted (s : State) : Host.Outcome State Fault Refusal := s.nextMem jobAccepted
def execJobClose (r : Req) (s : State) : Host.Outcome State Fault Refusal :=
  s.next (Dev.serveCommand (r.write 0x2016 0) (jobCloseCommand (r.write 0x2016 0) 1))

end Sys2Proof.Machine
end

