-- ==== Sys2Proof/Machine/Axes.lean ====
section
/-!
DEFINITION. Sys2Proof/Machine/Axes.lean: the auxiliary step axes (12_auxiliary_axes, R403 to R424).
Position is kept in 2^−24 microstep, velocity and acceleration in 2^−40 microstep per tick and per tick squared (R410;
log entry 70).
-/
namespace Sys2Proof.Machine

/-! ### An axis -/

/-- Axis `a`. -/
def Dev.stepAxis (a : Nat) (d : Dev) : Axis := Map.get Axis.reset d.axes a

/-- Sets axis `a`. -/
def Dev.setStep (a : Nat) (x : Axis) (d : Dev) : Dev := { d with axes := Map.put Axis.reset a x d.axes }

/-- Changes axis `a`. -/
def Dev.onStep (a : Nat) (f : Axis → Axis) (d : Dev) : Dev := d.setStep a (f (d.stepAxis a))

/-- POSITION in microsteps, to nearest (R410). -/
def Axis.micro (x : Axis) : Int := nearest x.pos 16777216

/-- Microsteps in 2^−24. -/
def microsteps (n : Int) : Int := n * 16777216

/-- The axis moves: STATE 2 to 5. -/
def Dev.axisMoves (a : Nat) (d : Dev) : Bool := decide (2 ≤ d.get (Obj.AXIS_STATE a) ∧ d.get (Obj.AXIS_STATE a) ≤ 5)

/-- The sign of a number. -/
def signOf (v : Int) : Int := if 0 < v then 1 else if v < 0 then -1 else 0

/-- HOME_DIR as a sign. -/
def Dev.homeDir (a : Nat) (d : Dev) : Int := if d.get (Obj.HOME_DIR a) = 0 then 1 else -1

/-- VELOCITY in microsteps/s. -/
def Axis.speed (x : Axis) : Int := nearest (x.vel * 1000000) (2 ^ 40)

/-- An event of class 0x0A. -/
def Dev.axisEvent (code : Nat) (ps : List Int) (d : Dev) : Dev := d.raise srcStage code (ps.map (ofSigned 32))

/-- COMMAND's read form: last command code in [7:4], outcome in [3:0] (0 done, 1 refused, 2 in progress). -/
def Dev.axisWord (a code outcome : Nat) (d : Dev) : Dev := d.put (Obj.AXIS_COMMAND a) (code % 16 * 16 + outcome)

/-- A command in progress is done. -/
def Dev.axisDone (a : Nat) (d : Dev) : Dev :=
  let w := d.get (Obj.AXIS_COMMAND a)
  if w % 16 = 2 then d.put (Obj.AXIS_COMMAND a) (w - 2) else d

/-! ### Currents (R404, R405, R408) -/

/-- Cosine and sine of π · n ÷ 512 in 2^−128, for n below 256. -/
def cosSin : Nat → Int × Int
  | 0 => (340282366920938463463374607431768211456, 0)
  | n + 1 =>
    let (c, s) := cosSin n
    let c1 : Int := 340275961201545362514682404085958700136
    let s1 : Int := 2087933351568136955647909863034040375
    ((c * c1 - s * s1) / 2 ^ 128, (s * c1 + c * s1) / 2 ^ 128)

/-- I_A and I_B of a current level in mA at a microstep (R405). -/
def phaseCurrents (level : Nat) (position : Int) : Int × Int :=
  let q := (position % 1024).toNat
  let (c, s) := cosSin (q % 256)
  let (a, b) := if q < 256 then (c, s) else if q < 512 then (-s, c) else if q < 768 then (-c, -s) else (s, -c)
  (nearest (level * a) (2 ^ 128), nearest (level * b) (2 ^ 128))

/-- The commanded currents of an axis's phases; none while it is disabled or faulted (R403, R407). -/
def Dev.axisCurrents (a : Nat) (d : Dev) : Int × Int :=
  let st := d.get (Obj.AXIS_STATE a)
  let x := d.stepAxis a
  if st = 0 ∨ st = 6 then (0, 0)
  else
    let level := if x.run then d.get (Obj.I_RUN a) else d.get (Obj.I_HOLD a)
    phaseCurrents level (if d.get (Obj.AXIS_INVERT a) = 1 then -x.micro else x.micro)

/-- The commanded current of one phase. -/
def Dev.phaseCurrent (a p : Nat) (d : Dev) : Int := if p = 0 then (d.axisCurrents a).1 else (d.axisCurrents a).2

/-- The reference converter's code of a current (R404). -/
def currentCode (i senseMohm : Nat) : Nat := (2 * i * senseMohm + 250) / 500

/-- The highest code that a current level and a hysteresis need (R404, R406). -/
def Dev.codeNeeded (a level h : Nat) (d : Dev) : Nat := currentCode (level + h / 2) (d.get (Obj.SENSE_MOHM a))

/-! ### The chopper (R403, R406, R407) -/

/-- A phase of an axis. -/
def Axis.phase (p : Nat) (x : Axis) : Phase := if p = 0 then x.a else x.b

/-- Changes a phase. -/
def Dev.onPhase (a p : Nat) (f : Phase → Phase) (d : Dev) : Dev :=
  d.onStep a fun x => if p = 0 then { x with a := f x.a } else { x with b := f x.b }

/-- A phase whose current rounds to 0 is off; one that gains a current begins a cycle (R405, R406). -/
def Phase.follow (raw : Nat) (current : Int) (p : Phase) : Phase :=
  if current = 0 then { p with stage := 0, fast := false }
  else if p.stage = 0 then { p with stage := 1, at_ := raw, fast := false }
  else p

/-- The phases follow the commanded currents. -/
def Dev.refreshPhases (a : Nat) (d : Dev) : Dev :=
  let (ia, ib) := d.axisCurrents a
  let raw := d.clock.raw
  d.onStep a fun x => { x with a := x.a.follow raw ia, b := x.b.follow raw ib }

/-- upper and lower of a phase's cycle, in mA (R406). -/
def Dev.upper (a p : Nat) (d : Dev) : Int :=
  ((d.phaseCurrent a p).natAbs + d.get (Obj.HYSTERESIS a) / 2 : Nat) - (((d.stepAxis a).phase p).offUp : Int)
def Dev.lower (a p : Nat) (d : Dev) : Int :=
  max 0 (((d.phaseCurrent a p).natAbs : Int) - (d.get (Obj.HYSTERESIS a) / 2 : Nat) + ((d.stepAxis a).phase p).offDn)

/-- The gate outputs of a phase, the first as bit 1 (R403): 2 forward, 1 reverse, 3 slow decay, 0 off. -/
def Dev.gates (a p : Nat) (d : Dev) : Nat :=
  let ph := (d.stepAxis a).phase p
  let forward := decide (0 < d.phaseCurrent a p)
  let drive := if forward then 2 else 1
  match ph.stage with
  | 0 => 0
  | 1 => drive
  | 2 => drive
  | _ => if d.get (Obj.DECAY a) = 1 || ph.fast then 3 - drive else 3

/-- avg + (t − avg) ÷ 8 in i32 arithmetic. -/
def average (avg t : Int) : Int := avg + (t - avg).tdiv 8

/-- The drive of a cycle ends: decay begins. -/
def Dev.endDrive (a p raw : Nat) (d : Dev) : Dev :=
  let adapt := decide (d.get (Obj.ADAPT a) = 1)
  let mixed := decide (d.get (Obj.DECAY a) = 2)
  d.onPhase a p fun h =>
    { h with stage := 3, fast := mixed, at_ := raw, onAvg := if adapt then average h.onAvg ((raw : Int) - h.at_) else h.onAvg }

/-- An adaptive offset: min(H · t_d ÷ avg, 3H ÷ 8). -/
def adaptOffset (h td : Nat) (avg : Int) : Nat := min (h * td / avg.toNat) (3 * h / 8)

/-- The decay of a cycle ends: the offsets adapt and the next cycle begins. -/
def Dev.endDecay (a p raw : Nat) (d : Dev) : Dev :=
  let h := d.get (Obj.HYSTERESIS a)
  let td := d.get (Obj.COMP_DELAY a)
  let adapt := decide (d.get (Obj.ADAPT a) = 1)
  let f (x : Phase) : Phase :=
    let off := average x.offAvg ((raw : Int) - x.at_)
    if adapt then { x with offAvg := off, offUp := adaptOffset h td x.onAvg, offDn := adaptOffset h td off } else x
  (d.onPhase a p fun x => { f x with stage := 1, fast := false, at_ := raw }).refreshPhases a

/-- A fault (R407, R420): gates low, the position kept; `x` is the phase or the lag. -/
def Dev.faultEvent (a cause : Nat) (x : Int) (d : Dev) : Dev :=
  (d.put (Obj.FAULT a) cause).axisEvent 0x0A08 [(a : Int), (cause : Int), x, (d.stepAxis a).micro]

/-- The axis is in fault: everything about its motion ends. -/
def Dev.enterFault (a : Nat) (d : Dev) : Dev :=
  let d1 := (d.put (Obj.AXIS_STATE a) 6).onStep a fun x => { x with vel := 0, acc := 0, stop := 0, after := .rest, home := 0 }
  (d1.axisDone a).refreshPhases a

/-- A winding fault at once. -/
def Dev.windingFault (a cause p : Nat) (d : Dev) : Dev := (d.faultEvent a cause p).enterFault a

/-- COMPARATOR_CROSSING: above upper while driving, or below lower while decaying, after the blanking time. -/
def comparatorCrossing (a p raw : Nat) (d0 : Dev) : Dev :=
  let d := d0.at raw
  match ((d0.stepAxis a).phase p).stage with
  | 2 => (d.onPhase a p fun x => { x with opens := 0 }).endDrive a p raw
  | 4 => d.endDecay a p raw
  | _ => d0

/-- MAX_ON: the drive has not crossed upper; the 16th consecutive time is fault 1 (R407). -/
def maxOn (a p raw : Nat) (d0 : Dev) : Dev :=
  let x := (d0.stepAxis a).phase p
  if (x.stage = 1 ∨ x.stage = 2) ∧ x.at_ + 1000 * d0.get (Obj.MAX_ON a) ≤ raw then
    let d := (d0.at raw).onPhase a p fun x => { x with opens := x.opens + 1 }
    if 16 ≤ x.opens + 1 then d.windingFault a 1 p else d.endDrive a p raw
  else d0

/-- BLANK_TIME: the comparator is read at the end of the blanking time; above upper the 16th consecutive time is fault
2 (R407). -/
def blankTime (a p raw : Nat) (above : Bool) (d0 : Dev) : Dev :=
  let x := (d0.stepAxis a).phase p
  let d := d0.at raw
  if raw < x.at_ + d0.get (Obj.BLANK_TIME a) then d0
  else
    match x.stage, above with
    | 1, true =>
      let d1 := d.onPhase a p fun x => { x with opens := 0, shorts := x.shorts + 1 }
      if 16 ≤ x.shorts + 1 then d1.windingFault a 2 p else d1.endDrive a p raw
    | 1, false => d.onPhase a p fun x => { x with stage := 2, shorts := 0 }
    | 3, true => d.onPhase a p fun x => { x with stage := 4 }
    | 3, false => d.endDecay a p raw
    | _, _ => d0

/-- FAST_TIME: mixed decay becomes slow. -/
def fastTime (a p raw : Nat) (d : Dev) : Dev :=
  let x := (d.stepAxis a).phase p
  if x.fast ∧ x.at_ + d.get (Obj.FAST_TIME a) ≤ raw then (d.at raw).onPhase a p fun x => { x with fast := false } else d

/-! ### Limits (R414, R415) -/

/-- The limit on the side of a direction is latched. -/
def Axis.limitAhead (x : Axis) (dir : Int) : Bool := (decide (0 < dir) && x.plus.latched) || (decide (dir < 0) && x.neg.latched)

/-- The direction in which the axis moves, or is about to move. -/
def Dev.heading (a : Nat) (d : Dev) : Int :=
  let x := d.stepAxis a
  if x.vel ≠ 0 then signOf x.vel
  else if x.stop ≠ 0 then 0
  else
    match d.get (Obj.AXIS_STATE a) with
    | 2 => signOf (x.goal - x.pos)
    | 3 => if x.home = 2 then d.homeDir a else -(d.homeDir a)
    | _ => 0

/-- Whether a latched limit clears: its switch reads inactive, and the axis stands RELEASE away from the last accepted
inactive edge; `side` is 1 for the positive limit. -/
def Switch.clears (s : Switch) (side release pos : Int) : Bool :=
  match s.latched, s.level, s.inactiveAt with
  | true, false, some p => decide (release ≤ (p - pos) * side)
  | _, _, _ => false

/-- Latched limits that may clear do so. -/
def Dev.clearLimits (a : Nat) (d : Dev) : Dev :=
  let x := d.stepAxis a
  let rel : Int := d.get (Obj.RELEASE a)
  let d1 := if x.neg.clears (-1) rel x.micro then
      (d.onStep a fun x => { x with neg := { x.neg with latched := false } }).axisEvent 0x0A02 [(a : Int), 0, x.micro]
    else d
  if x.plus.clears 1 rel x.micro then
    (d1.onStep a fun x => { x with plus := { x.plus with latched := false } }).axisEvent 0x0A02 [(a : Int), 1, x.micro]
  else d1

/-! ### The profile (R409, R410) -/

/-- The objects of a profile, converted with rounding to nearest (R410). -/
structure Ramp where
  vmax : Int
  vstart : Int
  accel : Int
  decel : Int
  jerk : Int
  deriving DecidableEq, Repr

/-- A velocity and an acceleration in the generator's units. -/
def velocityUnits (v : Nat) : Int := nearest ((v : Int) * 2 ^ 24) 1000000 * 65536
def accelUnits (v : Nat) : Int := nearest ((v : Int) * 2 ^ 40) 1000000000000

/-- The ramp of an axis at a speed limit and a deceleration. -/
def Dev.ramp (a vmax decel : Nat) (d : Dev) : Ramp where
  vmax := velocityUnits vmax
  vstart := velocityUnits (d.get (Obj.VSTART a))
  accel := accelUnits (d.get (Obj.ACCEL a))
  decel := accelUnits decel
  jerk := nearest ((d.get (Obj.JERK a) : Int) * 2 ^ 40) 1000000000000000000

/-- Travel of one tick whose speed goes from `u` to `v`, in 2^−24 microstep. -/
def travel (u v : Int) : Int := (u + v) / 131072

/-- The stopping distance from speed `u`, in 2^−24 microstep. -/
def Ramp.stopping (r : Ramp) (u : Int) : Int :=
  max 0 ((u * u - r.vstart * r.vstart) / (2 * r.decel * 65536))
    + if r.jerk = 0 then 0 else u * r.decel / (2 * r.jerk * 65536)

/-- The acceleration of a tick: by at most JERK toward the chosen value (R409). -/
def Ramp.toward (r : Ramp) (chosen acc : Int) : Int :=
  if r.jerk = 0 then chosen else clampInt (acc - r.jerk) (acc + r.jerk) chosen

/-- The speed at which a movement may end: VSTART, or what one tick's DECEL ends, at least what travels one unit in a tick. -/
def Ramp.creep (r : Ramp) : Int := max r.vstart (max r.decel 131072)

/-- One tick of braking from speed `u`: speed and acceleration after it. -/
def Ramp.brake (r : Ramp) (u acc : Int) : Int × Int :=
  let a := r.toward (-r.decel) acc
  if u ≤ r.creep ∨ u + a ≤ 0 then (0, 0) else (u + a, a)

/-- The lowest speed of a movement that is not at its target. -/
def Ramp.first (r : Ramp) : Int :=
  min r.vmax (min r.creep (max r.vstart (max (if r.jerk = 0 then r.accel else 0) 131072)))

/-- The movement ends on this tick: what remains is no more than its travel, at a speed that may end. -/
def Ramp.arrives (r : Ramp) (rem u : Int) : Bool :=
  decide (0 ≤ u ∧ u ≤ r.creep ∧ rem ≤ travel u (max u r.first))

/-- The speed after a tick that accelerates by `up`: at most VMAX, and at least VSTART (R409). -/
def Ramp.faster (r : Ramp) (u up : Int) : Int := max (min (u + up) r.vmax) (if u < r.vstart then min r.vstart r.vmax else 0)

/-- The speed to which an acceleration leads while JERK takes it to 0, and the travel meanwhile. -/
def Ramp.eased (r : Ramp) (u acc : Int) : Int := if r.jerk = 0 ∨ acc ≤ 0 then u else u + acc * acc / (2 * r.jerk)
def Ramp.easing (r : Ramp) (u acc : Int) : Int :=
  if r.jerk = 0 ∨ acc ≤ 0 then 0 else (u * acc + acc * acc * acc / (3 * r.jerk)) / r.jerk / 65536 + 1

/-- What stopping takes at a speed and an acceleration: the distance of R409, but under JERK with what of the deceleration
has been reached, and two ticks of travel (log entry 75). -/
def Ramp.needs (r : Ramp) (u acc : Int) : Int :=
  let v := r.eased u acc
  let rest := r.decel - clampInt 0 r.decel (-acc)
  r.easing u acc + max 0 ((v * v - r.vstart * r.vstart) / (2 * r.decel * 65536))
    + if r.jerk = 0 then 0 else v * (rest * rest) / (2 * r.jerk * r.decel * 65536) + 2 * v / 65536

/-- What remains after a tick from speed `u` to `v`, then at acceleration `acc`, is enough to stop. -/
def Ramp.fits (r : Ramp) (rem u v acc : Int) : Bool := decide (travel u v + r.needs v acc ≤ rem)

/-- The speed and acceleration after a tick that accelerates, if the axis can still stop in what remains; without JERK by
the highest of the halved accelerations that allows it. -/
def Ramp.boost (r : Ramp) (rem u up : Int) : Option (Int × Int) :=
  (List.range (if r.jerk = 0 then 24 else 1)).findSome? fun k =>
    let v := r.faster u (up / 2 ^ k)
    let a := if v = r.vmax ∨ v ≤ r.vstart then 0 else v - u
    if u < v ∧ r.fits rem u v a then some (v, a) else none

/-- One tick toward a target that lies `rem` ahead, at speed `u` toward it: accelerate, hold or decelerate, so that
what remains after the tick is never less than the stopping distance (log entry 75). -/
def Ramp.tick (r : Ramp) (rem u acc : Int) : Int × Int :=
  let near := decide (r.jerk ≠ 0 ∧ 0 < acc ∧ r.vmax ≤ r.eased u acc)
  if u < 0 then
    let a := r.toward r.decel acc
    if 0 ≤ u + a then (0, 0) else (u + a, a)
  else
    match if u < r.vmax ∧ ! near then r.boost rem u (r.toward r.accel acc) else none with
    | some x => x
    | none =>
      let flat := r.toward 0 acc
      let v := clampInt 0 r.vmax (u + flat)
      if u < r.first then (r.first, 0)
      else if r.fits rem u v flat then (v, flat)
      else
        let a := r.toward (-r.decel) acc
        if u + a ≤ 0 then (0, 0) else (u + a, a)

/-- One tick after a cam command `lag` ahead (R419), within VMAX, ACCEL and DECEL. -/
def Ramp.chase (r : Ramp) (lag v : Int) : Int :=
  let want := clampInt (-r.vmax) r.vmax (lag * 65536)
  if 0 ≤ v ∧ 0 ≤ want then (if v ≤ want then min want (v + r.accel) else max want (v - r.decel))
  else if v ≤ 0 ∧ want ≤ 0 then (if want ≤ v then max want (v - r.accel) else min want (v + r.decel))
  else if 0 < v then max 0 (v - r.decel)
  else min 0 (v + r.decel)

/-! ### Moving and coming to rest -/

/-- The velocity of a tick and the position after it; I_RUN from the first tick at a velocity (R408). -/
def Axis.advance (raw : Nat) (v acc : Int) (x : Axis) : Axis :=
  { x with vel := v, acc := acc, pos := x.pos + signOf (x.vel + v) * travel x.vel.natAbs v.natAbs, run := x.run || decide (v ≠ 0),
           stillAt := if v = 0 ∧ x.vel ≠ 0 then raw else x.stillAt }

/-- The axis rests. -/
def Dev.axisRest (a : Nat) (d : Dev) : Dev :=
  ((d.put (Obj.AXIS_STATE a) 1).onStep a fun x => { x with vel := 0, acc := 0, stop := 0, after := .rest, home := 0 }).axisDone a

/-- Positions that an axis holds move with its POSITION. -/
def Axis.rebase (delta : Int) (x : Axis) : Axis :=
  let f (s : Switch) : Switch := { s with candPos := s.candPos + delta, inactiveAt := s.inactiveAt.map (· + delta) }
  { x with pos := x.pos + microsteps delta, goal := x.goal + microsteps delta, homeAt := x.homeAt.map (· + delta),
           neg := f x.neg, plus := f x.plus, homeSw := f x.homeSw }

/-- HOME_DONE (R417). -/
def Dev.homeDone (a : Nat) (d : Dev) : Dev :=
  let x := d.stepAxis a
  let v := d.geti 32 (Obj.HOME_VALUE a)
  (((d.axisEvent 0x0A04 [(a : Int), x.latch, v]).onStep a (Axis.rebase (v - x.latch))).put (Obj.REFERENCED a) 1).axisRest a

/-- The search goes on in a stage of homing; where the limit that lies ahead in HOME_DIR is latched, it turns (R417). -/
def Dev.search (a stage : Nat) (d : Dev) : Dev :=
  let x := d.stepAxis a
  let turned := if stage = 2 ∧ x.limitAhead (d.homeDir a) then 4 else stage
  let k := if turned = 4 ∧ x.homeSw.level then 5 else turned
  d.onStep a fun x => { x with home := k, homeAt := none, stop := 0, after := .rest }

/-- The axis that had to stop has stopped. -/
def Dev.afterStop (a : Nat) (d : Dev) : Dev :=
  let x := d.stepAxis a
  match x.after with
  | .rest => d.axisRest a
  | .fault => d.enterFault a
  | .move =>
    if x.limitAhead (signOf (x.goal - x.pos)) then d.axisRest a else d.onStep a fun x => { x with stop := 0, after := .rest }
  | .home 3 => d.homeDone a
  | .home k => d.search a k

/-- A stop begins. -/
def Dev.axisStop (a stop : Nat) (after : AfterStop) (d : Dev) : Dev := d.onStep a fun x => { x with stop := stop, after := after }

/-- A movement that does not go on stops at STOP_DECEL or DECEL, in STATE 5. -/
def Dev.axisHalt (a stop : Nat) (d : Dev) : Dev :=
  ((d.axisStop a stop .rest).onStep a fun x => { x with home := 0 }).put (Obj.AXIS_STATE a) 5

/-- HOME_FAILED (R417): cause 1 no home between the limits, 2 STOP. -/
def Dev.homeFailed (a cause : Nat) (d : Dev) : Dev :=
  (d.axisEvent 0x0A05 [(a : Int), (cause : Int), (d.stepAxis a).micro]).axisHalt a 2

/-- The limit of a direction latches while the axis moves toward it (R415, R417). -/
def Dev.limitHit (a side : Nat) (d : Dev) : Dev :=
  let x := d.stepAxis a
  let d1 := d.axisEvent 0x0A01 [(a : Int), (side : Int), x.micro, x.speed]
  match d.get (Obj.AXIS_STATE a) with
  | 3 =>
    if x.home = 3 ∨ x.stop ≠ 0 then d1.onStep a fun x => { x with stop := 2 }
    else if x.home = 2 then d1.axisStop a 2 (.home 4)
    else d1.homeFailed a 1
  | 5 => d1.onStep a fun x => { x with stop := 2 }
  | _ => d1.axisHalt a 2

/-! ### Cams (R418 to R420) -/

/-- The master's position (R418). -/
def Dev.master (a : Nat) (d : Dev) : Int :=
  let b := d.get (Obj.MASTER a)
  if b < 4 then (d.stepAxis b).micro else (d.chan (d.get Obj.SHOT_SOURCE)).pos

/-- Point E[k] of a cam table. -/
def Dev.camPoint (t k : Nat) (d : Dev) : Int := sfield (d.blob (Obj.CAM_TABLE t) 4096) (4 * k) 4

/-- The cam command c of R419. -/
def Dev.camCommand (a : Nat) (d : Dev) : Int :=
  let e (k : Int) : Int := d.camPoint (d.get (Obj.TABLE a)) k.toNat
  let n : Int := d.get (Obj.INTERVAL a)
  let rise := d.geti 32 (Obj.RISE a)
  let x := d.master a - d.geti 64 (Obj.MASTER_ORIGIN a)
  let k := x / n
  let f := x - k * n
  let (base, y0, y1, g) :=
    if d.get (Obj.CAM_PERIODIC a) = 1 then
      let p := k / 1024
      let j := k - 1024 * p
      (p * rise, e j, if j = 1023 then e 0 + rise else e (j + 1), f)
    else if k < 0 then (0, e 0, e 0, 0)
    else if 1023 ≤ k then (0, e 1023, e 1023, 0)
    else (0, e k, e (k + 1), f)
  clampInt (-2147483648) 2147483647 (base + y0 + nearest ((y1 - y0) * g) n + d.geti 32 (Obj.SLAVE_OFFSET a))

/-- One tick of following (R419, R420). -/
def Dev.followTick (a raw : Nat) (d : Dev) : Dev :=
  let x := d.stepAxis a
  let c := d.camCommand a
  let lag := c - x.micro
  let d1 := d.puti 32 (Obj.LAG a) lag
  if (d.get (Obj.LAG_LIMIT a) : Int) < lag.natAbs then
    ((d1.faultEvent a 3 lag).axisHalt a 2).onStep a fun x => { x with after := .fault }
  else
    let r := d.ramp a (d.get (Obj.VMAX a)) (d.get (Obj.DECEL a))
    d1.onStep a (Axis.advance raw (r.chase (microsteps c - x.pos) x.vel) 0)

/-! ### A tick -/

/-- Home has become inactive and RELEASE lies behind the axis on its way against HOME_DIR: the search turns (R417). -/
def Dev.turnSearch (a : Nat) (d : Dev) : Dev :=
  let x := d.stepAxis a
  match x.homeAt with
  | some p =>
    if (x.home = 1 ∨ x.home = 6) ∧ x.stop = 0 ∧ (d.get (Obj.RELEASE a) : Int) ≤ (p - x.micro) * d.homeDir a then
      d.axisStop a 1 (.home 2)
    else d
  | none => d

/-- A tick of an axis that stops. -/
def Dev.brakeTick (a raw : Nat) (d : Dev) : Dev :=
  let x := d.stepAxis a
  let r := d.ramp a (d.get (Obj.VMAX a)) (if x.stop = 1 then d.get (Obj.DECEL a) else d.get (Obj.STOP_DECEL a))
  let dir := signOf x.vel
  let (u, acc) := r.brake x.vel.natAbs (dir * x.acc)
  let d1 := d.onStep a (Axis.advance raw (dir * u) (dir * acc))
  if u = 0 then d1.afterStop a else d1

/-- A tick of a MOVE. -/
def Dev.moveTick (a raw : Nat) (d : Dev) : Dev :=
  let x := d.stepAxis a
  let r := d.ramp a (d.get (Obj.VMAX a)) (d.get (Obj.DECEL a))
  let left := x.goal - x.pos
  let dir := if left < 0 then -1 else 1
  if r.arrives left.natAbs (dir * x.vel) then
    (d.onStep a fun x => { x.advance raw 0 0 with pos := x.goal }).axisRest a
  else
    let (u, acc) := r.tick left.natAbs (dir * x.vel) (dir * x.acc)
    d.onStep a (Axis.advance raw (dir * u) (dir * acc))

/-- A tick of a search at HOME_SPEED (R417). -/
def Dev.searchTick (a raw : Nat) (d : Dev) : Dev :=
  let x := d.stepAxis a
  let r := d.ramp a (d.get (Obj.HOME_SPEED a)) (d.get (Obj.DECEL a))
  let dir := if x.home = 2 then d.homeDir a else -(d.homeDir a)
  let (u, acc) := r.tick (2 ^ 80) (dir * x.vel) (dir * x.acc)
  (d.onStep a (Axis.advance raw (dir * u) (dir * acc))).turnSearch a

/-- One tick of the profile generator. -/
def Dev.motionTick (a raw : Nat) (d : Dev) : Dev :=
  let st := d.get (Obj.AXIS_STATE a)
  if ¬ d.axisMoves a then d
  else if (d.stepAxis a).stop ≠ 0 then d.brakeTick a raw
  else if st = 2 then d.moveTick a raw
  else if st = 3 then d.searchTick a raw
  else if st = 4 then d.followTick a raw
  else d.axisRest a

/-- A sample of a switch (R413): how long its level has been stable, and where it first appeared. -/
def Switch.sample (pos : Int) (active : Bool) (s : Switch) : Switch :=
  if active = s.cand then { s with count := s.count + 1 } else { s with cand := active, count := 0, candPos := pos }

/-- The three switches are sampled; `negative`, `positive` and `home` are the levels of their pins (R412, R413). -/
def Dev.sampleSwitches (a : Nat) (negative positive home : Bool) (d : Dev) : Dev :=
  let pol := d.get (Obj.SWITCH_POLARITY a)
  let on (n : Nat) (level : Bool) : Bool := level == bitAt pol n
  if 7 < d.get (Obj.SWITCH_CHANNEL a) then d
  else
    d.onStep a fun x =>
      { x with neg := x.neg.sample x.micro (on 0 negative), plus := x.plus.sample x.micro (on 1 positive),
               homeSw := x.homeSw.sample x.micro (on 2 home) }

/-- PROFILE_TICK: the switches are sampled, the axis moves, latched limits may clear, the currents follow. -/
def profileTick (a raw : Nat) (negative positive home : Bool) (d : Dev) : Dev :=
  if ¬ d.running then d
  else
    ((((d.at raw).sampleSwitches a negative positive home).motionTick a raw).clearLimits a).refreshPhases a

/-- HOLD_DELAY: the commanded velocity has been 0 for the delay, and the level becomes I_HOLD (R408). -/
def holdDelay (a raw : Nat) (d : Dev) : Dev :=
  let x := d.stepAxis a
  if x.run ∧ x.vel = 0 ∧ x.stillAt + 1000000 * d.get (Obj.HOLD_DELAY a) ≤ raw ∧ d.running then
    ((d.at raw).onStep a fun x => { x with run := false }).refreshPhases a
  else d

/-! ### Accepted switch edges (R413 to R417) -/

/-- A switch by its number: 0 negative limit, 1 positive limit, 2 home. -/
def Axis.switch (n : Nat) (x : Axis) : Switch := if n = 0 then x.neg else if n = 1 then x.plus else x.homeSw

/-- Changes a switch. -/
def Dev.onSwitch (a n : Nat) (f : Switch → Switch) (d : Dev) : Dev :=
  d.onStep a fun x =>
    if n = 0 then { x with neg := f x.neg } else if n = 1 then { x with plus := f x.plus } else { x with homeSw := f x.homeSw }

/-- Accepted edges within 100 ms above CHATTER_LIMIT (R416). -/
def Dev.chatter (a n : Nat) (d : Dev) : Dev :=
  let raw := d.clock.raw
  let s := (d.stepAxis a).switch n
  let edges := (s.edges ++ [raw]).filter fun t => raw < t + 100000000
  let d1 := d.onSwitch a n fun s => { s with edges := edges }
  if d.get (Obj.CHATTER_LIMIT a) < edges.length then
    if s.chatterAt = 0 ∨ s.chatterAt + 1000000000 ≤ raw + 1 then
      ((d1.axisEvent 0x0A03 [(a : Int), (n : Int), (edges.length : Int)]).bump (Obj.CHATTERS a)).onSwitch a n fun s =>
        { s with chatterAt := raw + 1 }
    else d1.count 0x0A03
  else d1

/-- An accepted edge of a limit. -/
def Dev.limitEdge (a n : Nat) (active : Bool) (pos : Int) (d : Dev) : Dev :=
  if active then
    let seen := ((d.stepAxis a).switch n).latched
    let d1 := d.onSwitch a n fun s => { s with latched := true, inactiveAt := none }
    if d.heading a = (if n = 0 then -1 else 1) ∧ ! seen then d1.limitHit a n else d1
  else d.onSwitch a n fun s => { s with inactiveAt := some pos }

/-- An accepted edge of the home switch while homing (R417). -/
def Dev.homeEdge (a : Nat) (active : Bool) (pos : Int) (d : Dev) : Dev :=
  let x := d.stepAxis a
  if d.get (Obj.AXIS_STATE a) ≠ 3 ∨ x.stop ≠ 0 then d
  else
    match x.home, active with
    | 2, true =>
      if signOf x.vel = d.homeDir a then
        (d.onStep a fun x =>
          { x with home := 3, latch := pos, homeSw := { x.homeSw with latched := true } }).axisStop a 1 (.home 3)
      else d
    | 1, true => d.onStep a fun x => { x with homeAt := none }
    | 1, false => d.onStep a fun x => { x with homeAt := some pos }
    | 4, true => d.onStep a fun x => { x with home := 5 }
    | 6, true => d.onStep a fun x => { x with home := 5, homeAt := none }
    | 5, false => d.onStep a fun x => { x with home := 6, homeAt := some pos }
    | _, _ => d

/-- SWITCH_EDGE: a level that has been stable for SWITCH_FILTER is accepted. -/
def switchEdge (a n : Nat) (d : Dev) : Dev :=
  let s := (d.stepAxis a).switch n
  if ¬ d.running ∨ s.cand = s.level ∨ s.count < d.get (Obj.SWITCH_FILTER a) ∨ 7 < d.get (Obj.SWITCH_CHANNEL a) then d
  else
    let d1 := (d.onSwitch a n fun s => { s with level := s.cand }).chatter a n
    let d2 := if n = 2 then d1.homeEdge a s.cand s.candPos else d1.limitEdge a n s.cand s.candPos
    d2.clearLimits a

/-! ### Commands (R411, R417, R420, R421) -/

/-- Whether a command is allowed in the axis's STATE. -/
def axisAllows (code st : Nat) : Bool :=
  match code with
  | 1 => decide (st = 0 ∨ st = 6)
  | 2 => decide (st = 1 ∨ st = 6)
  | 3 => decide (st = 1 ∨ st = 2)
  | 4 => decide (2 ≤ st ∧ st ≤ 4)
  | 5 => decide (st = 1)
  | 6 => decide (st = 1)
  | 7 => decide (st = 4)
  | 8 => decide (st = 1)
  | _ => true

/-- The stage in which HOME begins. -/
def Dev.homeStart (a : Nat) (d : Dev) : Nat :=
  let x := d.stepAxis a
  if x.homeSw.level then 1 else if x.limitAhead (d.homeDir a) then 4 else 2

/-- The conditions of a command that answer CHECK (R415, R420). -/
def Dev.axisCheckFails (a code : Nat) (d : Dev) : Bool :=
  let x := d.stepAxis a
  match code with
  | 3 => x.limitAhead (signOf (microsteps (d.geti 32 (Obj.AXIS_TARGET a)) - x.pos))
  | 5 => x.limitAhead (if d.homeStart a = 2 then d.homeDir a else -(d.homeDir a))
  | 6 => decide (d.get (Obj.TABLE a) = 0xFF) || decide (d.get (Obj.ENGAGE_WINDOW a) < (d.camCommand a - x.micro).natAbs)
  | _ => false

/-- The tests of a command beside the mode's. -/
def Dev.axisTests (a v : Nat) (d : Dev) : List (Abort × Bool) :=
  [(.stateForbids, ! axisAllows v (d.get (Obj.AXIS_STATE a))), (.range, decide (v = 0 ∨ 8 < v)),
   (.check, d.axisCheckFails a v)]

/-- The axis goes to a new target (R411); `old` is the TARGET before. -/
def Dev.retarget (a : Nat) (old : Int) (d : Dev) : Dev :=
  let x := d.stepAxis a
  let target := d.geti 32 (Obj.AXIS_TARGET a)
  let left := microsteps target - x.pos
  let r := d.ramp a (d.get (Obj.VMAX a)) (d.get (Obj.DECEL a))
  let d1 := d.onStep a fun x => { x with goal := microsteps target, stop := 0, after := .rest }
  if x.vel = 0 ∨ (0 < signOf x.vel * left ∧ r.stopping x.vel.natAbs < left.natAbs) then d1
  else (d1.axisStop a 1 .move).axisEvent 0x0A06 [(a : Int), old, target, x.micro]

/-- ENABLE: standstill at I_HOLD, with the chopper's averages at their start. -/
def Dev.axisEnable (a : Nat) (d : Dev) : Dev :=
  let avg : Int := 4 * d.get (Obj.BLANK_TIME a)
  let p : Phase := { Phase.reset with onAvg := avg, offAvg := avg }
  (((d.put (Obj.AXIS_STATE a) 1).put (Obj.FAULT a) 0).onStep a fun x =>
    { x with vel := 0, acc := 0, stop := 0, after := .rest, home := 0, run := false, a := p, b := p }).refreshPhases a

/-- HOME begins (R417); REFERENCED is clear until the home edge is found. -/
def Dev.axisHome (a : Nat) (d : Dev) : Dev :=
  let k := d.homeStart a
  (((d.put (Obj.AXIS_STATE a) 3).put (Obj.REFERENCED a) 0).onStep a fun x =>
    { x with homeSw := { x.homeSw with latched := false } }).search a k

/-- SET_POSITION. -/
def Dev.axisSet (a : Nat) (d : Dev) : Dev :=
  let x := d.stepAxis a
  let target := d.geti 32 (Obj.AXIS_TARGET a)
  ((d.onStep a fun y => { y.rebase (target - x.micro) with pos := microsteps target }).put (Obj.REFERENCED a) 1).refreshPhases a

/-- What an accepted command does. -/
def Dev.axisEffect (a v : Nat) (d : Dev) : Dev :=
  match v with
  | 1 => (d.axisWord a v 0).axisEnable a
  | 2 => ((d.axisWord a v 0).put (Obj.AXIS_STATE a) 0).refreshPhases a
  | 3 => ((d.axisWord a v 2).put (Obj.AXIS_STATE a) 2).retarget a (d.geti 32 (Obj.AXIS_TARGET a))
  | 4 => if d.get (Obj.AXIS_STATE a) = 3 then (d.axisWord a v 2).homeFailed a 2 else (d.axisWord a v 2).axisHalt a 2
  | 5 => (d.axisWord a v 2).axisHome a
  | 6 => (d.axisWord a v 0).put (Obj.AXIS_STATE a) 4
  | 7 => (d.axisWord a v 2).axisHalt a 1
  | 8 => (d.axisWord a v 0).axisSet a
  | _ => d

/-- COMMAND (0x7060 + a:02). -/
def axisCommand (q : Query) (a v : Nat) (d : Dev) : Answer :=
  match d.command q 1 v (d.axisTests a v) (Dev.axisEffect a v) with
  | .refuse x d => .refuse x (d.axisWord a v 1)
  | y => y

/-- A general timer's command, exactly as a write would be (R372); no request carries it. -/
def axisAct (a v : Nat) (d : Dev) : Dev :=
  match firstAbort ((.stateForbids, d.writeForbidden (0x7060 + a) 2 v) :: d.axisTests a v) with
  | some _ => d.axisWord a v 1
  | none => d.axisEffect a v

/-- A write of TARGET (R411). -/
def targetWrite (q : Query) (a v : Nat) (d : Dev) : Answer :=
  let old := d.geti 32 (Obj.AXIS_TARGET a)
  d.configure q (Obj.AXIS_TARGET a) 4 v [] fun e => if e.get (Obj.AXIS_STATE a) = 2 then e.retarget a old else e

/-! ### Objects (R404, R412, R418, R420, R424) -/

/-- A chain of masters from `b` leads back to axis `a`. -/
def Dev.masterLoops (a : Nat) : Nat → Nat → Dev → Bool
  | 0, _, _ => true
  | n + 1, b, d => decide (b = a) || (decide (b < 4) && Dev.masterLoops a n (d.get (Obj.MASTER b)) d)

/-- Tests of writes to the objects of the axes, and of the MODE of an ENC channel that serves switches. -/
def Dev.axesTests (index sub v : Nat) (d : Dev) : List (Abort × Bool) :=
  let a := index % 16
  if 0x7010 ≤ index ∧ index ≤ 0x7013 then
    let moves := (Abort.stateForbids, d.axisMoves a && decide (sub ≠ 7 ∧ sub ≠ 8))
    let h := d.get (Obj.HYSTERESIS a)
    match sub with
    | 2 => [moves, (.range, decide (d.get (Obj.VMAX a) < v))]
    | 7 => [moves, (.range, decide (1023 < d.codeNeeded a v h))]
    | 8 => [moves, (.range, decide (d.get (Obj.I_RUN a) < v ∨ 1023 < d.codeNeeded a v h))]
    | 10 => [moves, (.resourceBusy, decide (v < 8) && ! d.free? (Obj.ENC_OWNER v) (0x0400 + a))]
    | _ => [moves]
  else if 0x7020 ≤ index ∧ index ≤ 0x7023 then
    [(.stateForbids, d.axisMoves a),
     (.range, decide (sub = 2 ∧ 1023 < d.codeNeeded a (max (d.get (Obj.I_RUN a)) (d.get (Obj.I_HOLD a))) v))]
  else if 0x7030 ≤ index ∧ index ≤ 0x7033 ∧ sub = 2 then [(.range, decide (d.get (Obj.VMAX a) < v))]
  else if 0x7040 ≤ index ∧ index ≤ 0x7043 then
    let engaged := (Abort.stateForbids, decide (d.get (Obj.AXIS_STATE a) = 4))
    match sub with
    | 1 => [engaged, (.resourceBusy, decide (v < 4) && ! d.free? (Obj.CAM_OWNER v) (0x0400 + a))]
    | 2 => [engaged, (.range, d.masterLoops a 5 v)]
    | 4 => [engaged, (.range, decide (v = 0))]
    | _ => [engaged]
  else if 0x7100 ≤ index ∧ index ≤ 0x7103 then
    [(.stateForbids, (List.range 4).any fun b => decide (d.get (Obj.AXIS_STATE b) = 4 ∧ d.get (Obj.TABLE b) = a))]
  else if 0x6012 ≤ index ∧ index ≤ 0x6019 ∧ sub = 1 then
    [(.resourceBusy, decide (v ≠ 0 ∧ d.get (Obj.ENC_OWNER (index - 0x6012)) / 256 = 4))]
  else []

/-- SWITCH_CHANNEL: the claim of an ENC channel, which then counts no position (R412). -/
def Dev.switchChannel (a v : Nat) (d : Dev) : Dev :=
  let d1 := d.each (List.range 8) fun n d => d.unclaim (Obj.ENC_OWNER n) (0x0400 + a)
  let d2 := d1.onStep a fun x => { x with neg := Switch.reset, plus := Switch.reset, homeSw := Switch.reset }
  if v < 8 then ((d2.claim (Obj.ENC_OWNER v) (0x0400 + a)).put (Obj.CHAN_MODE (2 + v)) 0).setStatus (2 + v) id else d2

/-- What writes of the axes' objects do beside storing the value. -/
def Dev.axesWritten (index sub v : Nat) (d : Dev) : Dev :=
  let a := index % 16
  if 0x7010 ≤ index ∧ index ≤ 0x7013 then
    if sub = 10 then d.switchChannel a v else if sub = 7 ∨ sub = 8 ∨ sub = 14 then d.refreshPhases a else d
  else if 0x7040 ≤ index ∧ index ≤ 0x7043 ∧ sub = 1 then
    let d1 := d.each (List.range 4) fun t d => d.unclaim (Obj.CAM_OWNER t) (0x0400 + a)
    if v < 4 then d1.claim (Obj.CAM_OWNER v) (0x0400 + a) else d1
  else d

/-- SWITCHES: latched home, positive, negative in [5:3], levels in [2:0]. -/
def Axis.switches (x : Axis) : Nat :=
  bit01 x.neg.level + 2 * bit01 x.plus.level + 4 * bit01 x.homeSw.level
    + 8 * bit01 x.neg.latched + 16 * bit01 x.plus.latched + 32 * bit01 x.homeSw.latched

/-- Objects that show an axis. -/
def Dev.axesValue (k : Nat) (d : Dev) : Option Nat :=
  if 0x705000 ≤ k ∧ k < 0x705400 then
    let a := (k - 0x705000) / 256
    let x := d.stepAxis a
    match k % 256 with
    | 2 => some (ofSigned 32 x.micro)
    | 3 => some (ofSigned 32 x.speed)
    | 4 => some (ofSigned 16 (d.phaseCurrent a 0))
    | 5 => some (ofSigned 16 (d.phaseCurrent a 1))
    | 6 => some x.switches
    | 9 => some (if d.get (Obj.AXIS_STATE a) = 4 then d.get (Obj.LAG a) else 0)
    | _ => none
  else none

/-! ### Meanings -/

/-- An axis command's meaning. -/
def axisExec (v : Nat) (r : Req) (a : Nat) (s : State) : Host.Outcome State Fault Refusal :=
  s.next (Dev.serveCommand (r.write (0x7060 + a) 2) (axisCommand (r.write (0x7060 + a) 2) a v))

def execAxisEnable (r : Req) (axis : Fin 4) (s : State) : Host.Outcome State Fault Refusal := axisExec 1 r axis.val s
def execAxisDisable (r : Req) (axis : Fin 4) (s : State) : Host.Outcome State Fault Refusal := axisExec 2 r axis.val s
def execAxisMove (r : Req) (axis : Fin 4) (s : State) : Host.Outcome State Fault Refusal := axisExec 3 r axis.val s
def execAxisStop (r : Req) (axis : Fin 4) (s : State) : Host.Outcome State Fault Refusal := axisExec 4 r axis.val s
def execAxisHome (r : Req) (axis : Fin 4) (s : State) : Host.Outcome State Fault Refusal := axisExec 5 r axis.val s
def execAxisEngage (r : Req) (axis : Fin 4) (s : State) : Host.Outcome State Fault Refusal := axisExec 6 r axis.val s
def execAxisDisengage (r : Req) (axis : Fin 4) (s : State) : Host.Outcome State Fault Refusal := axisExec 7 r axis.val s
def execAxisSetPosition (r : Req) (axis : Fin 4) (s : State) : Host.Outcome State Fault Refusal := axisExec 8 r axis.val s
def execTargetWrite (r : Req) (axis : Fin 4) (value : Word32) (s : State) : Host.Outcome State Fault Refusal :=
  let q := r.write (0x7060 + axis.val) 1
  s.next (Dev.serveCommand q (targetWrite q axis.val value.toNat))
def execProfileTick (axis : Fin 4) (raw : Nat) (negative positive home : Bool) (s : State) :
    Host.Outcome State Fault Refusal := s.next (profileTick axis.val raw negative positive home)
def execHoldDelay (axis : Fin 4) (raw : Nat) (s : State) : Host.Outcome State Fault Refusal := s.next (holdDelay axis.val raw)
def execComparatorCrossing (axis : Fin 4) (phase : Fin 2) (raw : Nat) (s : State) : Host.Outcome State Fault Refusal :=
  s.next (comparatorCrossing axis.val phase.val raw)
def execMaxOn (axis : Fin 4) (phase : Fin 2) (raw : Nat) (s : State) : Host.Outcome State Fault Refusal :=
  s.next (maxOn axis.val phase.val raw)
def execSwitchEdge (axis : Fin 4) (switch : Fin 3) (s : State) : Host.Outcome State Fault Refusal :=
  s.next (switchEdge axis.val switch.val)
def execBlankTime (axis : Fin 4) (phase : Fin 2) (raw : Nat) (above : Bool) (s : State) : Host.Outcome State Fault Refusal :=
  s.next (blankTime axis.val phase.val raw above)
def execFastTime (axis : Fin 4) (phase : Fin 2) (raw : Nat) (s : State) : Host.Outcome State Fault Refusal :=
  s.next (fastTime axis.val phase.val raw)
def execTimerExpiry (timer : Fin 16) (s : State) : Host.Outcome State Fault Refusal :=
  s.next (timerExpiry timer.val axisAct)

end Sys2Proof.Machine
end

