-- ==== Sys2Proof/Machine/Session.lean ====
section
/-!
DEFINITION. Sys2Proof/Machine/Session.lean: sessions, owner entries, mailbox flags and the network's own answers.
Opening and closing sessions (R87 to R89), the staging time limit (R74), owner entries (R112 to R115), MBn_CLEAR and
MBn_IRQ_ENABLE (R84), link state and the answers of R66.
-/
namespace Sys2Proof.Machine

/-! ### SESSION_OPEN, SESSION_CLOSE and the time limits -/

/-- The lowest session number that is free. -/
def Dev.freeSession (d : Dev) : Option Nat := ((List.range 16).map (· + 1)).find? fun n => (d.session n).isNone

/-- The state of a session that a request from `w` opens. -/
def Session.opened (w : Sender) (now : Nat) : Session where
  bound := w
  last := w
  kept := none
  running := none
  staged := none
  timedOut := false
  spoiled := false
  notified := 0
  at_ := now

/-- SESSION_OPEN (R87): the response carries the new session's number. -/
def sessionOpenCommand (q : Query) (value : Nat) (d : Dev) : Answer :=
  match firstAbort [(.access, decide (q.session ≠ 0)), (.stateForbids, d.writeForbidden q.index q.sub value),
    (.range, decide (value ≠ 1)), (.busy, d.freeSession.isNone)] with
  | some a => .refuse a d
  | none =>
    let n := d.freeSession.getD 0
    let d1 := (d.noteCommand q 4 value).put Obj.SESSION_OPEN n
    let d2 := { d1 with cop := { d1.cop with
      sessions := Map.insert n (Session.opened q.sender.bare d1.clock.raw) d1.cop.sessions } }
    .ok (le 1 n) (d2.raise 0 0x1004 [n * 8 + q.sender.port.code])

/-- SESSION_CLOSE (R89): a session closes itself. -/
def sessionCloseCommand (q : Query) (value : Nat) (d : Dev) : Answer :=
  d.command q 1 value [(.range, decide (value ≠ q.session))] fun d => d.closeSession value

/-- SESSION_IDLE_TIMEOUT (R89): no request of the session for the time of 0x1102. -/
def sessionIdle (n now : Nat) (d0 : Dev) : Dev :=
  let d := d0.at now
  match d.session n with
  | some s =>
    if d.running ∧ s.at_ + d.get Obj.SESSION_IDLE_TIMEOUT * 1000000 ≤ d.clock.raw then d.closeSession n else d
  | none => d

/-- STAGING_TIMEOUT (R74): 5 s without a chunk. -/
def stagingTimeout (n now : Nat) (d0 : Dev) : Dev :=
  let d := d0.at now
  match d.session n with
  | some s =>
    match s.staged with
    | some g =>
      if d.running ∧ g.at_ + 5000000000 ≤ d.clock.raw then
        d.onSession n fun s => { s with staged := none, timedOut := true }
      else d
    | none => d
  | none => d

/-! ### Owner entries (R112 to R115) -/

/-- Whether the feature that owns an entry is disabled, so that its claim may be released (R115). -/
def Dev.ownerIdle (k : Nat) (d : Dev) : Bool :=
  let o := d.get k
  let a := o % 256
  match o / 256 with
  | 3 => decide (d.get (Obj.SERVO_ENABLE 1) = 0)
  | 4 =>
    if Obj.TIMER_OWNER 0 ≤ k ∧ k ≤ Obj.TIMER_OWNER 15 then decide (d.get (Obj.TIMER_ENABLE (k - Obj.TIMER_OWNER 0)) = 0)
    else decide (d.get (Obj.AXIS_STATE a) = 0)
  | 7 => decide (d.mode ≠ .measure)
  | 8 => decide (d.checkJobResult (k - Obj.CONTEXT_OWNER 0) ≠ 1 ∧ d.checkJobResult (k - Obj.CONTEXT_OWNER 0) ≠ 2)
  | 9 => decide (d.get (Obj.THR_ENABLE (k - Obj.THRESHOLD_OWNER 0)) = 0)
  | _ => false

/-- The tests of a write to an owner entry (R115). -/
def Dev.ownerTests (session k v : Nat) (d : Dev) : List (Abort × Bool) :=
  let o := d.get k
  let mine := decide (o = 0x0600 + session)
  [(.resourceBusy, decide (v = 0x0600 + session ∧ o ≠ 0) && !mine),
   (.resourceBusy, decide (v = 0 ∧ o ≠ 0) && !mine && !d.ownerIdle k),
   (.range, decide (v ≠ 0 ∧ v ≠ 0x0600 + session))]

/-- A write to an owner entry; the claim of a check job ends with its context, and a deficit-map output that waits for a pool
context takes one that is released (R230). -/
def ownerWrite (q : Query) (k v : Nat) (d : Dev) : Answer :=
  let ends := decide (d.get k / 256 = 8 ∧ v = 0)
  d.configure q k 2 v (d.ownerTests q.session k v) fun x =>
    (x.when ends fun x => x.endCheckJob (k - Obj.CONTEXT_OWNER 0)).claimMap

/-- Whether an index and subindex name an owner entry. -/
def isOwnerEntry (index sub : Nat) : Bool :=
  ownerEntries.any fun (e : Nat × Nat) => decide (e.1 ≤ 256 * index + sub ∧ 256 * index + sub < e.1 + e.2)

/-! ### The mailbox's flags (R84) -/

/-- A write of a BAR2 register sets a reserved bit: it has no effect (R7; log entry 80). -/
def reservedIn (mask v : Nat) : Bool := decide (v &&& mask ≠ v)

/-- MBn_CLEAR clears bits [4:1] of MBn_STATUS; a write of MBn_IRQ_ENABLE comes before it where it carries one. -/
def mailboxClear (n value : Nat) (irqEnable : Option Word32) (d : Dev) : Dev :=
  if ¬ d.running ∨ d.feed.d3hot then d
  else
    let d1 := match irqEnable with
      | some w => d.when (! reservedIn 0x1E w.toNat) (Dev.putBar2 (mbIrqEnable n) w.toNat)
      | none => d
    d1.when (! reservedIn 0x1E value) (Dev.mbClearBits n value)

/-! ### The network ports (R64 to R66) -/

/-- NETWORK_LINK_CHANGE: a port that is disabled stays down. A port without a link hears no master (R511, R514). -/
def networkLink (port : Nat) (up : Bool) (d : Dev) : Dev :=
  if ¬ d.running then d
  else
    let on := up && decide (d.get (Obj.NET_MODE port) ≠ 2)
    (d.put (Obj.NET_LINK_STATE port) (bit01 on)).when (! on) fun d =>
      d.onClock fun c => { c with masters := c.masters.filter fun m => decide (m.port ≠ port) }

/-- A request that the port answers by itself. -/
def Dev.answers (port : Nat) (vlan : Option (BitVec 12)) (v6 : Bool) (target : List Byte) (d : Dev) : Bool :=
  d.running && decide (d.get (Obj.NET_LINK_STATE port) = 1) && d.vlanOk port vlan && d.ownAddress port v6 target

/-- ARP and neighbour discovery. -/
def addressResolution (port : Nat) (vlan : Option (BitVec 12)) (v6 : Bool) (source target : List Byte) (d : Dev) : Dev :=
  if d.answers port vlan v6 target then d.send (.resolution port v6 source target (d.macOf port)) else d

/-- Bytes of the frame of an echo request: Ethernet header, tag, IP and ICMP headers, data, and check sequence (R65; that
the check sequence counts is log entry 17's). -/
def echoFrame (tagged v6 : Bool) (n : Nat) : Nat := 14 + (if tagged then 4 else 0) + (if v6 then 40 else 20) + 8 + n + 4

/-- ICMP and ICMPv6 echo requests. -/
def echoAnswer (port : Nat) (vlan : Option (BitVec 12)) (v6 : Bool) (source target data : List Byte) (d : Dev) : Dev :=
  if d.answers port vlan v6 target && decide (echoFrame vlan.isSome v6 data.length ≤ 9216) then d.send (.echoReply port v6 source data) else d

/-- Objects of sessions that are formed on a read. -/
def Dev.sessionValue (k : Nat) (d : Dev) : Option Nat :=
  if k = Obj.SESSIONS_OPEN then some (d.cop.sessions.foldl (fun n (e : Nat × Session) => n + 2 ^ (e.1 - 1)) 0) else none

/-! ### Meanings -/

def execSessionOpen (sender : Sender) (sequence : Word32) (s : State) : Host.Outcome State Fault Refusal :=
  let q := ({ sender := sender, session := 0, sequence := sequence } : Req).write 0x1100 0
  s.next (Dev.serveCommand q (sessionOpenCommand q 1))
def execSessionClose (r : Req) (s : State) : Host.Outcome State Fault Refusal :=
  s.next (Dev.serveCommand (r.write 0x1101 0) (sessionCloseCommand (r.write 0x1101 0) r.session.toNat))
def execSessionIdleTimeout (session : Fin 17) (now : Nat) (s : State) : Host.Outcome State Fault Refusal :=
  s.next (sessionIdle session.val now)
def execStagingTimeout (session : Fin 17) (now : Nat) (s : State) : Host.Outcome State Fault Refusal :=
  s.next (stagingTimeout session.val now)
def execMbnClear (slot : Fin 4) (value : Word32) (irqEnable : Option Word32) (s : State) :
    Host.Outcome State Fault Refusal := s.next (mailboxClear slot.val value.toNat irqEnable)
def execNetworkLinkChange (port : Fin 2) (up : Bool) (s : State) : Host.Outcome State Fault Refusal :=
  s.next (networkLink port.val up)
def execAddressResolutionRequest (port : Fin 2) (vlan : Option (BitVec 12)) (v6 : Bool) (source target : List Byte)
    (s : State) : Host.Outcome State Fault Refusal := s.next (addressResolution port.val vlan v6 source target)
def execEchoRequest (port : Fin 2) (vlan : Option (BitVec 12)) (v6 : Bool) (source target data : List Byte) (s : State) :
    Host.Outcome State Fault Refusal := s.next (echoAnswer port.val vlan v6 source target data)

end Sys2Proof.Machine
end

