-- ==== Sys2Proof/Machine/Feed.lean ====
section
/-!
DEFINITION. Sys2Proof/Machine/Feed.lean: the host feed over PCI Express (05_host_feed, R158 to R192).
Channels and their registers, units in flight and their retirement, failures, pacing, address translation, resets of
the HOST island.
-/
namespace Sys2Proof.Machine

/-- The SOURCE of the feed's events. -/
def srcHost : Nat := 0x4300

/-- Changes the feed. -/
def Dev.onFeed (f : HostFeed → HostFeed) (d : Dev) : Dev := { d with feed := f d.feed }

/-- Channel `n`. -/
def Dev.dma (n : Nat) (d : Dev) : DmaChannel := Map.get DmaChannel.reset d.feed.channels n

/-- Replaces a channel. -/
def Dev.setDma (n : Nat) (c : DmaChannel) (d : Dev) : Dev :=
  d.onFeed fun f => { f with channels := Map.put DmaChannel.reset n c f.channels }

/-- Changes a channel. -/
def Dev.onDma (n : Nat) (f : DmaChannel → DmaChannel) (d : Dev) : Dev := d.setDma n (f (d.dma n))

/-! ### A channel's registers (R163 to R165) -/

/-- Fields of CHn_CTRL (R164). -/
def DmaChannel.enable (c : DmaChannel) : Bool := bitAt c.ctrl 0
def DmaChannel.pause (c : DmaChannel) : Bool := bitAt c.ctrl 1
def DmaChannel.irqHalf (c : DmaChannel) : Bool := bitAt c.ctrl 6
def DmaChannel.irqFull (c : DmaChannel) : Bool := bitAt c.ctrl 7
def DmaChannel.ats (c : DmaChannel) : Bool := bitAt c.ctrl 8
def DmaChannel.pace (c : DmaChannel) : Bool := bitAt c.ctrl 9
def DmaChannel.dir (c : DmaChannel) : Bool := bitAt c.ctrl 10
def DmaChannel.prio (c : DmaChannel) : Nat := bits c.ctrl 13 11
def DmaChannel.srcWrap (c : DmaChannel) : Nat := bits c.ctrl 18 14
def DmaChannel.dstWrap (c : DmaChannel) : Nat := bits c.ctrl 23 19

/-- The bits of CHn_CTRL and CHn_NCTRL that are not reserved. -/
def ctrlMask : Nat := 0x00FFFFC3
def nctrlMask : Nat := 0x00FFFFC1

/-- CHn_INFLIGHT. -/
def DmaChannel.inflight (c : DmaChannel) : Nat := (c.units.map DmaUnit.len).sum

/-- Stored bits of CHn_STAT. -/
def DmaChannel.err (c : DmaChannel) : Bool := bitAt c.stat 15
def DmaChannel.paceStop (c : DmaChannel) : Bool := bitAt c.stat 10

/-- BUSY, PAUSED and DRAINING (R165, R177). -/
def DmaChannel.busy (c : DmaChannel) : Bool := c.enable || decide (c.inflight ≠ 0)
def DmaChannel.paused (c : DmaChannel) : Bool := c.pause && decide (c.inflight = 0)
def DmaChannel.draining (c : DmaChannel) : Bool := (c.pause || c.failed.isSome) && decide (c.inflight ≠ 0)

/-- The channel is ready (R173). -/
def DmaChannel.ready (c : DmaChannel) : Bool :=
  c.enable && !c.pause && decide (c.len ≠ 0) && !c.err && !c.paceStop && c.wait.isNone && c.failed.isNone

/-- The translation of the channel's next unit is known, or none is needed. -/
def Dev.translated (ch : Nat) (d : Dev) : Bool :=
  let c := d.dma ch
  !c.ats || (Map.find d.feed.cache ((if c.dir then c.dst else c.src) / 4096)).isSome

/-- The channel competes for the next unit (R173; log entry 65). -/
def Dev.able (n : Nat) (d : Dev) : Bool := (d.dma n).ready && d.translated n

/-- A ready channel that loses arbitration to a channel of higher PRIO (R174). -/
def Dev.preempted (n : Nat) (d : Dev) : Bool :=
  (d.dma n).ready && (List.range 32).any fun m => d.able m && decide ((d.dma n).prio < (d.dma m).prio)

/-- CHn_STAT as it reads (R165). -/
def Dev.chanStat (n : Nat) (d : Dev) : Nat :=
  let c := d.dma n
  c.stat + 2 ^ 11 * bit01 c.wait.isSome + 2 ^ 9 * bit01 (d.preempted n) + 2 ^ 8 * bit01 c.paused
    + 2 ^ 7 * bit01 c.draining + 2 ^ 6 * bit01 c.busy

/-- HF_IRQ_PENDING (R162). -/
def Dev.irqPending (d : Dev) : Nat :=
  ((List.range 32).map fun n =>
    let c := d.dma n
    2 ^ n * bit01 (c.err || (c.irqHalf && bitAt c.stat 13) || (c.irqFull && bitAt c.stat 14))).sum

/-- The dword of BAR0 at a byte offset, as the host reads it (R162, R163). -/
def Dev.bar0 (off : Nat) (d : Dev) : Nat :=
  let lo (v : Nat) : Nat := v % 2 ^ 32
  let hi (v : Nat) : Nat := v / 2 ^ 32
  if off = 0 then 0x726200B1
  else if off = 4 then 0x20
  else if off = 8 then d.irqPending
  else if off = 0xC then d.outstanding
  else if 0x1000 ≤ off ∧ off < 0x2000 then
    let c := d.dma ((off - 0x1000) / 0x80)
    match off % 0x80 with
    | 0x00 => lo c.src
    | 0x04 => hi c.src
    | 0x08 => lo c.dst
    | 0x0C => hi c.dst
    | 0x10 => c.len
    | 0x14 => c.ctrl
    | 0x18 => d.chanStat ((off - 0x1000) / 0x80)
    | 0x1C => c.inflight
    | 0x20 => lo c.nsrc
    | 0x24 => hi c.nsrc
    | 0x28 => lo c.ndst
    | 0x2C => hi c.ndst
    | 0x30 => c.nlen
    | 0x34 => c.nctrl
    | 0x38 => lo c.fill
    | 0x3C => hi c.fill
    | 0x40 => c.low
    | 0x44 => c.high
    | 0x4C => c.doneCount
    | 0x50 => lo c.errAddr
    | 0x54 => hi c.errAddr
    | _ => 0
  else if 0x10000 ≤ off ∧ off < 0x10400 then d.msixDword ((off - 0x10000) / 4)
  else if off = 0x11000 then lo d.feed.pba
  else if off = 0x11004 then hi d.feed.pba
  else 0

/-! ### Addresses and units (R167, R168) -/

/-- The host side and the store side of the active set. -/
def DmaChannel.hostSide (c : DmaChannel) : Nat := if c.dir then c.dst else c.src
def DmaChannel.storeSide (c : DmaChannel) : Nat := if c.dir then c.src else c.dst

/-- `advance` of R167. -/
def wrapAdvance (a n k : Nat) : Nat :=
  if k = 0 then (a + n) % 2 ^ 64
  else
    let w := 2 ^ (k + 11)
    a / w * w + (a + n) % w

/-- `unit_length` of R167. -/
def unitLength (h s d len ks kd : Nat) : Nat :=
  let n := 256 - h % 256
  let n1 := if ks ≠ 0 then min n (2 ^ (ks + 11) - s % 2 ^ (ks + 11)) else n
  let n2 := if kd ≠ 0 then min n1 (2 ^ (kd + 11) - d % 2 ^ (kd + 11)) else n1
  min n2 len

/-- The length of the channel's next unit. -/
def DmaChannel.nextLength (c : DmaChannel) : Nat := unitLength c.hostSide c.src c.dst c.len c.srcWrap c.dstWrap

/-- The half point of a transfer of `h` bytes (R170). -/
def halfPoint (h : Nat) : Nat := (h + 127) / 128 * 64

/-- A transfer's length is set (R170). -/
def DmaChannel.setLength (h : Nat) (c : DmaChannel) : DmaChannel :=
  { c with len := h, total := h, half := halfPoint h, moved := 0 }

/-- The active set after a unit of `n` bytes is issued (R168). -/
def DmaChannel.issued (u : DmaUnit) (c : DmaChannel) : DmaChannel :=
  { c with
    src := wrapAdvance c.src u.len c.srcWrap, dst := wrapAdvance c.dst u.len c.dstWrap, len := c.len - u.len,
    units := c.units ++ [u] }

/-- PACE_STOP is evaluated (R175). -/
def DmaChannel.paced (c : DmaChannel) : DmaChannel :=
  let n := c.fill + c.inflight
  let stop := c.pace && (decide (256 * c.high ≤ n) || (c.paceStop && decide (256 * c.low < n)))
  { c with stat := setBit c.stat 10 stop }

/-- The identity of a unit in a tag record (R544). -/
def dmaTag (ch : Nat) (u : DmaUnit) : List Byte := le 1 ch ++ le 8 u.host ++ le 2 u.len

/-! ### Failures (R166, R180, R181) -/

/-- ERRCODE values of R165. -/
def errCplStatus : Nat := 1
def errPoison : Nat := 2
def errCplTimeout : Nat := 3
def errXlateFail : Nat := 4
def errXlateTimeout : Nat := 5
def errConfig : Nat := 6
def errStoreRange : Nat := 7
def errProtect : Nat := 8
def errStore : Nat := 9

/-- A failed channel with nothing in flight stops (R181); a page wait ends with it (log entry 92). -/
def Dev.stopChan (ch : Nat) (d : Dev) : Dev :=
  let c := d.dma ch
  match c.failed, c.units with
  | some e, [] =>
    let c1 := { c with
      src := e.src, dst := e.dst, len := e.left, errAddr := e.host, failed := none, wait := none,
      stat := setBit (c.stat % 2 ^ 28 + e.code * 2 ^ 28) 15 true, ctrl := setBit c.ctrl 0 false }
    let ps := [ch + 256 * e.code, e.host % 2 ^ 32, e.host / 2 ^ 32, e.left]
    (((d.setDma ch c1.paced).bump (Obj.CH_ERRORS ch)).raise srcHost 0x0E01 ps).vector ch
  | _, _ => d

/-- The channel fails at its active set, before a unit is issued there (R166, R183, R188). -/
def Dev.failHere (ch code : Nat) (d : Dev) : Dev :=
  let f (c : DmaChannel) : DmaChannel :=
    if c.failed.isSome then c
    else { c with failed := some { code := code, host := c.hostSide, src := c.src, dst := c.dst, left := c.len } }
  (d.onDma ch f).stopChan ch

/-- The unit at a place of a channel's list fails (R180): it and every unit after it are discarded. -/
def Dev.failUnit (ch place code : Nat) (d : Dev) : Dev :=
  let c := d.dma ch
  match c.units[place]? with
  | none => d
  | some u =>
    let before := c.units.take place
    let later := c.units.drop (place + 1)
    if u.doomed then (d.setDma ch { c with units := before ++ later }.paced).stopChan ch
    else
      let done := c.moved + (before.map DmaUnit.len).sum
      let e : DmaFailure := { code := code, host := u.host, src := u.src, dst := u.dst, left := c.total - done }
      let gone := (u :: later).map (dmaTag ch)
      let kept := (later.filter fun v => !v.back).map fun v => { v with doomed := true }
      ((d.setDma ch { c with units := before ++ kept, failed := some e }.paced).tagAbandon 2 fun i =>
        gone.any fun g => i = padTo 24 g).stopChan ch

/-! ### Starting a transfer (R166, R170, R171) -/

/-- The conditions of R166 that stop a transfer with CONFIG. -/
def Dev.configBad (c : DmaChannel) (d : Dev) : Bool :=
  decide (c.src % 64 ≠ 0 ∨ c.dst % 64 ≠ 0 ∨ c.len % 64 ≠ 0 ∨ c.len = 0 ∨ 30 ≤ c.srcWrap ∨ 30 ≤ c.dstWrap)
    || (c.ats && decide (d.get Obj.ATS_ENABLED = 0)) || (c.pace && decide (c.high ≤ c.low))

/-- The pages that a channel touches next, at most `n` (R184). -/
def pagesAhead : Nat → Nat → Nat → Nat → List Nat
  | 0, _, _, _ => []
  | n + 1, a, len, k =>
    if len = 0 then []
    else
      let m := min len (4096 - a % 4096)
      a / 4096 :: pagesAhead n (wrapAdvance a m k) (len - m) k

/-- The translations of an enabled channel's next 8 pages are requested (R184), as far as at most 2,048 requests are
outstanding (R158). -/
def Dev.requestAhead (ch : Nat) (d : Dev) : Dev :=
  let c := d.dma ch
  if c.enable && c.ats && decide (d.get Obj.ATS_ENABLED = 1) then
    d.each (pagesAhead 8 c.hostSide c.len (if c.dir then c.dstWrap else c.srcWrap)) fun p d =>
      if (Map.find d.feed.cache p).isSome || d.feed.asked.contains p || decide (2048 ≤ d.outstanding) then d
      else (d.onFeed fun f => { f with asked := f.asked ++ [p] }).send (.translationRequest p)
  else d

/-- A transfer becomes active (R166): it is checked, and its translations are requested. -/
def Dev.activate (ch : Nat) (d : Dev) : Dev :=
  let d1 := d.onDma ch fun c => { c with stat := setBit c.stat 5 false }
  if d1.configBad (d1.dma ch) then d1.failHere ch errConfig else (d1.onDma ch DmaChannel.paced).requestAhead ch

/-- The shadow set becomes the active set (R171), and its transfer starts. -/
def DmaChannel.loadShadow (c : DmaChannel) : DmaChannel :=
  let c1 := { c with
    src := c.nsrc, dst := c.ndst, ctrl := setBit (c.ctrl % 4) 0 true + (c.nctrl - c.nctrl % 64), nctrl := setBit c.nctrl 0 false,
    stat := setBit c.stat 12 true, held := false }
  c1.setLength c.nlen

/-- A shadow load (R171). -/
def Dev.loadShadow (ch : Nat) (d : Dev) : Dev := (d.onDma ch DmaChannel.loadShadow).activate ch

/-! ### Retirement (R169 to R171) -/

/-- What a command writes into the store, with the device after. -/
abbrev Written := List (Nat × List Byte) × Dev

/-- The transfer has retired whole: FULL (R171). A shadow found valid while PAUSE is 1 waits until PAUSE is cleared. -/
def Dev.full (ch : Nat) (d : Dev) : Dev :=
  let c := d.dma ch
  let c1 := { c with doneCount := (c.doneCount + 1) % 2 ^ 32, stat := setBit c.stat 14 true }
  let d1 := if bitAt c.nctrl 0 && ! c.pause then (d.setDma ch c1).loadShadow ch
    else d.setDma ch { c1 with ctrl := setBit c.ctrl 0 false, stat := setBit c1.stat 5 true, held := bitAt c.nctrl 0 }
  d1.when c.irqFull (Dev.vector ch)

/-- The retired prefix grows by a unit: FILL, FEED_BYTES, HALF and FULL. -/
def Dev.prefixGrows (ch n : Nat) (d : Dev) : Dev :=
  let c := d.dma ch
  let moved := c.moved + n
  let half := decide (c.moved < c.half ∧ c.half ≤ moved)
  let c1 := { c with
    units := c.units.drop 1, moved := moved, fill := (c.fill + n) % 2 ^ 64,
    stat := if half then setBit c.stat 13 true else c.stat }
  let d1 := ((d.setDma ch c1.paced).add 64 Obj.FEED_BYTES n).when (half && c.irqHalf) (Dev.vector ch)
  if moved = c.total then d1.full ch else d1

/-- A store page may take data: it is mapped, and its rank does not retire (R482, R483). -/
def Dev.pageTakes (p : Nat) (d : Dev) : Bool :=
  match d.dram.physical p with
  | some x => decide (d.role (x / 32768) ≠ 3)
  | none => true

/-- The attributes of a request of the function: Relaxed Ordering (Device Control [4]) and ID-Based Ordering (Device Control 2
[8]) where the host enables them (R158; PRESUMED, log entry 98: the bit places are the PCI Express standard's; unsafe). -/
def Dev.dmaAttr (translated : Bool) (d : Dev) : DmaAttr :=
  { translated := translated, relaxed := bitAt d.feed.deviceControl 4, idOrdered := bitAt d.feed.deviceControl2 8 }

/-- The first unit of a channel retires where it has come back and its pages take data (R169, R483). A page that was
unmapped meanwhile fails the unit (R183, R486). -/
def Dev.retireFirst (mem : Map Byte) (ch : Nat) (w : Written) : Written :=
  let d := w.2
  match (d.dma ch).units with
  | [] => w
  | u :: _ =>
    if u.doomed || !u.back then w
    else if u.up then
      (w.1, ((d.send (.hostWrite ch u.bus u.data (d.dmaAttr (decide (u.page ≠ 0))))).tagStamp 2 (dmaTag ch u) 3 true []).prefixGrows
        ch u.len)
    else if ! d.populated u.dst u.len then (w.1, d.failUnit ch 0 errStoreRange)
    else if (pagesOf u.dst u.len).all fun p => d.pageTakes p then
      (w.1 ++ [(u.dst, u.data)], ((d.access false u.dst u.len mem).tagStamp 2 (dmaTag ch u) 3 true []).prefixGrows ch u.len)
    else w

/-- Retires a channel's units in issue order, as far as they go. -/
def Dev.settleChan (mem : Map Byte) (ch : Nat) (w : Written) : Written :=
  let v : Written := (List.range (w.2.dma ch).units.length).foldl (fun w _ => Dev.retireFirst mem ch w) w
  (v.1, v.2.stopChan ch)

/-- The unit's request to the host has not completed (R189): a read that has not come back, or a write that is still to be
posted. -/
def DmaUnit.out (u : DmaUnit) : Bool := if u.up then !u.doomed else !u.back

/-- An invalidation completes when no unit issued under it is still out (R189). -/
def Dev.endInvalidates (d : Dev) : Dev :=
  let out (e : Nat × Nat) : Bool := d.feed.channels.any fun c => c.2.units.any fun u =>
    u.old && u.out && decide (e.1 < u.page ∧ u.page ≤ e.1 + e.2)
  let done := d.feed.invalidates.filter fun e => !out e
  (d.onFeed fun f => { f with invalidates := f.invalidates.filter out }).each done fun e d =>
    (d.send (.invalidateCompletion e.1 e.2)).bump Obj.INVALIDATIONS

/-- Every channel retires what it can, and invalidations end that waited for it. -/
def Dev.settle (mem : Map Byte) (d : Dev) : Written :=
  let w : Written := (List.range 32).foldl (fun w ch => Dev.settleChan mem ch w) ([], d)
  (w.1, w.2.endInvalidates)

/-! ### Issue (R168, R173, R183 to R185) -/

/-- The channel that gets the next unit (R173): of the highest PRIO, in rising number after the one served last. -/
def Dev.arbitrate (d : Dev) : Option Nat :=
  let able := (List.range 32).filter fun n => d.able n
  let top := able.foldl (fun p n => max p (d.dma n).prio) 0
  let last := Map.get 0 d.feed.served top
  ((List.range 32).map fun i => (last + i) % 32).find? fun n => able.contains n && decide ((d.dma n).prio = top)

/-- The unit's store range is allowed (R183): the ERRCODE where it is not. -/
def Dev.rangeFault (c : DmaChannel) (n : Nat) (d : Dev) : Option Nat :=
  let a := c.storeSide
  if ! d.populated a n then some errStoreRange
  else
    match d.ledger.job with
    | none => none
    | some j =>
      let hit (p : Nat) : Bool := decide (j.length ≠ 0)
        && overlaps (max a (p * pageBytes)) (min (a + n) ((p + 1) * pageBytes) - max a (p * pageBytes)) j.offset j.length
        && ! d.dram.refetch.contains p
      if !c.dir && (pagesOf a n).any hit then some errProtect else none

/-- A Page Request of a channel is sent (R185, R186). -/
def Dev.sendPageRequest (ch page requests since : Nat) (d : Dev) : Dev :=
  let c := d.dma ch
  let w : DmaWait := { page := page, requests := requests, since := since, last := d.clock.raw, answered := false }
  let a := page * 4096
  (((d.setDma ch { c with wait := some w }).send (.pageRequest ch page c.dir)).bump (Obj.CH_XLATE_FAULTS ch)).raise
    srcHost 0x0E02 [ch, a % 2 ^ 32, a / 2 ^ 32, if c.dir then 2 else 1]

/-- A Page Request is needed (R185, R186): the channel stops with XLATE_FAIL where PRI sends none. -/
def Dev.needPage (ch page requests since : Nat) (d : Dev) : Dev :=
  if d.feed.priHalted ∨ d.get Obj.PRI_ENABLED = 0 ∨ 4 < requests then d.failHere ch errXlateFail
  else d.sendPageRequest ch page requests since

/-- The channel issues its next unit, or stops or waits before it. -/
def Dev.issueUnit (ch : Nat) (d : Dev) : Dev :=
  let c := d.dma ch
  let n := c.nextLength
  let page := c.hostSide / 4096
  let t := if c.ats then Map.find d.feed.cache page else none
  match d.rangeFault c n, t with
  | some code, _ => d.failHere ch code
  | none, some t =>
    if (if c.dir then t.write else t.read) then go ch c n (t.target * 4096 + c.hostSide % 4096) (page + 1) d
    else d.needPage ch page 1 d.clock.raw
  | none, none => go ch c n c.hostSide 0 d
where
  go (ch : Nat) (c : DmaChannel) (n bus page : Nat) (d : Dev) : Dev :=
    let u : DmaUnit := { host := c.hostSide, src := c.src, dst := c.dst, len := n, page := page, bus := bus, up := c.dir,
                         old := false, doomed := false, back := false, data := [] }
    let d1 := (d.setDma ch (c.issued u).paced).onFeed fun f => { f with served := Map.put 0 c.prio (ch + 1) f.served }
    (d1.when (!c.dir) (Dev.send (.hostRead ch bus n (d.dmaAttr (decide (page ≠ 0)))))).tagCandidate 2 (dmaTag ch u)

/-- UNIT_ISSUE: units that waited for a migrating page retire first; then one unit is issued where a channel is ready
and a tag is free (R158, R173). -/
def unitIssue (mem : Map Byte) (d : Dev) : Written :=
  if ¬ d.running ∨ d.feed.d3hot then ([], d)
  else
    let w := d.settle mem
    let d1 := w.2.each (List.range 32) fun n d => d.requestAhead n
    match d1.arbitrate with
    | none => (w.1, d1)
    | some ch =>
      if !(d1.dma ch).dir && decide (2048 ≤ d1.outstanding) then (w.1, d1) else (w.1, d1.issueUnit ch)

/-! ### What comes back (R169, R180) -/

/-- A unit that is still out comes back. -/
def Dev.unitBack (mem : Map Byte) (ch place : Nat) (u : DmaUnit) (data : List Byte) (d : Dev) : Written :=
  let c := d.dma ch
  if u.doomed then ([], (d.setDma ch { c with units := c.units.eraseIdx place }.paced).stopChan ch)
  else
    let i := dmaTag ch u
    let d1 := ((d.setDma ch { c with units := c.units.set place { u with back := true, data := data } }).tagStamp 2 i 1
      false []).tagStamp 2 i 2 false []
    Dev.settleChan mem ch ([], d1)

/-- A unit fails, and what is before it goes on. -/
def Dev.dmaFails (ch place code : Nat) (d : Dev) : Written := ([], d.failUnit ch place code)

/-- UNIT_RETIRE: the completion of a unit (R169, R180). Under DIR 1 the store is read here; a page that awaits its
refetch stops the channel with STORE_ERROR (R483). -/
def unitRetire (ch place : Nat) (k : Completion) (mem : Map Byte) (d : Dev) : Written :=
  match d.running, (d.dma ch).units[place]? with
  | true, some u =>
    if u.back then ([], d)
    else
      let w := match k, u.up with
        | .data b, false => d.unitBack mem ch place u (padTo u.len b)
        | .posted, true =>
          if d.awaits u.src u.len && !u.doomed then d.dmaFails ch place errStore
          else (d.access false u.src u.len mem).unitBack mem ch place u (Map.gets 0 mem u.src u.len)
        | .status, false => d.dmaFails ch place errCplStatus
        | .poison, false => d.dmaFails ch place errPoison
        | .storeError a, true => (d.burstLost a mem).dmaFails ch place errStore
        | _, _ => ([], d)
      (w.1, w.2.endInvalidates)
  | _, _ => ([], d)

/-- UNIT_RETIRE over the store: retired data is written; bytes of a page that an uncorrectable burst loses are gone. -/
def retireUnit (ch place : Nat) (k : Completion) (s : State) : State :=
  let w := unitRetire ch place k s.store s.dev
  let lost := (w.2.dram.remap.drop s.dev.dram.remap.length).map Prod.fst
  { s with store := storeWrite w.1 (clearPages lost s.store), dev := w.2 }

/-- CPL_TIMEOUT (R180): no completion of a memory read within the completion timeout, where the host has not disabled it
(Device Control 2 [4]; R158, log entry 98). -/
def cplTimeout (ch place : Nat) (d : Dev) : Dev :=
  match (d.dma ch).units[place]? with
  | some u => if d.running && !u.up && !u.back && ! bitAt d.feed.deviceControl2 4 then (d.failUnit ch place errCplTimeout).endInvalidates else d
  | none => d

/-! ### Writes to the channels' registers (R163, R178, R182) -/

/-- The active set may be rewritten (R163). -/
def DmaChannel.activeOpen (c : DmaChannel) : Bool := !c.busy || c.paused

/-- A page wait is discarded, and its response is ignored when it comes (R189). -/
def Dev.dropWait (ch : Nat) (d : Dev) : Dev :=
  match (d.dma ch).wait with
  | none => d
  | some w =>
    (d.onDma ch fun c => { c with wait := none }).onFeed fun f =>
      if w.answered then f else { f with discard := f.discard ++ [ch] }

/-- A write of the active set (RW-P). -/
def Dev.writeActive (ch : Nat) (f : DmaChannel → DmaChannel) (d : Dev) : Dev :=
  if (d.dma ch).activeOpen then (d.onDma ch f).dropWait ch else d

/-- A write of CHn_CTRL (R164, R178, R182); a shadow that PAUSE held back is loaded when it clears PAUSE (R171). -/
def Dev.ctrlWrite (ch v : Nat) (d : Dev) : Dev :=
  let c := d.dma ch
  let v := v &&& ctrlMask
  match c.enable, bitAt v 0 with
  | true, false =>
    if c.paused then ((d.setDma ch { c with ctrl := v, held := false }).dropWait ch).onDma ch DmaChannel.paced else d
  | true, true =>
    (d.onDma ch fun c => { c with ctrl := v }.paced).requestAhead ch
  | false, true =>
    if c.err then d
    else
      let d1 := d.onDma ch fun c => { c with ctrl := v }
      if c.held && !bitAt v 1 then d1.loadShadow ch else (d1.onDma ch fun c => { c with held := false }).activate ch
  | false, false =>
    let d1 := d.onDma ch fun c => { c with ctrl := v }
    if c.held && !bitAt v 1 then d1.loadShadow ch else d1.onDma ch DmaChannel.paced

/-- A write of CHn_STAT: its W1C bits; ERR takes ERRCODE with it (R165). -/
def DmaChannel.statClear (v : Nat) (c : DmaChannel) : DmaChannel :=
  let s := c.stat - (c.stat &&& v &&& 0xF000)
  { c with stat := if bitAt v 15 then s % 2 ^ 28 else s }

/-- A write of CHn_RELEASE (R176). -/
def Dev.releaseFill (ch v : Nat) (d : Dev) : Dev :=
  let n := v - v % 64
  let c := d.dma ch
  let d1 := d.setDma ch { c with fill := c.fill - n }.paced
  if c.fill < n then d1.raise srcHost 0x0E07 [ch, n - c.fill] else d1

/-- The circular store window that a channel feeds, where it is paced (R175, R176): its first byte and its length. -/
def DmaChannel.window (c : DmaChannel) : Option (Nat × Nat) :=
  if c.pace ∧ ¬ c.dir ∧ 1 ≤ c.dstWrap ∧ c.dstWrap ≤ 29 then
    let w := 2 ^ (c.dstWrap + 11)
    some (c.dst / w * w, w)
  else none

/-- A stream context has read `n` bytes of the store from `a` on: it releases the 64-byte lines that it has come through from
a channel's circular window that holds them (R176; DESIGN CHOICE, log entry 97: no rule says which contexts are bound). -/
def Dev.releaseRead (a n : Nat) (d : Dev) : Dev :=
  d.each (List.range 32) fun ch d =>
    match (d.dma ch).window with
    | some (w, size) =>
      if n ≠ 0 ∧ w ≤ a ∧ a + n ≤ w + size ∧ d.running then d.releaseFill ch (64 * ((a + n) / 64 - a / 64)) else d
    | none => d

/-- UNIT_COMPLETE: the engine's unit ends (R209), and what it has read is released (R176). -/
def unitCompleteRead (cls n work : Nat) (fault : UnitFault) (mem : Map Byte) (d : Dev) : Dev :=
  let v := match d.holder cls n with
    | some q => d.readRange q mem
    | none => (0, 0)
  (unitComplete cls n work fault mem d).releaseRead v.1 v.2

/-- The low and high half of a 64-bit register replaced. -/
def putLow (r v : Nat) : Nat := r / 2 ^ 32 * 2 ^ 32 + v
def putHigh (r v : Nat) : Nat := v * 2 ^ 32 + r % 2 ^ 32

/-- A write of the shadow set (RW-N), by dword (R163, R172). -/
def Dev.shadowDword (ch dword v : Nat) (d : Dev) : Dev :=
  let c := d.dma ch
  if bitAt c.nctrl 0 then d
  else
    d.setDma ch <| match dword with
      | 0 => { c with nsrc := putLow c.nsrc v }
      | 1 => { c with nsrc := putHigh c.nsrc v }
      | 2 => { c with ndst := putLow c.ndst v }
      | 3 => { c with ndst := putHigh c.ndst v }
      | 4 => { c with nlen := v }
      | _ => { c with nctrl := v &&& nctrlMask }

/-- Vectors that are pending and no longer masked are sent (R161). -/
def Dev.flushVectors (d : Dev) : Dev :=
  d.each (List.range 64) fun n d =>
    if d.feed.msixEnable && bitAt d.feed.pba n && ! d.vectorMasked n then
      (d.onFeed fun f => { f with pba := setBit f.pba n false }).send (.interrupt n)
    else d

/-- A 4-byte write of a channel's register by its offset in the block (R163). -/
def Dev.chanWrite (ch off v : Nat) (d : Dev) : Dev :=
  match off with
  | 0x00 => d.writeActive ch fun c => { c with src := putLow c.src v }
  | 0x04 => d.writeActive ch fun c => { c with src := putHigh c.src v }
  | 0x08 => d.writeActive ch fun c => { c with dst := putLow c.dst v }
  | 0x0C => d.writeActive ch fun c => { c with dst := putHigh c.dst v }
  | 0x10 => d.writeActive ch (DmaChannel.setLength v)
  | 0x14 => d.ctrlWrite ch v
  | 0x18 => d.onDma ch (DmaChannel.statClear v)
  | 0x20 => d.shadowDword ch 0 v
  | 0x24 => d.shadowDword ch 1 v
  | 0x28 => d.shadowDword ch 2 v
  | 0x2C => d.shadowDword ch 3 v
  | 0x30 => d.shadowDword ch 4 v
  | 0x34 => d.shadowDword ch 5 v
  | 0x38 => if (d.dma ch).busy then d else d.onDma ch fun c => { c with fill := putLow c.fill v }.paced
  | 0x3C => if (d.dma ch).busy then d else d.onDma ch fun c => { c with fill := putHigh c.fill v }.paced
  | 0x40 => d.onDma ch fun c => { c with low := v }.paced
  | 0x44 => d.onDma ch fun c => { c with high := v }.paced
  | 0x48 => d.releaseFill ch v
  | _ => d

/-- BAR0 takes a write: the main die runs and the function is not in D3hot (log entry 81). -/
def Dev.hears (d : Dev) : Bool := d.running && ! d.feed.d3hot

/-- A write to CHn_CTRL, CHn_STAT, CHn_RELEASE or the shadow set. -/
def barWrite (ch off v : Nat) (d : Dev) : Dev := if d.hears then d.chanWrite ch off v else d

/-- A 4-byte write to any BAR0 register (R160, R162): misaligned ones are dropped and counted, offsets that are not
listed are ignored. -/
def Dev.bar0Write (off v : Nat) (d : Dev) : Dev :=
  if off % 4 ≠ 0 then d.bump Obj.BAR0_DROPS
  else if 0x1000 ≤ off ∧ off < 0x2000 then d.chanWrite ((off - 0x1000) / 0x80) (off % 0x80) v
  else if 0x10000 ≤ off ∧ off < 0x10400 then
    let n := (off - 0x10000) / 4
    let w := if n % 4 = 3 then v % 2 else if n % 4 = 0 then v - v % 4 else v
    (d.onFeed fun f => { f with msix := Map.put (if n % 4 = 3 then 1 else 0) n w f.msix }).flushVectors
  else d

/-- CHN_LEN_WRITE: the writes of other registers that come before it, then CHn_LEN (R163, R170). -/
def lenWrite (before : List Bar0Write) (ch v : Nat) (d : Dev) : Dev :=
  if d.hears then (d.each before fun w d => d.bar0Write w.offset w.value.toNat).chanWrite ch 0x10 v else d

/-! ### Translation (R184 to R189) -/

/-- Caches a translation; of 1,024 entries the lowest page gives way (R158; log entry 82). -/
def HostFeed.cacheIn (page : Nat) (t : Translation) (f : HostFeed) : HostFeed :=
  let room := if (Map.find f.cache page).isNone ∧ 1024 ≤ f.cache.length then f.cache.drop 1 else f.cache
  { f with cache := Map.insert page t room, asked := f.asked.filter fun p => p ≠ page }

/-- The channels that wait for a page whose translation was requested again (R186). -/
def Dev.answeredFor (page : Nat) (d : Dev) : List Nat :=
  (List.range 32).filter fun n =>
    match (d.dma n).wait with
    | some w => w.answered && decide (w.page = page)
    | none => false

/-- The translation after a Success (R186): the wait ends, or a further Page Request is sent. -/
def Dev.afterSuccess (ch : Nat) (t : Translation) (d : Dev) : Dev :=
  let c := d.dma ch
  match c.wait with
  | none => d
  | some w =>
    if (if c.dir then t.write else t.read) then
      (d.setDma ch { c with wait := none }).raise srcHost 0x0E03 [ch, (d.clock.raw - w.since) / 1000, w.requests]
    else d.needPage ch w.page (w.requests + 1) w.since

/-- TRANSLATION_COMPLETION. -/
def translationCompletion (page target : Nat) (read write : Bool) (d : Dev) : Dev :=
  if ¬ d.running ∨ ¬ d.feed.asked.contains page then d
  else
    let t : Translation := { target := target, read := read, write := write }
    let waiting := d.answeredFor page
    (d.onFeed (HostFeed.cacheIn page t)).each waiting fun n d => d.afterSuccess n t

/-- PRG_RESPONSE (R186, R187): a response that is to be discarded has no effect. -/
def prgResponse (index : Nat) (code : PrgCode) (d : Dev) : Dev :=
  if ¬ d.running then d
  else if d.feed.discard.contains index then d.onFeed fun f => { f with discard := f.discard.erase index }
  else
    match (d.dma index).wait with
    | none => d
    | some w =>
      if w.answered ∨ 32 ≤ index then d
      else
        match code with
        | .success =>
          let d1 := (d.onDma index fun c => { c with wait := some { w with answered := true } }).onFeed fun f =>
            { f with cache := Map.erase w.page f.cache, asked := f.asked.filter (fun p => p ≠ w.page) ++ [w.page] }
          d1.send (.translationRequest w.page)
        | .invalid => d.failHere index errXlateFail
        | .failure => (d.onFeed fun f => { f with priHalted := true }).failHere index errXlateFail

/-- PRI_TIMEOUT (R187). -/
def priTimeout (ch raw : Nat) (d0 : Dev) : Dev :=
  let d := d0.at raw
  match (d.dma ch).wait with
  | none => d
  | some w =>
    if ¬ d.running ∨ w.answered ∨ d.clock.raw < w.last + d.get Obj.PRI_TIMEOUT * 1000000 then d
    else ((d.onFeed fun f => { f with discard := f.discard ++ [ch] }).vector 36).failHere ch errXlateTimeout

/-- INVALIDATE_REQUEST (R189). -/
def invalidateRequest (first pages : Nat) (d : Dev) : Dev :=
  if ¬ d.running then d
  else
    let hit (p : Nat) : Bool := decide (first ≤ p ∧ p < first + pages)
    let mark (u : DmaUnit) : DmaUnit := if u.page ≠ 0 && hit (u.page - 1) then { u with old := true } else u
    (d.onFeed fun f => { f with
      cache := f.cache.filter fun e => ! hit e.1, invalidates := f.invalidates ++ [(first, pages)],
      channels := f.channels.map fun e => (e.1, { e.2 with units := e.2.units.map mark }) }).endInvalidates

/-! ### Resets, link, configuration space (R158, R190) -/

/-- The causes of 0x0E04 (R191). -/
def resetCode : HostResetCause → Nat
  | .perst => 1
  | .hot => 2
  | .dlDown => 3
  | .functionLevel => 4

/-- CHANNEL_LOST of a busy channel: its first unretired byte and the bytes that remained (R190). -/
def Dev.channelLost (ch : Nat) (d : Dev) : Dev :=
  let c := d.dma ch
  let dst := match c.units, c.failed with
    | u :: _, some e => if u.doomed then e.dst else u.dst
    | u :: _, none => u.dst
    | [], some e => e.dst
    | [], none => c.dst
  if c.busy then d.raise srcHost 0x0E05 [ch, c.total - c.moved, dst % 2 ^ 32, dst / 2 ^ 32] else d

/-- HOST_RESET (R190, R575 source 4): the HOST island alone is reset, and its mailbox sessions close. LINK_STATUS shows no link
after PERST_N and hot reset, and the link as it is after a Function Level Reset (log entry 92). -/
def hostReset (cause : HostResetCause) (d : Dev) : Dev :=
  if ¬ d.running then d
  else
    let d1 := (d.raise srcHost 0x0E04 [resetCode cause]).each (List.range 32) Dev.channelLost
    let d2 := ((d1.bump (Obj.RESET_COUNTS 3)).put Obj.LAST_SOURCE 4).put Obj.LAST_CAUSE 0
    let d3 := (d2.put Obj.RESET_LAST_TIME d2.backupNs).raiseJ srcKeeper 0x1201 noShot
      [4, 0, lo32 d2.ssnNext, hi16 d2.ssnNext] []
    let boxed := d3.cop.sessions.filterMap fun e =>
      match e.2.bound.port with
      | .mbox _ => some e.1
      | _ => none
    let d4 := d3.each boxed fun n d => d.closeSession n
    let d5 := ({ d4 with feed := HostFeed.reset, cop := { d4.cop with bar2 := [], areas := [] } }.tagAbandon 2
      fun _ => true).bump Obj.HOST_RESETS
    let d6 := ((d5.put Obj.FEED_BYTES 0).put Obj.ATS_ENABLED 0).put Obj.PRI_ENABLED 0
    match cause with
    | .functionLevel => d6
    | _ => ((d6.put Obj.HOST_SPEED 0).put Obj.HOST_WIDTH 0).put Obj.FLIT 0

/-- LINK_UP (R158, R191). -/
def linkUp (speed width : Nat) (flit : Bool) (d : Dev) : Dev :=
  if ¬ d.running ∨ speed = 0 ∨ 6 < speed ∨ ¬ [1, 4, 8, 16].contains width ∨ (speed = 6 ∧ ¬ flit) then d
  else
    (((d.put Obj.HOST_SPEED speed).put Obj.HOST_WIDTH width).put Obj.FLIT (bit01 flit)).raise srcHost 0x0E06
      [speed, width, bit01 flit]

/-- BAR0_DROP (R160). -/
def bar0Drop (isRead : Bool) (d : Dev) : Dev :=
  if ¬ d.running then d else (d.bump Obj.BAR0_DROPS).when isRead (Dev.send .unsupportedRequest)

/-- AER_UNCORRECTABLE (R158, R161, R191): the header is that of the first error that the status holds. -/
def aerUncorrectable (status header : Nat) (d : Dev) : Dev :=
  if ¬ d.running then d
  else
    ((d.onFeed fun f => { f with aerStatus := f.aerStatus ||| status,
                                 aerHeader := if f.aerStatus = 0 then header else f.aerHeader }).raise srcHost 0x0E08
      [status, header]).vector 36

/-- The words of configuration space that identify the function (R158): Device and Vendor ID, Revision ID, Subsystem IDs. -/
def configIds : Nat × Nat × Nat := (0x7262 * 65536 + Config.vendorId % 65536, 0xB1, Config.subsystemIds % 2 ^ 32)

/-- CONFIGURATION_SPACE_WRITE (R158, R186). -/
def configSpaceWrite (w : ConfigWrite) (d : Dev) : Dev :=
  if ¬ d.running then d
  else
    match w with
    | .ats on => (d.put Obj.ATS_ENABLED (bit01 on)).when (!on) (Dev.onFeed fun f => { f with cache := [], asked := [] })
    | .pri on =>
      (d.put Obj.PRI_ENABLED (bit01 on)).when (on && decide (d.get Obj.PRI_ENABLED = 0)) (Dev.onFeed fun f =>
        { f with priHalted := false })
    | .deviceControl v => d.onFeed fun f => { f with deviceControl := v.toNat }
    | .deviceControl2 v => d.onFeed fun f => { f with deviceControl2 := v.toNat }
    | .aerClear v => d.onFeed fun f => { f with aerStatus := f.aerStatus - (f.aerStatus &&& v.toNat) }
    | .power d3 => d.onFeed fun f => { f with d3hot := d3 }
    | .msixControl en mask => (d.onFeed fun f => { f with msixEnable := en, msixMask := mask }).flushVectors

/-! ### Meanings -/

/-- A command that may write the store: what it writes, and the device after. -/
def State.nextWritten (s : State) (f : Map Byte → Dev → Written) : Host.Outcome State Fault Refusal :=
  s.nextStore f

/-- PAGE_MIGRATION lets held units retire (R483). -/
def migrateAndSettle (s : State) : State :=
  let s1 := migrate s
  let w := s1.dev.settle s1.store
  { s1 with store := storeWrite w.1 s1.store, dev := w.2 }

def execUnitComplete (cls : EngineClass) (engine work : Nat) (fault : UnitFault) (s : State) :
    Host.Outcome State Fault Refusal := s.nextMem (unitCompleteRead (classNum cls) engine work fault)
def execPageMigration (s : State) : Host.Outcome State Fault Refusal := .next (migrateAndSettle s)
def execChannelEnable (channel : Fin 32) (value : Word32) (s : State) : Host.Outcome State Fault Refusal :=
  s.next (barWrite channel.val 0x14 (setBit value.toNat 0 true))
def execChannelPause (channel : Fin 32) (value : Word32) (s : State) : Host.Outcome State Fault Refusal :=
  s.next (barWrite channel.val 0x14 (setBit value.toNat 1 true))
def execChannelUnpause (channel : Fin 32) (value : Word32) (s : State) : Host.Outcome State Fault Refusal :=
  s.next (barWrite channel.val 0x14 (setBit value.toNat 1 false))
def execChannelDisable (channel : Fin 32) (value : Word32) (s : State) : Host.Outcome State Fault Refusal :=
  s.next (barWrite channel.val 0x14 (setBit value.toNat 0 false))
def execChnStatClear (channel : Fin 32) (value : Word32) (s : State) : Host.Outcome State Fault Refusal :=
  s.next (barWrite channel.val 0x18 value.toNat)
def execChnRelease (channel : Fin 32) (value : Word32) (s : State) : Host.Outcome State Fault Refusal :=
  s.next (barWrite channel.val 0x48 value.toNat)
def execChnLenWrite (before : List Bar0Write) (channel : Fin 32) (value : Word32) (s : State) :
    Host.Outcome State Fault Refusal := s.next (lenWrite before channel.val value.toNat)
def execShadowWrite (channel : Fin 32) (dword : Fin 6) (value : Word32) (s : State) :
    Host.Outcome State Fault Refusal := s.next (barWrite channel.val (0x20 + 4 * dword.val) value.toNat)
def execUnitIssue (s : State) : Host.Outcome State Fault Refusal := s.nextWritten unitIssue
def execUnitRetire (channel : Fin 32) (place : Nat) (c : Completion) (s : State) : Host.Outcome State Fault Refusal :=
  .next (retireUnit channel.val place c s)
def execCplTimeout (channel : Fin 32) (place : Nat) (s : State) : Host.Outcome State Fault Refusal :=
  s.next (cplTimeout channel.val place)
def execTranslationCompletion (page target : Nat) (read write : Bool) (s : State) : Host.Outcome State Fault Refusal :=
  s.next (translationCompletion page target read write)
def execPrgResponse (index : Nat) (code : PrgCode) (s : State) : Host.Outcome State Fault Refusal :=
  s.next (prgResponse index code)
def execPriTimeout (channel : Fin 32) (raw : Nat) (s : State) : Host.Outcome State Fault Refusal :=
  s.next (priTimeout channel.val raw)
def execInvalidateRequest (first pages : Nat) (s : State) : Host.Outcome State Fault Refusal :=
  s.next (invalidateRequest first pages)
def execHostReset (cause : HostResetCause) (s : State) : Host.Outcome State Fault Refusal := s.next (hostReset cause)
def execLinkUp (speed width : Nat) (flit : Bool) (s : State) : Host.Outcome State Fault Refusal :=
  s.next (linkUp speed width flit)
def execBar0Drop (isRead : Bool) (s : State) : Host.Outcome State Fault Refusal := s.next (bar0Drop isRead)
def execAerUncorrectable (status header : Word32) (s : State) : Host.Outcome State Fault Refusal :=
  s.next (aerUncorrectable status.toNat header.toNat)
def execConfigurationSpaceWrite (w : ConfigWrite) (s : State) : Host.Outcome State Fault Refusal :=
  s.next (configSpaceWrite w)

end Sys2Proof.Machine
end

