-- ==== Sys2Proof/Machine/Dictionary.lean ====
section
/-!
DEFINITION. Sys2Proof/Machine/Dictionary.lean: READ, WRITE, the block transfers, SUBSCRIBE and NOTIFY, and the mailbox.
One request of any kind is carried out by `Dev.request`: the drops of R69, the tests in the order of R62, the value
of the object or the write. A write to an object with a command row of its own is carried out as that row.
-/
namespace Sys2Proof.Machine

/-! ### The order of the tests (R62) -/

/-- The aborts in the order of their tests. -/
def Abort.all : List Abort :=
  [.noObject, .noSubindex, .access, .type, .length, .stateForbids, .resourceBusy, .range, .check, .busy, .timeout]

/-- Tests in the order of R62. -/
def sortTests (l : List (Abort × Bool)) : List (Abort × Bool) :=
  Abort.all.flatMap fun a => l.filter fun t => decide (t.1 = a)

/-- The place of an abort in the order. -/
def Abort.place (a : Abort) : Nat := Abort.all.idxOf a

/-! ### Reading (R70, R71, R76) -/

/-- The objects of CMD access whose read value the tables describe. -/
def describedCommands : List Nat :=
  [Obj.SESSION_OPEN, Obj.MODE_COMMAND, Obj.ENGINE_COMMAND, Obj.LANE_COMMAND, Obj.STORE_COMMAND, Obj.CAL_COMMAND,
   Obj.DIAG_COMMAND] ++ (List.range 4).map fun a => Obj.AXIS_COMMAND a

/-- A numeric object that is formed on a read. -/
def Dev.formed (k : Nat) (d : Dev) : Option Nat :=
  [Dev.modeValue, Dev.sessionValue, Dev.jobValue, Dev.expansionValue, Dev.pressValue, Dev.conveyorValue, Dev.linkValue,
   Dev.stageValue, Dev.servoValue, Dev.axesValue, Dev.ledgerValue, Dev.storeValue, Dev.timeValue, Dev.recorderValue,
   Dev.serviceValue, Dev.powerValue].findSome? fun f => f k d

/-- The value of a numeric object as it reads. -/
def Dev.reading (k : Nat) (d : Dev) : Nat := (d.formed k).getD (d.get k)

/-- A byte object of `n` bytes that is held elsewhere than among the byte objects. -/
def Dev.formedBytes (k : Nat) (d : Dev) : Option (List Byte) :=
  if k = Obj.BEAM_GAIN_TABLE then some (gainBytes d.gains)
  else
    [Dev.jobBytes, Dev.conveyorBytes, Dev.servoBytes, Dev.ledgerBytes, Dev.timeBytes, Dev.recorderBytes,
     Dev.serviceBytes].findSome? fun f => f k d

/-- The value of an object as bytes. -/
def Dev.readBytes (r : ObjRow) (k : Nat) (d : Dev) : List Byte :=
  if r.ty.isBytes then (d.formedBytes k).getD (d.blob k r.ty.bytes) else le r.ty.bytes (d.reading k)

/-- `n` bytes of a large object from `off` on (R72). -/
def Dev.readBlock (r : ObjRow) (k off n : Nat) (d : Dev) : List Byte :=
  if k = Obj.STORE_TRANSLATION then d.translationBytes off n else slice (d.readBytes r k) off n

/-- What a READ does beside answering: ILK_STATE [7:4] hold what was unsafe since the last read (0x5852), and an input that
is unsafe still counts from there on. -/
def Dev.afterRead (k : Nat) (d : Dev) : Dev :=
  if k = Obj.ILK_STATE then d.put k (d.get k % 16 * 17) else d

/-- A READ of a command object whose read value no table describes answers a free value (log entry 1). -/
def Dev.readAnswer (r : ObjRow) (k : Nat) (d : Dev) : Answer :=
  if decide (r.acc = .cmd) && ! describedCommands.contains k then
    let f := d.takeFree
    .ok (le r.ty.bytes f.1) f.2
  else .ok (d.readBytes r k) (d.afterRead k)

/-! ### Writing (R11 to R13, R62, R90) -/

/-- The rules of the chapters on a write of an object's value. -/
def Dev.objectTests (session index sub v : Nat) (d : Dev) : List (Abort × Bool) :=
  d.contextTests session index sub v ++ d.jobTests index sub v ++ d.pressTests index sub v ++ d.linkTests index sub v
    ++ d.stageTests index sub v ++ d.servoTests index sub v ++ d.axesTests index sub v ++ d.storeTests index sub v
    ++ d.timeTests index sub v ++ d.recorderTests index sub v ++ d.powerTests index sub v
    ++ [(.range, decide (index = 0x3002 ∧ v = 1 ∧ 0x43FF < d.get Obj.GAIN_MAX_LIVE))]

/-- What the chapters do with a value that has been written. -/
def Dev.objectWritten (session index sub v : Nat) (d : Dev) : Dev :=
  (((((((((d.contextWritten session index sub).recorderWritten index sub v).timeWritten index sub v).stageWritten index sub
    v).servoWritten index sub v).axesWritten index sub v).storeWritten index sub).modeWritten index sub v).calWritten index
    sub)

/-- An RW-L write of the object `k` is in effect at once while no stripe is in progress (R13); other objects' writes that
wait for their stripe boundary still wait (R12, R45). -/
def Dev.takeEffect (r : ObjRow) (k : Nat) (d : Dev) : Dev :=
  if ! decide (r.acc = .rwL) || ! d.stripes.isEmpty then d
  else if r.ty.isBytes then { d with effBlobs := Map.put [] k (Map.get [] d.blobs k) d.effBlobs }
  else { d with eff := Map.put (dfltOf k) k (d.get k) d.eff }

/-- An RW-S object is writable in SETUP and SERVICE only (R11). -/
def Dev.settingForbidden (r : ObjRow) (d : Dev) : Bool :=
  decide (r.acc = .rwS) && ! decide (d.mode = .setup ∨ d.mode = .service)

/-- An RW-L write that the set store cannot take (R443). -/
def Dev.setFull (r : ObjRow) (after : Dev) : Bool := decide (r.acc = .rwL) && after.setRefused

/-- A write of a numeric object without a row of its own. -/
def numberWrite (q : Query) (r : ObjRow) (v : Nat) (d : Dev) : Answer :=
  let k := key q.index q.sub
  let tests := [(.stateForbids, d.settingForbidden r), (.range, ! r.rng.ok r.ty v), (.busy, Dev.setFull r (d.put k v))]
    ++ d.objectTests q.session q.index q.sub v
  d.configure q k r.ty.bytes v (sortTests ((.stateForbids, d.writeForbidden q.index q.sub v) :: tests)) fun d =>
    (d.objectWritten q.session q.index q.sub v).takeEffect r k

/-- The gain table in bytes is refused with RANGE (R49, R53). -/
def Dev.gainsBad (g : Map Nat) (d : Dev) : Bool :=
  let after := { d with gains := g }.effectiveGains
  (g.any fun e => decide (e.2 < 0x2000 ∨ 0x5FFF < e.2))
    || (decide (d.get Obj.DOSE_TOLERANCE = 1) && after.any fun e => decide (0x43FF < e.2))

/-- The gains in the bytes of 0x3010, from beam `k` on. -/
def gainsFrom : Nat → List Byte → Map Nat
  | k, x :: y :: b =>
    let v := x.toNat + 256 * y.toNat
    if v = 0 then gainsFrom (k + 1) b else (k, v) :: gainsFrom (k + 1) b
  | _, _ => []

/-- The gains in the bytes of 0x3010. -/
def gainsIn (b : List Byte) : Map Nat := gainsFrom 0 b

/-- Stores the bytes of an object. -/
def Dev.storeBytes (k : Nat) (b : List Byte) (d : Dev) : Dev :=
  if k = Obj.BEAM_GAIN_TABLE then { d with gains := gainsIn b }.refreshGains
  else if Obj.RC_MEMORY 0 ≤ k ∧ k ≤ Obj.RC_MEMORY 3 then d.putRc ((k - Obj.RC_MEMORY 0) / 256) b
  else d.putBlob k b

/-- The values of a byte object that are refused with RANGE. -/
def Dev.bytesBad (k : Nat) (b : List Byte) (d : Dev) : Bool :=
  servoBytesBad k b || (decide (k = Obj.RAMP_TABLE) && rampBad b)
    || (decide (k = Obj.BEAM_GAIN_TABLE) && d.gainsBad (gainsIn b))

/-- A write of a byte object without a row of its own. -/
def bytesWrite (q : Query) (r : ObjRow) (b : List Byte) (d : Dev) : Answer :=
  let k := key q.index q.sub
  let after := d.storeBytes k b
  let full := Dev.setFull r after || (decide (k = Obj.BEAM_GAIN_TABLE) && after.setRefused)
  let tests := [(.stateForbids, d.writeForbidden q.index q.sub 0 || d.settingForbidden r), (.range, d.bytesBad k b),
    (.busy, full)] ++ d.objectTests q.session q.index q.sub 0
  match firstAbort (sortTests tests) with
  | some a => .refuse a d
  | none =>
    .ok [] ((((d.noteWrite q (d.readBytes r k) b).storeBytes k b).objectWritten q.session q.index q.sub 0).takeEffect r k)

/-- A physical outcome that the request does not carry is free (log entry 1). -/
def freely (f : Bool → Dev → Answer) (d : Dev) : Answer :=
  let n := d.takeFree
  f (decide (n.1 % 2 = 1)) n.2

/-- A CHECKER_TEST whose findings the request does not carry (log entry 1). -/
def freeCheckerTest (q : Query) (v : Nat) (d : Dev) : Answer :=
  let n := d.takeFree
  checkerTest q v (Config.freeSubarrays n.1) (Config.freeArrays n.1) n.2

/-- A write of a waveform bank whose transfers the request does not carry (log entry 1). -/
def freeBankWrite (q : Query) (bank : Nat) (b : List Byte) (d : Dev) : Answer :=
  let n := d.takeFree
  let back := if n.1 / 25 % 2 = 0 then b else Config.freeBytes n.1
  waveBankWrite q bank b { write := { nacks := n.1 % 5, stretch := 0, bytes := [] },
                           read := { nacks := n.1 / 5 % 5, stretch := 0, bytes := back } } n.2

/-- A write to an object that has command rows of its own, as those rows carry it out; none for other objects. -/
def Dev.rowWrite (q : Query) (v : Nat) (b : List Byte) (mem : Map Byte) (d : Dev) : Option Answer :=
  let n (base : Nat) : Nat := q.index - base
  let within (base count sub : Nat) : Bool := decide (base ≤ q.index ∧ q.index < base + count ∧ q.sub = sub)
  if isOwnerEntry q.index q.sub then some (ownerWrite q (key q.index q.sub) v d)
  else if within 0x1100 1 0 then some (sessionOpenCommand q v d)
  else if within 0x1101 1 0 then some (sessionCloseCommand q v d)
  else if within 0x2001 1 0 then some (modeCommand q v mem d)
  else if within 0x2014 1 0 then some (jobAcceptCommand q v mem d)
  else if within 0x2016 1 0 then some (jobCloseCommand q v d)
  else if within 0x4200 32 4 then some (checkJobCommand q (n 0x4200) v d)
  else if within 0x5013 1 0 then some (freely (engineCommand q v) d)
  else if within 0x5034 1 0 then some (subarrayCommand q v d)
  else if within 0x5812 1 0 then some (laneCommand q v d)
  else if within 0x581A 1 0 then some (returnCommand q v d)
  else if within 0x5830 2 0 then some (freeBankWrite q (n 0x5830) b d)
  else if within 0x5841 1 0 then some (moduleCommand q v d)
  else if within 0x5880 1 5 then some (eyeScanCommand q v d)
  else if within 0x5900 144 1 then some (patternMode q (n 0x5900) v d)
  else if within 0x5900 144 3 then some (patternInject q (n 0x5900) v d)
  else if within 0x6010 10 8 then some (refCommand q (n 0x6010) v d)
  else if key q.index q.sub = Obj.CHANNEL then some (crossChannelWrite q v d)
  else if within 0x6030 1 7 then some (crossCommand q v d)
  else if within 0x6040 4 7 then some (probeNext q (n 0x6040) v d)
  else if within 0x6050 4 2 then some (compareWrite q (n 0x6050) false v d)
  else if within 0x6050 4 5 then some (compareWrite q (n 0x6050) true v d)
  else if within 0x6060 16 5 then some (timerEnable q (n 0x6060) v d)
  else if within 0x6840 2 6 then some (rcCommand q (n 0x6840) v d)
  else if within 0x7060 4 1 then some (targetWrite q (n 0x7060) v d)
  else if within 0x7060 4 2 then some (axisCommand q (n 0x7060) v d)
  else if within 0x7803 1 0 then some (decisionCommand q v d)
  else if within 0x7830 1 6 then some (recoveryCommand q mem v d)
  else if within 0x7840 1 5 then some (dmapCommand q v d)
  else if within 0x8003 1 0 then some (storeCommand q v mem d)
  else if within 0x8040 1 5 then some (doneCommand q v d)
  else if within 0x8830 1 0 then some (freeCheckerTest q v d)
  else if within 0x9003 1 0 then some (clockCommand q v d)
  else if within 0x9032 1 0 then some (captureNextCommand q v d)
  else if within 0x9040 64 7 then some (launchCommand q (n 0x9040) v d)
  else if within 0xA002 1 0 then some (recorderCommand q v d)
  else if within 0xA810 64 4 then some (thresholdEnable q (n 0xA810) v d)
  else if within 0xA862 1 0 then some (tagRelease q v d)
  else if within 0xB002 1 0 then some (calCommand q v d)
  else if decide (q.index = 0xB020 ∧ 1 ≤ q.sub) then some (fwImagePart q (q.sub - 1) b d)
  else if within 0xB022 1 0 then some (fwCommand q v d)
  else if within 0xB803 1 0 then some (resetCommand q v d)
  else if within 0xF000 1 0 then some (diagCommand q v d)
  else none

/-- A write of a whole value to any object. -/
def Dev.writeAnswer (q : Query) (r : ObjRow) (b : List Byte) (mem : Map Byte) (d : Dev) : Answer :=
  match d.rowWrite q (ofLe (b.take 8)) b mem with
  | some a => a
  | none => if r.ty.isBytes then bytesWrite q r (padTo r.ty.bytes b) d else numberWrite q r (ofLe (b.take 8)) d

/-- How a write's answer completes: RESTORE of a lane and the identity READ answer at their completion, RELEASE and
RESET_COMMAND reset the main die after their response. -/
def Dev.completes (q : Query) (v : Nat) (a : Answer) : Dev :=
  let reset (act : Bool → Dev → Dev) : Dev := Dev.answeredThen q (fun d =>
    let n := d.takeFree
    act (decide (n.1 % 2 = 1)) n.2) a
  if q.op = opWrite ∧ ((q.index = 0x5812 ∧ v / 2 ^ 24 = 2) ∨ q.index = 0x5841) then Dev.answeredLater q a
  else if q.op = opWrite ∧ q.index = 0x2001 ∧ v = 0x0F then reset fun c d => d.mainReset 7 4 c
  else if q.op = opWrite ∧ q.index = 0xB803 then reset fun c d => d.commandReset v c
  else Dev.answered q a

/-! ### The tests before an object's own (R62, R68, R71, R72) -/

/-- A field of the header sets a reserved bit, or carries a value where it must be 0 (R7, R68; log entry 83). -/
def headerBad (m : Msg) : Bool :=
  let op := m.op.toNat
  let more := decide (op = opWriteBlock)
  decide (m.reserved ≠ 0 ∨ m.abort ≠ 0 ∨ (m.flags.toNat &&& (if more then 0xFD else 0xFF)) ≠ 0)
    || (decide (m.offset ≠ 0) && ! decide (op = opReadBlock ∨ op = opWriteBlock))

/-- The payload's length agrees with LENGTH; a READ_BLOCK names the bytes to read there and may carry none (log entry
83). -/
def lengthOk (m : Msg) : Bool :=
  decide (m.length.toNat ≤ 8192)
    && (decide (m.payload.length = m.length.toNat) || decide (m.op.toNat = opReadBlock ∧ m.payload = []))

/-- NO_OBJECT to TYPE for a request of operation `q.op`. SOURCE of axis 0 (0x6810:02) is read-only, unlike that of axis 1. -/
def Dev.headTests (q : Query) (row : Option ObjRow) (d : Dev) : List (Abort × Bool) :=
  let acc := (row.map ObjRow.acc).getD .rw
  let ty := (row.map ObjRow.ty).getD (.u 1)
  let writes := decide (q.op = opWrite ∨ q.op = opWriteBlock)
  let large := ty.isBytes && decide (8192 < ty.bytes)
  [(.noObject, ! hasObject q.index), (.noSubindex, row.isNone),
   (.access, writes && decide (acc = .ro ∨ (q.index = 0x6810 ∧ q.sub = 2))),
   (.access, ! writes && decide (acc = .wo)), (.access, ! writes && d.readDenied q), (.access, q.foreignCursor),
   (.access, d.sessionFails q),
   (.type, decide (q.op = opReadBlock ∨ q.op = opWriteBlock) && ! large)]

/-- The header's reserved bits, in their place in the order. -/
def headerChecked (bad : Bool) (d : Dev) : Answer → Answer
  | .refuse a e => if bad && decide (Abort.range.place < a.place) then .refuse .range d else .refuse a e
  | .ok p e => if bad then .refuse .range d else .ok p e

/-! ### READ, WRITE, READ_BLOCK -/

/-- Whether the payload of a WRITE fits the object (R71): a STRING may be shorter. -/
def fitsWrite (r : ObjRow) (n : Nat) : Bool :=
  match r.ty with
  | .str w => decide (n ≤ w)
  | t => decide (n = t.bytes ∧ n ≤ 8192)

/-- The row of a query's object, or a row of nothing. -/
def rowOf (q : Query) : ObjRow := (findRow q.index q.sub).getD ⟨0, 0, 0, 0, .u 1, .ro, 0, [], .any⟩

/-- READ. -/
def serveRead (q : Query) (m : Msg) (d : Dev) : Dev :=
  let r := rowOf q
  let pre := d.headTests q (findRow q.index q.sub)
    ++ [(.length, ! lengthOk m || decide (m.length ≠ 0 ∨ 8192 < r.ty.bytes))]
  d.serve q pre fun d => headerChecked (headerBad m) d (d.readAnswer r (key q.index q.sub))

/-- READ_BLOCK (R72). -/
def serveReadBlock (q : Query) (m : Msg) (d : Dev) : Dev :=
  let r := rowOf q
  let pre := d.headTests q (findRow q.index q.sub)
    ++ [(.length, ! lengthOk m || decide (r.ty.bytes < q.offset + m.length.toNat))]
  d.serve q pre fun d =>
    headerChecked (headerBad m) d (.ok (d.readBlock r (key q.index q.sub) q.offset m.length.toNat) d)

/-- WRITE. -/
def serveWrite (q : Query) (m : Msg) (mem : Map Byte) (d : Dev) : Dev :=
  let r := rowOf q
  let pre := d.headTests q (findRow q.index q.sub) ++ [(.length, ! lengthOk m || ! fitsWrite r m.payload.length)]
  d.serveWith (Dev.completes q (ofLe (m.payload.take 8))) q pre fun d =>
    headerChecked (headerBad m) d (d.writeAnswer q r m.payload mem)

/-! ### WRITE_BLOCK (R73 to R75) -/

/-- The session's transfer, where it stands for the query's object. -/
def Session.transfer (q : Query) (s : Session) : Option Staging :=
  s.staged.bind fun g => if g.index = q.index ∧ g.sub = q.sub then some g else none

/-- Staging buffers in use by other sessions. -/
def Dev.buffersUsed (q : Query) (d : Dev) : Nat :=
  (d.cop.sessions.filter fun e => e.1 ≠ q.session ∧ e.2.staged.isSome).length

/-- The session's transfer is discarded. -/
def Dev.unstage (q : Query) (d : Dev) : Dev := d.onOwn q fun s => { s with staged := none, timedOut := false, spoiled := false }

/-- The mode, or the state of its slot for a firmware part, forbids a write of a block (R11, R100, R102, R560). -/
def Dev.blockForbidden (q : Query) (d : Dev) : Bool :=
  d.writeForbidden q.index q.sub 0 || d.settingForbidden (rowOf q) || (decide (q.index = 0xB020) && d.fwPending)

/-- One chunk: staged, or with the last one the whole value is tested and written (R73). -/
def Dev.chunk (q : Query) (m : Msg) (mem : Map Byte) (d : Dev) : Answer :=
  let r := rowOf q
  let more := bitAt m.flags.toNat 1
  let e := q.offset + m.payload.length
  match d.sessionOf q with
  | none => .refuse .access d
  | some s =>
    let g := (s.transfer q).map Staging.bytes
    let before := if q.offset = 0 then [] else g.getD []
    let all := before ++ m.payload
    let out := decide (q.offset ≠ 0 ∧ (g.map List.length) ≠ some q.offset)
    let full := decide (q.offset = 0 ∧ s.staged.isNone ∧ 4 ≤ d.buffersUsed q)
    if d.blockForbidden q then .refuse .stateForbids d
    else if headerBad m then .refuse .range d
    else if s.timedOut then .refuse .timeout d
    else if s.spoiled then .refuse .check d
    else if out then .refuse .range d
    else if full then .refuse .busy d
    else if more then
      .ok [] (d.onOwn q fun s =>
        { s with staged := some { index := q.index, sub := q.sub, bytes := all, at_ := d.clock.raw } })
    else if e ≠ r.ty.bytes then .refuse .length d
    else d.writeAnswer q r all mem

/-- WRITE_BLOCK: a refused chunk ends the session's transfer, and so does the last one (R63, R74). -/
def serveWriteBlock (q : Query) (m : Msg) (mem : Map Byte) (d : Dev) : Dev :=
  let r := rowOf q
  let more := bitAt m.flags.toNat 1
  let e := q.offset + m.payload.length
  let tests (d : Dev) := d.headTests q (findRow q.index q.sub)
    ++ [(.length, ! lengthOk m || decide (r.ty.bytes < e ∨ (! more ∧ e ≠ r.ty.bytes)))]
  let done : Answer → Dev
    | .ok p d => (if more then d else d.unstage q).finish q (q.response 0 p)
    | .refuse a d => (d.unstage q).refuse q a
  let after := d.serveWith done q [] fun d =>
    match firstAbort (tests d) with
    | some a => .refuse a d
    | none => d.chunk q m mem
  if d.reaches q.sender ∧ d.turn q = .busy then after.unstage q else after

/-! ### SUBSCRIBE and NOTIFY (R77 to R79) -/

/-- The subscription is the session's to this object. -/
def Subscription.is (q : Query) (s : Subscription) : Bool :=
  decide (s.session = q.session ∧ s.index = q.index ∧ s.sub = q.sub)

/-- SUBSCRIBE: ACTION 1 adds a subscription or gives it a new period, ACTION 0 removes it. -/
def Dev.subscribeAnswer (q : Query) (r : ObjRow) (b : List Byte) (d : Dev) : Answer :=
  let period := field b 0 4
  let action := field b 4 1
  let others := d.cop.subs.filter fun s => ! s.is q
  let held := others.length < d.cop.subs.length
  let bad := decide (field b 5 3 ≠ 0 ∨ 1 < action ∨ (period ≠ 0 ∧ period < 1000) ∨ 60000000 < period)
  let full := decide (action = 1 ∧ ¬ held
    ∧ (64 ≤ d.cop.subs.length ∨ 16 ≤ (d.cop.subs.filter fun s => s.session = q.session).length))
  match firstAbort [(.range, bad), (.busy, full)] with
  | some a => .refuse a d
  | none =>
    let s : Subscription := { session := q.session, index := q.index, sub := q.sub, period := period, at_ := d.clock.raw,
                              value := d.readBytes r (key q.index q.sub) }
    .ok [] { d with cop := { d.cop with subs := if action = 1 then others ++ [s] else others } }

/-- SUBSCRIBE. -/
def serveSubscribe (q : Query) (m : Msg) (d : Dev) : Dev :=
  let r := rowOf q
  let pre := d.headTests q (findRow q.index q.sub)
    ++ [(.length, ! lengthOk m || decide (m.payload.length ≠ 8 ∨ 8192 < r.ty.bytes))]
  d.serve q pre fun d => headerChecked (headerBad m) d (d.subscribeAnswer q r m.payload)

/-- A NOTIFY reaches its session (R79): a datagram, or MBn_NOTIFY where it is free (R84). -/
def Dev.notifyTo (w : Sender) (m : Msg) (d : Dev) : Dev :=
  match w.port with
  | .mbox n =>
    if bitAt (d.bar2 (mbStatus n.val)) stNotifyReady then
      (d.putBar2 (mbNotifyLost n.val) ((d.bar2 (mbNotifyLost n.val) + 1) % 2 ^ 32)).mbSet n.val stNotifyLost
    else (d.putArea (mbNotify n.val) m.encode).mbSet n.val stNotifyReady
  | _ => d.send (.cop w m)

/-- A subscription is due at `now`: its period has passed, or its value has changed and 1 ms has passed. -/
def Subscription.due (s : Subscription) (value : List Byte) (now : Nat) : Bool :=
  if s.period = 0 then decide (value ≠ s.value ∧ s.at_ + 1000000 ≤ now) else decide (s.at_ + s.period * 1000 ≤ now)

/-- NOTIFY of the subscription at a place of the device's list. -/
def notifyEvent (place now : Nat) (d0 : Dev) : Dev :=
  let d := d0.at now
  match d.cop.subs[place]? with
  | none => d
  | some s =>
    match findRow s.index s.sub, d.session s.session with
    | some r, some o =>
      let value := d.readBytes r (key s.index s.sub)
      if d.running && s.due value d.clock.raw then
        let n := (o.notified + 1) % 2 ^ 32
        let q : Query := { sender := o.last, session := s.session, sequence := n, op := opNotify, index := s.index,
                           sub := s.sub, offset := 0 }
        let d1 := d.onSession s.session fun o => { o with notified := n }
        let subs := d1.cop.subs.set place { s with at_ := d.clock.raw, value := value }
        { d1 with cop := { d1.cop with subs := subs } }.notifyTo o.last (q.response 0 value)
      else d
    | _, _ => d

/-! ### One request (R69, R70) -/

/-- A request that passed R69, by its operation; an undefined one is answered with ACCESS. -/
def Dev.request (sender : Sender) (m : Msg) (mem : Map Byte) (d : Dev) : Dev :=
  let q := m.query sender
  match q.op with
  | 1 => serveRead q m d
  | 2 => serveWrite q m mem d
  | 3 => serveReadBlock q m d
  | 4 => serveWriteBlock q m mem d
  | 5 => serveSubscribe q m d
  | _ => d.serve q [(.access, true)] fun d => .ok [] d

/-- Why R69 drops a message: the counter that counts it. -/
def dropCounter (m : Msg) : Option Nat :=
  if ! m.crcOk then some Obj.CRC_DROPS else if m.version ≠ 1 then some Obj.FORMAT_DROPS else none

/-- A message arrives (R69), where one can. -/
def Dev.receive (sender : Sender) (m : Msg) (mem : Map Byte) (d : Dev) : Dev :=
  if ¬ d.reaches sender then d
  else
    match dropCounter m with
    | some k => d.bump k
    | none => d.request sender m mem

/-- What a request leaves of the store's bytes: a reset may lose them (R473), CLEAR_REMAP moves them with their
physical pages (R469), and lost pages are empty (R482). -/
def storeAfter (old new : Dev) (mem : Map Byte) : Map Byte :=
  if old.running ∧ ¬ new.running then (if new.dram.lostCause ≠ 0 then [] else mem)
  else if new.dram.remap = [] ∧ old.dram.remap ≠ [] then relocate old.dram new.dram mem
  else clearPages ((new.dram.remap.drop old.dram.remap.length).map Prod.fst) mem

/-- A command that is a request of any kind. -/
def State.nextRequest (s : State) (f : Map Byte → Dev → Dev) : Host.Outcome State Fault Refusal :=
  let d := f s.store s.dev
  .next { s with store := storeAfter s.dev d s.store, dev := d }

/-! ### The mailbox (R84, R85) -/

/-- MBN_DOORBELL: the host writes a request into MBn_REQ and then the doorbell. Both are ignored while REQ_BUSY is set.
A message that fails R69 sets CRC_ERROR. -/
def doorbell (n : Fin 4) (request : List Byte) (value : Nat) (mem : Map Byte) (d : Dev) : Dev :=
  if ¬ d.listens ∨ d.feed.d3hot ∨ bitAt (d.bar2 (mbStatus n.val)) stReqBusy then d
  else
    let b := request.take 8220
    let d1 := d.putArea (mbReq n.val) b
    if ¬ bitAt value 0 ∨ reservedIn 1 value then d1
    else
      let m := Msg.decode (padTo 8220 b)
      match dropCounter m with
      | some k => (d1.bump k).mbSet n.val stCrcError
      | none => (d1.mbSet n.val stReqBusy).request { port := .mbox n, ip := 0, udp := 0 } m mem

/-! ### OWNER_ENTRY_WRITE (R115) -/

/-- A WRITE message of a value, as a command that names an object and a value spells it. -/
def requestMessage (r : Req) (index sub : Nat) (b : List Byte) : Msg where
  version := 1
  op := 2
  session := r.session
  flags := 0
  sequence := r.sequence
  index := BitVec.ofNat 16 index
  sub := BitVec.ofNat 8 sub
  reserved := 0
  offset := 0
  length := BitVec.ofNat 32 b.length
  abort := 0
  payload := b
  crc := 0

/-! ### Meanings -/

/-- A command whose message carries its row's OP. -/
def State.message (s : State) (op : Nat) (mnemonic : String) (sender : Sender) (m : Msg) :
    Host.Outcome State Fault Refusal :=
  if m.op.toNat = op then s.nextRequest fun mem d => d.receive sender m mem else .fault (.illFormed mnemonic)

/-- READ also carries what no operation spells: a message with an undefined OP, or too short to be one (R69). -/
def execRead (sender : Sender) (g : Datagram) (s : State) : Host.Outcome State Fault Refusal :=
  match g with
  | .short b => s.next fun d => if d.reaches sender ∧ b.length < 28 then d.bump Obj.FORMAT_DROPS else d
  | .message m =>
    if 2 ≤ m.op.toNat ∧ m.op.toNat ≤ 5 then .fault (.illFormed "READ")
    else s.nextRequest fun mem d => d.receive sender m mem
def execWrite (sender : Sender) (m : Msg) (s : State) : Host.Outcome State Fault Refusal :=
  s.message opWrite "WRITE" sender m
def execReadBlock (sender : Sender) (m : Msg) (s : State) : Host.Outcome State Fault Refusal :=
  s.message opReadBlock "READ_BLOCK" sender m
def execWriteBlock (sender : Sender) (m : Msg) (s : State) : Host.Outcome State Fault Refusal :=
  s.message opWriteBlock "WRITE_BLOCK" sender m
def execSubscribe (sender : Sender) (m : Msg) (s : State) : Host.Outcome State Fault Refusal :=
  s.message opSubscribe "SUBSCRIBE" sender m
def execNotify (place now : Nat) (s : State) : Host.Outcome State Fault Refusal := s.next (notifyEvent place now)
def execMbnDoorbell (slot : Fin 4) (request : List Byte) (value : Word32) (s : State) :
    Host.Outcome State Fault Refusal := s.nextRequest (doorbell slot request value.toNat)
def execOwnerEntryWrite (r : Req) (index : Word16) (sub : Byte) (value : Word16) (s : State) :
    Host.Outcome State Fault Refusal :=
  s.nextRequest fun mem d =>
    if d.reaches r.sender then d.request r.sender (requestMessage r index.toNat sub.toNat (le 2 value.toNat)) mem else d

end Sys2Proof.Machine
end

