-- ==== Sys2Proof/Machine/Dispatch.lean ====
section
/-!
DEFINITION. Sys2Proof/Machine/Dispatch.lean: one arm per command, each one direct call of its meaning.
-/
namespace Sys2Proof.Machine

/-- The meaning of a command: its effect on everything but the queue. -/
def exec (i : Instr) (s : State) : Host.Outcome State Fault Refusal :=
  match i with
  | .read sender d => Sys2Proof.Machine.execRead sender d s
  | .write sender m => Sys2Proof.Machine.execWrite sender m s
  | .readBlock sender m => Sys2Proof.Machine.execReadBlock sender m s
  | .writeBlock sender m => Sys2Proof.Machine.execWriteBlock sender m s
  | .subscribe sender m => Sys2Proof.Machine.execSubscribe sender m s
  | .notify place now => Sys2Proof.Machine.execNotify place now s
  | .stagingTimeout session now => Sys2Proof.Machine.execStagingTimeout session now s
  | .sessionOpen sender sequence => Sys2Proof.Machine.execSessionOpen sender sequence s
  | .sessionClose r => Sys2Proof.Machine.execSessionClose r s
  | .sessionIdleTimeout session now => Sys2Proof.Machine.execSessionIdleTimeout session now s
  | .mbnDoorbell slot request value => Sys2Proof.Machine.execMbnDoorbell slot request value s
  | .mbnClear slot value irqEnable => Sys2Proof.Machine.execMbnClear slot value irqEnable s
  | .ownerEntryWrite r index sub value => Sys2Proof.Machine.execOwnerEntryWrite r index sub value s
  | .arm r => Sys2Proof.Machine.execArm r s
  | .disarm r => Sys2Proof.Machine.execDisarm r s
  | .start r => Sys2Proof.Machine.execStart r s
  | .hold r => Sys2Proof.Machine.execHold r s
  | .resume r => Sys2Proof.Machine.execResume r s
  | .pause r => Sys2Proof.Machine.execPause r s
  | .stop r => Sys2Proof.Machine.execStop r s
  | .mend r => Sys2Proof.Machine.execMend r s
  | .measure r => Sys2Proof.Machine.execMeasure r s
  | .endMeasure r => Sys2Proof.Machine.execEndMeasure r s
  | .service r => Sys2Proof.Machine.execService r s
  | .endService r => Sys2Proof.Machine.execEndService r s
  | .diagnose r => Sys2Proof.Machine.execDiagnose r s
  | .endTest r => Sys2Proof.Machine.execEndTest r s
  | .release r confirmed => Sys2Proof.Machine.execRelease r confirmed s
  | .enterSafe r => Sys2Proof.Machine.execEnterSafe r s
  | .endOfBoot slotA slotB recordsValid => Sys2Proof.Machine.execEndOfBoot slotA slotB recordsValid s
  | .soakResult t => Sys2Proof.Machine.execSoakResult t s
  | .diagSoak r => Sys2Proof.Machine.execDiagSoak r s
  | .diagEngines r => Sys2Proof.Machine.execDiagEngines r s
  | .diagLanes r => Sys2Proof.Machine.execDiagLanes r s
  | .diagStore r => Sys2Proof.Machine.execDiagStore r s
  | .diagKeeper r => Sys2Proof.Machine.execDiagKeeper r s
  | .diagDone result => Sys2Proof.Machine.execDiagDone result s
  | .jobAccept r => Sys2Proof.Machine.execJobAccept r s
  | .jobAccepted => Sys2Proof.Machine.execJobAccepted s
  | .jobClose r => Sys2Proof.Machine.execJobClose r s
  | .channelEnable channel value => Sys2Proof.Machine.execChannelEnable channel value s
  | .channelPause channel value => Sys2Proof.Machine.execChannelPause channel value s
  | .channelUnpause channel value => Sys2Proof.Machine.execChannelUnpause channel value s
  | .channelDisable channel value => Sys2Proof.Machine.execChannelDisable channel value s
  | .chnStatClear channel value => Sys2Proof.Machine.execChnStatClear channel value s
  | .chnRelease channel value => Sys2Proof.Machine.execChnRelease channel value s
  | .chnLenWrite before channel value => Sys2Proof.Machine.execChnLenWrite before channel value s
  | .shadowWrite channel dword value => Sys2Proof.Machine.execShadowWrite channel dword value s
  | .unitIssue => Sys2Proof.Machine.execUnitIssue s
  | .unitRetire channel place c => Sys2Proof.Machine.execUnitRetire channel place c s
  | .cplTimeout channel place => Sys2Proof.Machine.execCplTimeout channel place s
  | .translationCompletion page target read write => Sys2Proof.Machine.execTranslationCompletion page target read write s
  | .prgResponse index code => Sys2Proof.Machine.execPrgResponse index code s
  | .priTimeout channel raw => Sys2Proof.Machine.execPriTimeout channel raw s
  | .invalidateRequest first pages => Sys2Proof.Machine.execInvalidateRequest first pages s
  | .hostReset cause => Sys2Proof.Machine.execHostReset cause s
  | .linkUp speed width flit => Sys2Proof.Machine.execLinkUp speed width flit s
  | .bar0Drop isRead => Sys2Proof.Machine.execBar0Drop isRead s
  | .stripeOpened => Sys2Proof.Machine.execStripeOpened s
  | .unitTakeUp cls engine => Sys2Proof.Machine.execUnitTakeUp cls engine s
  | .unitComplete cls engine work fault => Sys2Proof.Machine.execUnitComplete cls engine work fault s
  | .stallRelease cls engine => Sys2Proof.Machine.execStallRelease cls engine s
  | .storeReadComplete context corrected uncorrectable => Sys2Proof.Machine.execStoreReadComplete context corrected uncorrectable s
  | .cellRefillDone cell => Sys2Proof.Machine.execCellRefillDone cell s
  | .checkJobStart r job => Sys2Proof.Machine.execCheckJobStart r job s
  | .checkJobSuspend r job => Sys2Proof.Machine.execCheckJobSuspend r job s
  | .checkJobResume r job => Sys2Proof.Machine.execCheckJobResume r job s
  | .checkJobAbort r job => Sys2Proof.Machine.execCheckJobAbort r job s
  | .rowFormed => Sys2Proof.Machine.execRowFormed s
  | .mapGridRowFetch stripe gridRow firstRead secondRead => Sys2Proof.Machine.execMapGridRowFetch stripe gridRow firstRead secondRead s
  | .strobe next position cross checkpointLate => Sys2Proof.Machine.execStrobe next position cross checkpointLate s
  | .computeComplete segment f => Sys2Proof.Machine.execComputeComplete segment f s
  | .launch => Sys2Proof.Machine.execLaunch s
  | .returnFrame lane frame => Sys2Proof.Machine.execReturnFrame lane frame s
  | .ackMissing segment half raw => Sys2Proof.Machine.execAckMissing segment half raw s
  | .returnLaneSilence lane raw => Sys2Proof.Machine.execReturnLaneSilence lane raw s
  | .handoff segment => Sys2Proof.Machine.execHandoff segment s
  | .handoffReceive segment first second => Sys2Proof.Machine.execHandoffReceive segment first second s
  | .drainStep => Sys2Proof.Machine.execDrainStep s
  | .knownAnswerPass engine passes => Sys2Proof.Machine.execKnownAnswerPass engine passes s
  | .engineRetire r engine => Sys2Proof.Machine.execEngineRetire r engine s
  | .engineReturn r engine passes => Sys2Proof.Machine.execEngineReturn r engine passes s
  | .subarrayCommand r segment sub => Sys2Proof.Machine.execSubarrayCommand r segment sub s
  | .alignFrame lane => Sys2Proof.Machine.execAlignFrame lane s
  | .returnRemove r lane => Sys2Proof.Machine.execReturnRemove r lane s
  | .returnRestore r lane => Sys2Proof.Machine.execReturnRestore r lane s
  | .laneSpare r lane spare => Sys2Proof.Machine.execLaneSpare r lane spare s
  | .laneRestore r lane spare => Sys2Proof.Machine.execLaneRestore r lane spare s
  | .laneRestored lane raw => Sys2Proof.Machine.execLaneRestored lane raw s
  | .waveBankWrite r bank value readBack => Sys2Proof.Machine.execWaveBankWrite r bank value readBack s
  | .moduleCommandRead r => Sys2Proof.Machine.execModuleCommandRead r s
  | .moduleRead identity => Sys2Proof.Machine.execModuleRead identity s
  | .patternStart r lane mode => Sys2Proof.Machine.execPatternStart r lane mode s
  | .patternInject r lane => Sys2Proof.Machine.execPatternInject r lane s
  | .eyeScanStart r => Sys2Proof.Machine.execEyeScanStart r s
  | .eyeScanDone errors => Sys2Proof.Machine.execEyeScanDone errors s
  | .interlockUnsafe input => Sys2Proof.Machine.execInterlockUnsafe input s
  | .interlockSafe input => Sys2Proof.Machine.execInterlockSafe input s
  | .originArm => Sys2Proof.Machine.execOriginArm s
  | .reversal => Sys2Proof.Machine.execReversal s
  | .standstill ch t => Sys2Proof.Machine.execStandstill ch t s
  | .amplitude ch outside => Sys2Proof.Machine.execAmplitude ch outside s
  | .phaseJump ch t angle => Sys2Proof.Machine.execPhaseJump ch t angle s
  | .quadError enc t r => Sys2Proof.Machine.execQuadError enc t r s
  | .hallInvalid enc t state => Sys2Proof.Machine.execHallInvalid enc t state s
  | .index ch count => Sys2Proof.Machine.execIndex ch count s
  | .refArm r ch => Sys2Proof.Machine.execRefArm r ch s
  | .refCancel r ch => Sys2Proof.Machine.execRefCancel r ch s
  | .crossDisagree => Sys2Proof.Machine.execCrossDisagree s
  | .returnToSc0 r => Sys2Proof.Machine.execReturnToSc0 r s
  | .probeEdge probe rising position => Sys2Proof.Machine.execProbeEdge probe rising position s
  | .probeNext r probe => Sys2Proof.Machine.execProbeNext r probe s
  | .compareFire compare => Sys2Proof.Machine.execCompareFire compare s
  | .compareBehind r compare action value => Sys2Proof.Machine.execCompareBehind r compare action value s
  | .timerEnable r timer on => Sys2Proof.Machine.execTimerEnable r timer on s
  | .timerExpiry timer => Sys2Proof.Machine.execTimerExpiry timer s
  | .servoTimerUpdate t cross => Sys2Proof.Machine.execServoTimerUpdate t cross s
  | .rcClear r axis => Sys2Proof.Machine.execRcClear r axis s
  | .axisEnable r axis => Sys2Proof.Machine.execAxisEnable r axis s
  | .axisDisable r axis => Sys2Proof.Machine.execAxisDisable r axis s
  | .axisMove r axis => Sys2Proof.Machine.execAxisMove r axis s
  | .axisStop r axis => Sys2Proof.Machine.execAxisStop r axis s
  | .axisHome r axis => Sys2Proof.Machine.execAxisHome r axis s
  | .axisEngage r axis => Sys2Proof.Machine.execAxisEngage r axis s
  | .axisDisengage r axis => Sys2Proof.Machine.execAxisDisengage r axis s
  | .axisSetPosition r axis => Sys2Proof.Machine.execAxisSetPosition r axis s
  | .targetWrite r axis value => Sys2Proof.Machine.execTargetWrite r axis value s
  | .profileTick axis raw negative positive home => Sys2Proof.Machine.execProfileTick axis raw negative positive home s
  | .holdDelay axis raw => Sys2Proof.Machine.execHoldDelay axis raw s
  | .comparatorCrossing axis phase raw => Sys2Proof.Machine.execComparatorCrossing axis phase raw s
  | .maxOn axis phase raw => Sys2Proof.Machine.execMaxOn axis phase raw s
  | .switchEdge axis switch => Sys2Proof.Machine.execSwitchEdge axis switch s
  | .echoWait raw => Sys2Proof.Machine.execEchoWait raw s
  | .recoveryContinue r => Sys2Proof.Machine.execRecoveryContinue r s
  | .recoveryDone => Sys2Proof.Machine.execRecoveryDone s
  | .mendRasterBuilt => Sys2Proof.Machine.execMendRasterBuilt s
  | .decision r stripe choice => Sys2Proof.Machine.execDecision r stripe choice s
  | .deficitMapStart r => Sys2Proof.Machine.execDeficitMapStart r s
  | .deficitMapDone => Sys2Proof.Machine.execDeficitMapDone s
  | .storeCommandInit r => Sys2Proof.Machine.execStoreCommandInit r s
  | .storeInit rejected contentsHeld => Sys2Proof.Machine.execStoreInit rejected contentsHeld s
  | .storeRetire r channel rank => Sys2Proof.Machine.execStoreRetire r channel rank s
  | .clearRemap r => Sys2Proof.Machine.execClearRemap r s
  | .commandError channel ranks => Sys2Proof.Machine.execCommandError channel ranks s
  | .pageMigration => Sys2Proof.Machine.execPageMigration s
  | .refetchDone r page => Sys2Proof.Machine.execRefetchDone r page s
  | .refreshDue channel rank busy => Sys2Proof.Machine.execRefreshDue channel rank busy s
  | .temperaturePoll channel rank doubled => Sys2Proof.Machine.execTemperaturePoll channel rank doubled s
  | .idlePd channel rank => Sys2Proof.Machine.execIdlePd channel rank s
  | .patrol page corrected uncorrectable => Sys2Proof.Machine.execPatrol page corrected uncorrectable s
  | .rinseRead array part raw found holds => Sys2Proof.Machine.execRinseRead array part raw found holds s
  | .checkerTest r subarrays arrays => Sys2Proof.Machine.execCheckerTest r subarrays arrays s
  | .sync h twoStep origin interval => Sys2Proof.Machine.execSync h twoStep origin interval s
  | .followUp h origin => Sys2Proof.Machine.execFollowUp h origin s
  | .delayResp h received => Sys2Proof.Machine.execDelayResp h received s
  | .pdelayReq h => Sys2Proof.Machine.execPdelayReq h s
  | .pdelayResp h received sent => Sys2Proof.Machine.execPdelayResp h received sent s
  | .delayReq raw => Sys2Proof.Machine.execDelayReq raw s
  | .announce h a => Sys2Proof.Machine.execAnnounce h a s
  | .holdover raw => Sys2Proof.Machine.execHoldover raw s
  | .pathHoldEnd raw => Sys2Proof.Machine.execPathHoldEnd raw s
  | .ptpPortSwitch raw => Sys2Proof.Machine.execPtpPortSwitch raw s
  | .stepAgain r => Sys2Proof.Machine.execStepAgain r s
  | .capture e raw => Sys2Proof.Machine.execCapture e raw s
  | .captureNext r => Sys2Proof.Machine.execCaptureNext r s
  | .launchArm r entry => Sys2Proof.Machine.execLaunchArm r entry s
  | .launchCancel r entry => Sys2Proof.Machine.execLaunchCancel r entry s
  | .scheduledLaunch entry raw => Sys2Proof.Machine.execScheduledLaunch entry raw s
  | .record => Sys2Proof.Machine.execRecord s
  | .recordsDropped => Sys2Proof.Machine.execRecordsDropped s
  | .recorderClear r => Sys2Proof.Machine.execRecorderClear r s
  | .thresholdEnable r counter on => Sys2Proof.Machine.execThresholdEnable r counter on s
  | .tagRelease r mask => Sys2Proof.Machine.execTagRelease r mask s
  | .calRerun r channel => Sys2Proof.Machine.execCalRerun r channel s
  | .calFactory r channel => Sys2Proof.Machine.execCalFactory r channel s
  | .calRunStart => Sys2Proof.Machine.execCalRunStart s
  | .calDone channel m => Sys2Proof.Machine.execCalDone channel m s
  | .runLimit channel raw => Sys2Proof.Machine.execRunLimit channel raw s
  | .calApplied channel => Sys2Proof.Machine.execCalApplied channel s
  | .fwImagePart r part value => Sys2Proof.Machine.execFwImagePart r part value s
  | .fwVerify r => Sys2Proof.Machine.execFwVerify r s
  | .fwActivate r => Sys2Proof.Machine.execFwActivate r s
  | .fwCancel r => Sys2Proof.Machine.execFwCancel r s
  | .fwReady => Sys2Proof.Machine.execFwReady s
  | .fwReverted raw => Sys2Proof.Machine.execFwReverted raw s
  | .supplyWarn rail mv => Sys2Proof.Machine.execSupplyWarn rail mv s
  | .supplyReset rail mv confirmed => Sys2Proof.Machine.execSupplyReset rail mv confirmed s
  | .supplyRecovered rail mv below aboveWarn => Sys2Proof.Machine.execSupplyRecovered rail mv below aboveWarn s
  | .vkeepRise => Sys2Proof.Machine.execVkeepRise s
  | .vkeepFall mv => Sys2Proof.Machine.execVkeepFall mv s
  | .pwrFail e => Sys2Proof.Machine.execPwrFail e s
  | .pwrFailDelay confirmed => Sys2Proof.Machine.execPwrFailDelay confirmed s
  | .resetN confirmed => Sys2Proof.Machine.execResetN confirmed s
  | .watchdog confirmed => Sys2Proof.Machine.execWatchdog confirmed s
  | .resetCommandReset r confirmed => Sys2Proof.Machine.execResetCommandReset r confirmed s
  | .resetCommandStandby r confirmed => Sys2Proof.Machine.execResetCommandStandby r confirmed s
  | .sentinelSample v => Sys2Proof.Machine.execSentinelSample v s
  | .mainReleased kept ticks wakeLow => Sys2Proof.Machine.execMainReleased kept ticks wakeLow s
  | .clockLost crystal confirmed => Sys2Proof.Machine.execClockLost crystal confirmed s
  | .backupBaseSet => Sys2Proof.Machine.execBackupBaseSet s
  | .dieTempUpdate die keeper rails confirmed => Sys2Proof.Machine.execDieTempUpdate die keeper rails confirmed s
  | .tapInstructionLoad code => Sys2Proof.Machine.execTapInstructionLoad code s
  | .positionSample ch t r => Sys2Proof.Machine.execPositionSample ch t r s
  | .networkLinkChange port up => Sys2Proof.Machine.execNetworkLinkChange port up s
  | .addressResolutionRequest port vlan v6 source target => Sys2Proof.Machine.execAddressResolutionRequest port vlan v6 source target s
  | .echoRequest port vlan v6 source target data => Sys2Proof.Machine.execEchoRequest port vlan v6 source target data s
  | .blankTime axis phase raw above => Sys2Proof.Machine.execBlankTime axis phase raw above s
  | .fastTime axis phase raw => Sys2Proof.Machine.execFastTime axis phase raw s
  | .syncInterval raw => Sys2Proof.Machine.execSyncInterval raw s
  | .announceInterval raw => Sys2Proof.Machine.execAnnounceInterval raw s
  | .delayReqReceipt h => Sys2Proof.Machine.execDelayReqReceipt h s
  | .pdelayReqInterval raw => Sys2Proof.Machine.execPdelayReqInterval raw s
  | .aerUncorrectable status header => Sys2Proof.Machine.execAerUncorrectable status header s
  | .configurationSpaceWrite w => Sys2Proof.Machine.execConfigurationSpaceWrite w s

end Sys2Proof.Machine
end

