-- ==== Sys2Proof/WellFormed.lean ====
section
/-!
DEFINITION. Sys2Proof/WellFormed.lean: which commands the outside can bring.
A command that fails its check names something that the spec's interfaces cannot carry: a message whose OP is another
row's, a payload longer than LENGTH can say (R68), an address of the wrong width, an engine that does not exist.
-/
namespace Sys2Proof

/-- A message of the row with operation `op`, whose payload LENGTH can count (R68). -/
def Msg.wf (op : Nat) (m : Msg) : Bool := decide (m.op.toNat = op ∧ m.payload.length ≤ 8192)

/-- What arrives as a READ: a READ, a message whose OP names no other row (R69), or fewer than 28 bytes (R69). -/
def Datagram.wf : Datagram → Bool
  | .short b => decide (b.length < 28)
  | .message m => decide (¬ (2 ≤ m.op.toNat ∧ m.op.toNat ≤ 5) ∧ m.payload.length ≤ 8192)

/-- Engines of a class (R201). -/
def EngineClass.holds (c : EngineClass) (e : Nat) : Bool :=
  match c with
  | .decoder => decide (e < 16)
  | .rasterizer => decide (e < 8)
  | .placer => decide (e < 4)

/-- A completion carries at most one unit of 256 bytes (R167). -/
def Completion.wf : Completion → Bool
  | .data b => decide (b.length ≤ 256)
  | .posted => true
  | .status => true
  | .poison => true
  | .storeError _ => true

/-- Source and target have the width of their protocol: 16 bytes for IPv6, 4 for IPv4 (R66). -/
def addressesWf (v6 : Bool) (source target : List Byte) : Bool :=
  decide (source.length = (if v6 then 16 else 4) ∧ target.length = (if v6 then 16 else 4))

/-- The check of every command. -/
def Instr.wf : Instr → Bool
  | .read _ d => d.wf
  | .write _ m => m.wf 2
  | .readBlock _ m => m.wf 3
  | .writeBlock _ m => m.wf 4
  | .subscribe _ m => m.wf 5
  | .notify _ _ => true
  | .stagingTimeout _ _ => true
  | .sessionOpen _ _ => true
  | .sessionClose _ => true
  | .sessionIdleTimeout _ _ => true
  | .mbnDoorbell _ b _ => decide (b.length ≤ 8220)
  | .mbnClear _ _ _ => true
  | .ownerEntryWrite _ i _ _ => decide (0x2100 ≤ i.toNat ∧ i.toNat ≤ 0x2106)
  | .arm _ => true
  | .disarm _ => true
  | .start _ => true
  | .hold _ => true
  | .resume _ => true
  | .pause _ => true
  | .stop _ => true
  | .mend _ => true
  | .measure _ => true
  | .endMeasure _ => true
  | .service _ => true
  | .endService _ => true
  | .diagnose _ => true
  | .endTest _ => true
  | .release _ _ => true
  | .enterSafe _ => true
  | .endOfBoot _ _ _ => true
  | .soakResult _ => true
  | .diagSoak _ => true
  | .diagEngines _ => true
  | .diagLanes _ => true
  | .diagStore _ => true
  | .diagKeeper _ => true
  | .diagDone _ => true
  | .jobAccept _ => true
  | .jobAccepted => true
  | .jobClose _ => true
  | .channelEnable _ _ => true
  | .channelPause _ _ => true
  | .channelUnpause _ _ => true
  | .channelDisable _ _ => true
  | .chnStatClear _ _ => true
  | .chnRelease _ _ => true
  | .chnLenWrite b _ _ => b.all fun w => decide (w.offset % 4 = 0 ∧ w.offset < 0x20000)
  | .shadowWrite _ _ _ => true
  | .unitIssue => true
  | .unitRetire _ _ c => c.wf
  | .cplTimeout _ _ => true
  | .translationCompletion _ _ _ _ => true
  | .prgResponse _ _ => true
  | .priTimeout _ _ => true
  | .invalidateRequest _ _ => true
  | .hostReset _ => true
  | .linkUp _ _ _ => true
  | .bar0Drop _ => true
  | .stripeOpened => true
  | .unitTakeUp c e => c.holds e
  | .unitComplete c e _ _ => c.holds e
  | .stallRelease c e => c.holds e
  | .storeReadComplete _ _ _ => true
  | .cellRefillDone _ => true
  | .checkJobStart _ _ => true
  | .checkJobSuspend _ _ => true
  | .checkJobResume _ _ => true
  | .checkJobAbort _ _ => true
  | .rowFormed => true
  | .mapGridRowFetch _ _ _ _ => true
  | .strobe _ _ _ _ => true
  | .computeComplete _ _ => true
  | .launch => true
  | .returnFrame _ wire => decide (wire.length ≤ 1240)
  | .ackMissing _ _ _ => true
  | .returnLaneSilence _ _ => true
  | .handoff _ => true
  | .handoffReceive _ _ _ => true
  | .drainStep => true
  | .knownAnswerPass _ _ => true
  | .engineRetire _ _ => true
  | .engineReturn _ _ _ => true
  | .subarrayCommand _ _ _ => true
  | .alignFrame _ => true
  | .returnRemove _ _ => true
  | .returnRestore _ _ => true
  | .laneSpare _ _ _ => true
  | .laneRestore _ _ _ => true
  | .laneRestored _ _ => true
  | .waveBankWrite _ _ b _ => decide (b.length = 96)
  | .moduleCommandRead _ => true
  | .moduleRead _ => true
  | .patternStart _ _ _ => true
  | .patternInject _ _ => true
  | .eyeScanStart _ => true
  | .eyeScanDone _ => true
  | .interlockUnsafe _ => true
  | .interlockSafe _ => true
  | .originArm => true
  | .reversal => true
  | .standstill _ _ => true
  | .amplitude _ _ => true
  | .phaseJump _ _ _ => true
  | .quadError _ _ _ => true
  | .hallInvalid _ _ _ => true
  | .index _ _ => true
  | .refArm _ _ => true
  | .refCancel _ _ => true
  | .crossDisagree => true
  | .returnToSc0 _ => true
  | .probeEdge _ _ _ => true
  | .probeNext _ _ => true
  | .compareFire _ => true
  | .compareBehind _ _ _ _ => true
  | .timerEnable _ _ _ => true
  | .timerExpiry _ => true
  | .servoTimerUpdate _ _ => true
  | .rcClear _ _ => true
  | .axisEnable _ _ => true
  | .axisDisable _ _ => true
  | .axisMove _ _ => true
  | .axisStop _ _ => true
  | .axisHome _ _ => true
  | .axisEngage _ _ => true
  | .axisDisengage _ _ => true
  | .axisSetPosition _ _ => true
  | .targetWrite _ _ _ => true
  | .profileTick _ _ _ _ _ => true
  | .holdDelay _ _ => true
  | .comparatorCrossing _ _ _ => true
  | .maxOn _ _ _ => true
  | .switchEdge _ _ => true
  | .echoWait _ => true
  | .recoveryContinue _ => true
  | .recoveryDone => true
  | .mendRasterBuilt => true
  | .decision _ _ _ => true
  | .deficitMapStart _ => true
  | .deficitMapDone => true
  | .storeCommandInit _ => true
  | .storeInit _ _ => true
  | .storeRetire _ _ _ => true
  | .clearRemap _ => true
  | .commandError _ _ => true
  | .pageMigration => true
  | .refetchDone _ _ => true
  | .refreshDue _ _ _ => true
  | .temperaturePoll _ _ _ => true
  | .idlePd _ _ => true
  | .patrol _ _ _ => true
  | .rinseRead _ _ _ _ _ => true
  | .checkerTest _ _ _ => true
  | .sync _ _ _ _ => true
  | .followUp _ _ => true
  | .delayResp _ _ => true
  | .pdelayReq _ => true
  | .pdelayResp _ _ _ => true
  | .delayReq _ => true
  | .announce _ _ => true
  | .holdover _ => true
  | .pathHoldEnd _ => true
  | .ptpPortSwitch _ => true
  | .stepAgain _ => true
  | .capture _ _ => true
  | .captureNext _ => true
  | .launchArm _ _ => true
  | .launchCancel _ _ => true
  | .scheduledLaunch _ _ => true
  | .record => true
  | .recordsDropped => true
  | .recorderClear _ => true
  | .thresholdEnable _ _ _ => true
  | .tagRelease _ _ => true
  | .calRerun _ _ => true
  | .calFactory _ _ => true
  | .calRunStart => true
  | .calDone _ _ => true
  | .runLimit _ _ => true
  | .calApplied _ => true
  | .fwImagePart _ _ b => decide (b.length = 1048576)
  | .fwVerify _ => true
  | .fwActivate _ => true
  | .fwCancel _ => true
  | .fwReady => true
  | .fwReverted _ => true
  | .supplyWarn _ _ => true
  | .supplyReset _ _ _ => true
  | .supplyRecovered _ _ _ _ => true
  | .vkeepRise => true
  | .vkeepFall _ => true
  | .pwrFail _ => true
  | .pwrFailDelay _ => true
  | .resetN _ => true
  | .watchdog _ => true
  | .resetCommandReset _ _ => true
  | .resetCommandStandby _ _ => true
  | .sentinelSample v => decide (v.rails.length = 10)
  | .mainReleased _ _ _ => true
  | .clockLost _ _ => true
  | .backupBaseSet => true
  | .dieTempUpdate _ _ l _ => decide (l.length = 10)
  | .tapInstructionLoad x => decide (x.cells.length ≤ 2192)
  | .positionSample _ _ _ => true
  | .networkLinkChange _ _ => true
  | .addressResolutionRequest _ _ v6 s t => addressesWf v6 s t
  | .echoRequest _ _ v6 s t d => addressesWf v6 s t && decide (d.length ≤ 9216)
  | .blankTime _ _ _ _ => true
  | .fastTime _ _ _ => true
  | .syncInterval _ => true
  | .announceInterval _ => true
  | .delayReqReceipt _ => true
  | .pdelayReqInterval _ => true
  | .aerUncorrectable _ _ => true
  | .configurationSpaceWrite _ => true

end Sys2Proof
end

