-- ==== Sys2Proof/Safety.lean ====
section
/-!
DEFINITION. Sys2Proof/Safety.lean: what the statements say of a state.
The form that the store's bytes keep, the frame of commands that change the device only, and the conditions under
which the control supervisor carries out a request.
-/
namespace Sys2Proof.Machine

/-- The layout store's bytes are in their canonical form: rising addresses, no byte 0x00 listed. -/
abbrev State.StoreOk (s : State) : Prop := Map.wf (0 : Byte) s.store = true

/-- Every byte of the store reads the same in both states. -/
def State.SameStore (s t : State) : Prop := ∀ a, Map.get (0 : Byte) t.store a = Map.get (0 : Byte) s.store a

/-- A request that the control supervisor carries out now: its message can arrive, the sender's session is open (R82, R88), and
the request is neither a repeat, nor a copy, nor one that finds another in execution (R80, R81). -/
abbrev Dev.Admits (q : Query) (d : Dev) : Prop :=
  d.reaches q.sender = true ∧ d.turn q = .fresh ∧ d.sessionFails q = false

/-- The device after a command request was carried out: counted, its empty response kept and sent (R70, R81). -/
def Dev.done (q : Query) (d : Dev) : Dev := d.finish q (q.response 0 [])

/-- The device after a command request of `len` bytes with the value `word` was carried out: the request is heard,
COMMAND is recorded (R90), the command has its effect, and the response is kept and sent. -/
def Dev.commanded (q : Query) (len word : Nat) (effect : Dev → Dev) (d : Dev) : Dev :=
  (effect ((d.heard q).noteCommand q len word)).done q

/-- The device after a mode command was carried out: 0x2001 shows the command as done, with no failed arm check (R92, R94). -/
def Dev.modeCommanded (r : Req) (code : Nat) (effect : Dev → Dev) (d : Dev) : Dev :=
  d.commanded (r.write 0x2001 0) 4 code fun d => effect (d.put Obj.MODE_COMMAND (code * 0x1000000))

end Sys2Proof.Machine

namespace Sys2Proof

open Machine

/-- A message that R69 lets through, with no reserved header bit and with its LENGTH, whose request is carried out now. -/
abbrev Msg.Sound (sender : Sender) (m : Msg) (d : Dev) : Prop :=
  m.crcOk = true ∧ m.version = 1 ∧ headerBad m = false ∧ lengthOk m = true ∧ d.Admits (m.query sender)

end Sys2Proof
end

