-- ==== Sys2Proof/Certificates/Slice0/Obligations.lean ====
section
/-!
DEFINITION. Sys2Proof/Certificates/Slice0/Obligations.lean: the statements for the provers.
Statements about one command say the whole next state: the operations named in it are the only changes, so the frame is
part of each.
-/
open Sys2Proof Sys2Proof.Machine

/-- A step takes the command at the front of the queue and runs it on the state with the queue's rest; on an empty queue
the block idles, and 1 ns passes while the main die runs (the model's choice, log entry 10). -/
def Obligations.StepRunsFrontCommand : Prop :=
  (∀ (c : Instr) (rest : List Instr) (s : State),
    step { s with pending := c :: rest } = exec c { s with pending := rest }) ∧
  ∀ s : State, s.pending = [] →
    step s = .next { s with dev := if s.dev.running then s.dev.advance 1 else s.dev }

/-- No command's effect touches the queue: what waits behind a command is what waits after it, in the same order. -/
def Obligations.CommandsKeepTheQueue : Prop :=
  ∀ (c : Instr) (s t : State), exec c s = .next t → t.pending = s.pending

/-- Every well-formed command completes with a next state, and no command is refused. -/
def Obligations.WellFormedCommandsRun : Prop :=
  (∀ (c : Instr) (s : State), c.wf = true → ∃ t, exec c s = .next t) ∧
  ∀ (c : Instr) (s : State) (r : Refusal), exec c s ≠ .refused r

/-- The layout store's bytes are in canonical form after reset: strictly rising addresses and no byte that an unlisted
address reads as (0x00 for an unlisted address is the model's choice, log entry 3). -/
def Obligations.ResetStoreCanonical : Prop := State.reset.StoreOk

/-- Every step keeps the canonical form of the layout store's bytes, from any state that has it. -/
def Obligations.StepKeepsStoreCanonical : Prop :=
  ∀ s t : State, s.StoreOk → step s = .next t → t.StoreOk

/-- FRAME over all commands: only the commands named here can change a byte of the layout store. They are the commands
that may carry any request (one may reset the main die or clear the remap list), the retiring of feed units, the outputs
of the mend raster and the deficit map, a march test, what may lose or move pages, and what may reset the main die. -/
def Obligations.StoreFrame : Prop :=
  ∀ (c : Instr) (s t : State), exec c s = .next t →
    match c with
    | .read .. | .write .. | .readBlock .. | .writeBlock .. | .subscribe .. | .mbnDoorbell .. | .ownerEntryWrite .. => True
    | .unitIssue | .unitRetire .. | .pageMigration | .mendRasterBuilt | .deficitMapDone | .diagDone .. => True
    | .storeReadComplete .. | .storeInit .. | .storeRetire .. | .clearRemap .. | .commandError .. | .patrol .. => True
    | .release .. | .supplyReset .. | .vkeepRise | .pwrFailDelay .. | .resetN .. | .watchdog .. | .rinseRead ..
    | .resetCommandReset .. | .resetCommandStandby .. | .clockLost .. | .dieTempUpdate .. => True
    | _ => t.store = s.store

/-! ### Requests: 03_control_and_modes -/

/-- R69: a message whose CRC fails, or whose VERSION is not 0x01, is dropped without a response: only the counter of
CRC_DROPS or FORMAT_DROPS rises, on the row that carries a message; so does FORMAT_DROPS for fewer than 28 bytes. A sound
message with an undefined OP, or an OP of 0x06, is answered with ACCESS. -/
def Obligations.MalformedMessagesDropped : Prop :=
  (∀ (p : Sender) (m : Msg) (s : State), s.dev.reaches p = true → m.crcOk = false ∨ m.version ≠ 1 →
    let t := { s with dev := s.dev.bump (if m.crcOk then Obj.FORMAT_DROPS else Obj.CRC_DROPS) }
    (m.op = 1 → exec (.read p (.message m)) s = .next t) ∧ (m.op = 2 → exec (.write p m) s = .next t) ∧
    (m.op = 3 → exec (.readBlock p m) s = .next t) ∧ (m.op = 4 → exec (.writeBlock p m) s = .next t) ∧
    (m.op = 5 → exec (.subscribe p m) s = .next t) ∧
    ∀ b : List Byte, b.length < 28 →
      exec (.read p (.short b)) s = .next { s with dev := s.dev.bump Obj.FORMAT_DROPS }) ∧
  ∀ (p : Sender) (m : Msg) (s : State), m.Sound p s.dev → m.op = 0 ∨ 6 ≤ m.op.toNat →
    exec (.read p (.message m)) s = .next { s with dev := (s.dev.heard (m.query p)).refuse (m.query p) .access }

/-- R71, R72: a READ of a readable object of at most 8,192 bytes answers its whole value, and a READ_BLOCK of a larger
byte object answers LENGTH bytes from OFFSET. Beside the answer, only a read of ILK_STATE clears what it showed (0x5852). -/
def Obligations.ReadsAnswerTheValue : Prop :=
  ∀ (p : Sender) (m : Msg) (r : ObjRow) (s : State), m.Sound p s.dev →
    hasObject m.index.toNat = true → findRow m.index.toNat m.sub.toNat = some r →
    r.acc ≠ .wo → r.acc ≠ .cmd → s.dev.readDenied (m.query p) = false → (m.query p).foreignCursor = false →
    let q := m.query p
    let k := key m.index.toNat m.sub.toNat
    let d := s.dev.heard q
    (m.op = 1 → m.length = 0 → r.ty.bytes ≤ 8192 →
      exec (.read p (.message m)) s = .next { s with dev := (d.afterRead k).finish q (q.response 0 (d.readBytes r k)) }) ∧
    (m.op = 3 → r.ty.isBytes = true → 8192 < r.ty.bytes → m.offset.toNat + m.length.toNat ≤ r.ty.bytes →
      exec (.readBlock p m) s
        = .next { s with dev := d.finish q (q.response 0 (d.readBlock r k m.offset.toNat m.length.toNat)) })

/-- R71, R90: a WRITE of a number to an object that is not read-only (SOURCE of axis 0 is) and has no row of its own, in a mode that allows it, with a value in its
permitted set and passing the rules of the chapters, is recorded with the old and the new value and stored; the chapters
act on it, and an RW-L value is in effect at once while no stripe is in progress. -/
def Obligations.WriteStoresTheValue : Prop :=
  ∀ (p : Sender) (m : Msg) (r : ObjRow) (s : State), m.Sound p s.dev → m.op = 2 →
    hasObject m.index.toNat = true → findRow m.index.toNat m.sub.toNat = some r →
    r.acc ≠ .ro → ¬ (m.index = 0x6810 ∧ m.sub = 2) → (m.query p).foreignCursor = false →
    r.ty.isBytes = false → m.payload.length = r.ty.bytes →
    let q := m.query p
    let k := key m.index.toNat m.sub.toNat
    let v := ofLe (m.payload.take 8)
    let d := s.dev.heard q
    d.rowWrite q v m.payload s.store = none → d.writeForbidden q.index q.sub v = false →
    d.settingForbidden r = false → r.rng.ok r.ty v = true → Dev.setFull r (d.put k v) = false →
    (∀ t ∈ d.objectTests q.session q.index q.sub v, t.2 = false) →
    let stored := (d.noteWrite q (le r.ty.bytes (d.get k)) (le r.ty.bytes v)).put k v
    let done := ((stored.objectWritten q.session q.index q.sub v).takeEffect r k).done q
    exec (.write p m) s = .next { s with dev := done, store := storeAfter s.dev done s.store }

/-- R73, R11, R100: in a mode that allows the write, a WRITE_BLOCK chunk with MORE that starts where the session's transfer
stands is staged, and nothing of the object changes; in a mode that forbids it the chunk is refused with STATE_FORBIDS, and
the session's transfer ends. -/
def Obligations.WriteBlockStagesAChunk : Prop :=
  ∀ (p : Sender) (m : Msg) (r : ObjRow) (x : Session) (s : State), m.Sound p s.dev → m.op = 4 → m.flags = 2 →
    (m.query p).foreignCursor = false → hasObject m.index.toNat = true → findRow m.index.toNat m.sub.toNat = some r →
    r.acc ≠ .ro → r.ty.isBytes = true → 8192 < r.ty.bytes → m.offset.toNat + m.payload.length ≤ r.ty.bytes →
    let q := m.query p
    let d := s.dev.heard q
    d.sessionOf q = some x →
    (d.blockForbidden q = true →
      exec (.writeBlock p m) s = .next { s with dev := (d.unstage q).refuse q .stateForbids }) ∧
    (d.blockForbidden q = false → x.timedOut = false → x.spoiled = false →
      (m.offset = 0 ∧ d.buffersUsed q < 4 ∨ (x.transfer q).map (·.bytes.length) = some m.offset.toNat) →
      let before := if m.offset = 0 then [] else ((x.transfer q).map Staging.bytes).getD []
      let staged : Staging := { index := q.index, sub := q.sub, bytes := before ++ m.payload, at_ := s.dev.clock.raw }
      exec (.writeBlock p m) s
        = .next { s with dev := (d.onOwn q fun y => { y with staged := some staged }).done q })

/-- R77, R78: a SUBSCRIBE with ACTION 1 and a permitted period, below the limits of 64 and of 16 per session, adds the
subscription with the object's present value; ACTION 0 removes it. -/
def Obligations.SubscribeAddsOrRemoves : Prop :=
  ∀ (p : Sender) (m : Msg) (r : ObjRow) (period : Word32) (s : State), m.Sound p s.dev → m.op = 5 →
    hasObject m.index.toNat = true → findRow m.index.toNat m.sub.toNat = some r →
    r.acc ≠ .wo → s.dev.readDenied (m.query p) = false → (m.query p).foreignCursor = false → r.ty.bytes ≤ 8192 →
    period = 0 ∨ (1000 ≤ period.toNat ∧ period.toNat ≤ 60000000) →
    let q := m.query p
    let d := s.dev.heard q
    let others := d.cop.subs.filter fun x => ! x.is q
    let new : Subscription := { session := q.session, index := q.index, sub := q.sub, period := period.toNat,
                                at_ := d.clock.raw, value := d.readBytes r (key q.index q.sub) }
    (m.payload = le 4 period.toNat ++ [1, 0, 0, 0] → d.cop.subs.length < 64 →
      (d.cop.subs.filter fun x => x.session = q.session).length < 16 →
      exec (.subscribe p m) s
        = .next { s with dev := { d with cop := { d.cop with subs := others ++ [new] } }.done q }) ∧
    (m.payload = le 4 period.toNat ++ [0, 0, 0, 0] →
      exec (.subscribe p m) s = .next { s with dev := { d with cop := { d.cop with subs := others } }.done q })

/-- R79: a subscription that is due sends a NOTIFY with the object's value and the session's next notification count, to
the sender of the session's most recent request; on a mailbox slot it goes to MBn_NOTIFY. -/
def Obligations.NotifySendsTheValue : Prop :=
  ∀ (place : Nat) (x : Subscription) (r : ObjRow) (o : Session) (s : State),
    s.dev.running = true → s.dev.cop.subs[place]? = some x → findRow x.index x.sub = some r →
    s.dev.session x.session = some o → x.due (s.dev.readBytes r (key x.index x.sub)) s.dev.clock.raw = true →
    let value := s.dev.readBytes r (key x.index x.sub)
    let n := (o.notified + 1) % 2 ^ 32
    let m := Query.response ⟨o.last, x.session, n, opNotify, x.index, x.sub, 0⟩ 0 value
    let d := s.dev.onSession x.session fun o => { o with notified := n }
    let e := { d with cop := { d.cop with subs := d.cop.subs.set place { x with at_ := s.dev.clock.raw, value := value } } }
    exec (.notify place s.dev.clock.raw) s = .next { s with dev := e.notifyTo o.last m }

/-- R74, R89: 5 s without a chunk discards the session's transfer; a session with no request for SESSION_IDLE_TIMEOUT
closes; before that, both events change nothing. -/
def Obligations.SessionTimeLimits : Prop :=
  ∀ (n : Fin 17) (x : Session) (s : State), s.dev.running = true → s.dev.session n.val = some x →
    let now := s.dev.clock.raw
    let discarded := s.dev.onSession n.val fun x => { x with staged := none, timedOut := true }
    (∀ g, x.staged = some g →
      exec (.stagingTimeout n now) s = .next { s with dev := if g.at_ + 5000000000 ≤ now then discarded else s.dev }) ∧
    (x.at_ + s.dev.get Obj.SESSION_IDLE_TIMEOUT * 1000000 ≤ now →
      exec (.sessionIdleTimeout n now) s = .next { s with dev := s.dev.closeSession n.val }) ∧
    (now < x.at_ + s.dev.get Obj.SESSION_IDLE_TIMEOUT * 1000000 → exec (.sessionIdleTimeout n now) s = .next s)

/-- R87, R89: SESSION_OPEN opens the lowest free number (the choice of the number is the model's), bound to the sender,
answers it in one byte and records SESSION_OPENED; SESSION_CLOSE of a session's own number closes it. -/
def Obligations.SessionsOpenAndClose : Prop :=
  (∀ (p : Sender) (sequence : Word32) (n : Nat) (s : State),
    let q := Req.write ⟨p, 0, sequence⟩ 0x1100 0
    s.dev.Admits q → s.dev.writeForbidden 0x1100 0 1 = false → s.dev.freeSession = some n →
    let d := (s.dev.noteCommand q 4 1).put Obj.SESSION_OPEN n
    let e := { d with cop := { d.cop with sessions := Map.insert n (Session.opened p.bare d.clock.raw) d.cop.sessions } }
    exec (.sessionOpen p sequence) s
      = .next { s with dev := (e.raise 0 0x1004 [n * 8 + p.port.code]).finish q (q.response 0 (le 1 n)) }) ∧
  ∀ (r : Req) (s : State), let q := r.write 0x1101 0
    s.dev.Admits q → s.dev.writeForbidden 0x1101 0 r.session.toNat = false →
    exec (.sessionClose r) s
      = .next { s with dev := s.dev.commanded q 1 r.session.toNat fun d => d.closeSession r.session.toNat }

/-- R84, R85: a doorbell with bit [0] while REQ_BUSY is clear submits the message in MBn_REQ: one that fails R69 sets
CRC_ERROR and is counted, another is served as a request of the slot under REQ_BUSY; with REQ_BUSY set the write is
ignored. A write to MBn_CLEAR clears those of bits [4:1] of MBn_STATUS that it sets. -/
def Obligations.MailboxSubmitsAndClears : Prop :=
  ∀ (n : Fin 4) (b : List Byte) (s : State), s.dev.listens = true → s.dev.feed.d3hot = false → b.length ≤ 8220 →
    let m := Msg.decode (padTo 8220 b)
    let d := s.dev.putArea (mbReq n.val) b
    let e := (d.mbSet n.val stReqBusy).request { port := .mbox n, ip := 0, udp := 0 } m s.store
    (bitAt (s.dev.bar2 (mbStatus n.val)) stReqBusy = true → exec (.mbnDoorbell n b 1) s = .next s) ∧
    (bitAt (s.dev.bar2 (mbStatus n.val)) stReqBusy = false →
      (∀ k, dropCounter m = some k → exec (.mbnDoorbell n b 1) s = .next { s with dev := (d.bump k).mbSet n.val stCrcError }) ∧
      (dropCounter m = none → exec (.mbnDoorbell n b 1) s = .next { s with dev := e, store := storeAfter s.dev e s.store })) ∧
    ∀ v : Word32, v &&& 0x1E = v →
      exec (.mbnClear n v none) s = .next { s with dev := s.dev.mbClearBits n.val v.toNat }

/-- R112, R115: in a mode that allows it, a session reserves a free entry for itself with 0x0600 plus its number, and
releases its own reservation with 0; the write is recorded with the old and the new value. Any other value is refused with
RANGE, and the release of an active feature's claim with RESOURCE_BUSY. -/
def Obligations.OwnerEntriesReserveAndRelease : Prop :=
  ∀ (r : Req) (index : Word16) (sub : Byte) (v : Word16) (s : State),
    let q := r.write index.toNat sub.toNat
    let k := key index.toNat sub.toNat
    s.dev.Admits q → isOwnerEntry index.toNat sub.toNat = true → s.dev.writeForbidden index.toNat sub.toNat v.toNat = false →
    let mine := 0x0600 + r.session.toNat
    let d := s.dev.heard q
    (s.dev.get k = 0 ∧ v.toNat = mine ∨ s.dev.get k = mine ∧ v = 0 →
      exec (.ownerEntryWrite r index sub v) s = .next { s with dev :=
        ((d.noteWrite q (le 2 (d.get k)) (le 2 v.toNat)).put k v.toNat).done q }) ∧
    (v = 0 → s.dev.get k ≠ mine → s.dev.get k / 256 ≠ 8 → s.dev.ownerIdle k = true → ∃ t,
      exec (.ownerEntryWrite r index sub v) s = .next t ∧ t.store = s.store ∧ t.dev.get k = 0) ∧
    (v = 0 → s.dev.get k ≠ 0 → s.dev.get k ≠ mine → s.dev.ownerIdle k = false →
      exec (.ownerEntryWrite r index sub v) s = .next { s with dev := d.refuse q .resourceBusy }) ∧
    (v ≠ 0 → v.toNat ≠ mine →
      exec (.ownerEntryWrite r index sub v) s = .next { s with dev := d.refuse q .range })

/-- R92, R93, R94: with every arm check passing, ARM takes SETUP to READY and END_SERVICE takes SERVICE to READY once
recovery is complete; with the interlocks safe too, START takes READY to WRITE for an accepted job, MEND takes READY to
MEND when deficits are pending, and MEASURE claims its contexts and takes READY to MEASURE. R96: with an arm check failing,
ARM, START, MEASURE and END_SERVICE are refused with CHECK where nothing else stops them first, no mode changes, and 0x2001
reports the number of the first check that failed. -/
def Obligations.ArmedTransitions : Prop :=
  (∀ (r : Req) (s : State), s.dev.Admits (r.write 0x2001 0) → s.dev.armFailure = 0 →
    (s.dev.mode = .setup →
      exec (.arm r) s = .next { s with dev := s.dev.modeCommanded r 0x01 (Dev.changeMode 1 .ready) }) ∧
    (s.dev.mode = .service → s.dev.get Obj.RECOVERY_STATE = 0 ∨ s.dev.get Obj.RECOVERY_STATE = 4 →
      exec (.endService r) s = .next { s with dev := s.dev.modeCommanded r 0x0C (Dev.changeMode 1 .ready) }) ∧
    (s.dev.mode = .ready → s.dev.get Obj.JOB_STATE = 2 → s.dev.interlocksSafe = true →
      exec (.start r) s = .next { s with dev := s.dev.modeCommanded r 0x03 (Dev.changeMode 1 .write) }) ∧
    (s.dev.mode = .ready → s.dev.jobOpen = true → s.dev.mendable ≠ [] → s.dev.interlocksSafe = true →
      s.dev.mendAreaBad s.store = false →
      exec (.mend r) s = .next { s with dev := s.dev.modeCommanded r 0x08 fun d => (d.changeMode 1 .mend).startPass }) ∧
    (s.dev.mode = .ready → s.dev.interlocksSafe = true → s.dev.measureFails s.store = false →
      s.dev.measureColumns.length ≤ s.dev.freePool.length →
      exec (.measure r) s = .next { s with dev := s.dev.modeCommanded r 0x09 (Dev.measure s.store) })) ∧
  ∀ (r : Req) (s : State), s.dev.Admits (r.write 0x2001 0) → s.dev.armFailure ≠ 0 →
    let refused (code : Nat) := State.mk s.pending s.store
      (((s.dev.heard (r.write 0x2001 0)).put Obj.MODE_COMMAND (code * 0x1000000 + 0x10000 + s.dev.armFailure)).refuse
        (r.write 0x2001 0) .check)
    (s.dev.mode = .setup → exec (.arm r) s = .next (refused 0x01)) ∧
    (s.dev.mode = .ready → s.dev.get Obj.JOB_STATE = 2 → exec (.start r) s = .next (refused 0x03)) ∧
    (s.dev.mode = .ready → s.dev.measureColumns.length ≤ s.dev.freePool.length →
      exec (.measure r) s = .next (refused 0x09)) ∧
    (s.dev.mode = .service → s.dev.get Obj.RECOVERY_STATE = 0 →
      exec (.endService r) s = .next (refused 0x0C))

/-- R93: DISARM takes READY to SETUP when no job is open; HOLD takes WRITE and MEND to HOLD and notes where it came from;
RESUME with the interlocks safe and no WARN goes back there; SERVICE takes READY to SERVICE, DIAGNOSE takes SETUP to
TEST, END_TEST takes TEST to SERVICE or SETUP, and ENTER_SAFE takes any mode from WAKE to SERVICE to SAFE with
BLANK_ALL_N asserted (in WAKE, R102 refuses it). -/
def Obligations.PlainTransitions : Prop :=
  ∀ (r : Req) (s : State), s.dev.Admits (r.write 0x2001 0) →
    (s.dev.mode = .ready → s.dev.jobOpen = false →
      exec (.disarm r) s = .next { s with dev := s.dev.modeCommanded r 0x02 (Dev.changeMode 1 .setup) }) ∧
    (s.dev.mode = .write → exec (.hold r) s
      = .next { s with dev := s.dev.modeCommanded r 0x04 fun d => (d.changeMode 1 .hold).put Obj.HOLD_ORIGIN 7 }) ∧
    (s.dev.mode = .mend → exec (.hold r) s
      = .next { s with dev := s.dev.modeCommanded r 0x04 fun d => (d.changeMode 1 .hold).put Obj.HOLD_ORIGIN 9 }) ∧
    (s.dev.mode = .hold → s.dev.interlocksSafe = true → s.dev.warnPresent = false → exec (.resume r) s
      = .next { s with dev := s.dev.modeCommanded r 0x05 fun d =>
          (d.changeMode 1 (if s.dev.get Obj.HOLD_ORIGIN = 9 then .mend else .write)).put Obj.HOLD_ORIGIN 0 }) ∧
    (s.dev.mode = .ready →
      exec (.service r) s = .next { s with dev := s.dev.modeCommanded r 0x0B (Dev.changeMode 1 .service) }) ∧
    (s.dev.mode = .setup → s.dev.jobOpen = false →
      exec (.diagnose r) s = .next { s with dev := s.dev.modeCommanded r 0x0D (Dev.changeMode 1 .test) }) ∧
    (s.dev.mode = .test → s.dev.get Obj.DIAG_STATE ≠ 1 → exec (.endTest r) s
      = .next { s with dev := s.dev.modeCommanded r 0x0E fun d =>
          if s.dev.jobOpen then d.changeMode 1 .service else (d.changeMode 1 .setup).startRead none }) ∧
    (s.dev.mode.canSafe = true → s.dev.mode ≠ .wake →
      exec (.enterSafe r) s = .next { s with dev := s.dev.modeCommanded r 0x10 fun d => (d.changeMode 1 .safe).blankAll })

/-- R97, R98, R93: PAUSE in WRITE, MEND or HOLD sets a pending pause and changes no mode while a stripe shoots; STOP in
HOLD ends every stripe at its present shot and goes to READY; END_MEASURE takes MEASURE to READY; RELEASE in SAFE answers
and then resets the main die by source 7 with cause 4. -/
def Obligations.PauseStopAndRelease : Prop :=
  ∀ (r : Req) (s : State), s.dev.Admits (r.write 0x2001 0) →
    (s.dev.mode = .write ∨ s.dev.mode = .mend ∨ s.dev.mode = .hold → exec (.pause r) s
      = .next { s with dev := s.dev.modeCommanded r 0x06 fun d => (d.put Obj.PAUSE_PENDING 1).pauseIfIdle }) ∧
    (s.dev.mode = .hold → exec (.stop r) s = .next { s with dev := s.dev.modeCommanded r 0x07 fun d =>
        let e := d.changeMode 1 .ready
        ((e.each d.stripes Dev.stopStripe).settlePass).pauseIfIdle }) ∧
    (s.dev.mode = .measure →
      exec (.endMeasure r) s = .next { s with dev := s.dev.modeCommanded r 0x0A (Dev.endMeasure 1) }) ∧
    ∀ confirmed, s.dev.mode = .safe → ∃ t, exec (.release r confirmed) s = .next t ∧
      t.dev = (s.dev.modeCommanded r 0x0F id).mainReset 7 4 confirmed ∧ t.dev.mode = .keep ∧ t.pending = s.pending

/-- R99: a change of mode sets the mode and, while the recorder queue has room, queues MODE_CHANGE with the old mode,
the new mode, the cause and bits [31:0] of SSN_NEXT; leaving WRITE, MEND or HOLD, and entering SAFE, is journalled first
while a job is open. Objects stay, but for what SAFE stops and what the end of MEASURE releases. -/
def Obligations.ModeChangeIsRecorded : Prop :=
  ∀ (cause : Nat) (m : Mode) (d : Dev),
    (d.changeMode cause m).mode = m ∧
    (m ≠ .safe → d.recorder.queue.length < 1024 → ∃ x,
      (d.changeMode cause m).recorder.queue = d.recorder.queue ++ [x] ∧ x.code = 0x0201 ∧ x.source = 0 ∧
      x.params = [d.mode.code, m.code, cause % 2 ^ 32, d.ssnNext % 2 ^ 32]) ∧
    (∀ j, d.ledger.job = some j → d.mode = .write ∨ d.mode = .mend ∨ d.mode = .hold ∨ m = .safe →
      (d.changeMode cause m).ledger.entries = d.ledger.entries
        ++ [⟨0x0201, j.id % 2 ^ 16, d.ssnNext, .event [d.mode.code, m.code, cause, d.ssnNext % 2 ^ 32] []⟩]) ∧
    (m ≠ .safe → d.mode ≠ .measure → d.recorder.queue.length < 1024 → (d.changeMode cause m).objs = d.objs)

/-- R103: in TEST with no diagnostic running, DIAG_COMMAND starts the diagnostic of its code: STATE 1, LAST the code,
no result yet; STORE also clears its counts and needs a range of whole 64-byte bursts in the populated store. R93, R101: soak
ends in SETUP with no job open, in SERVICE with one, and in SAFE when a step fails, with 0xF001 holding the result. In TEST each of the
five diagnostics completes with its result in 0xF001: SOAK by soak's steps, ENGINES and LANES by the parts
that failed (LANES fails with any lane, the model's choice, log entry 92), STORE by its errors, with zeros in the range it
marched over, KEEPER by its areas and records. Boot ends in TEST with soak running, and in SAFE without a valid firmware image
or with a keeper record that fails its check. -/
def Obligations.DiagnosticsStartAndComplete : Prop :=
  (∀ (r : Req) (s : State), let q := r.write 0xF000 0
    s.dev.Admits q → s.dev.mode = .test → s.dev.get Obj.DIAG_STATE ≠ 1 →
    let starts (v : Nat) (d : Dev) :=
      ((((d.put Obj.DIAG_COMMAND v).put Obj.DIAG_STATE 1).put Obj.LAST v).put Obj.DIAG_RESULT 0).put Obj.FAILED_STEP 0
    exec (.diagSoak r) s = .next { s with dev := s.dev.commanded q 1 1 (starts 1) } ∧
    exec (.diagEngines r) s = .next { s with dev := s.dev.commanded q 1 2 (starts 2) } ∧
    exec (.diagLanes r) s = .next { s with dev := s.dev.commanded q 1 3 (starts 3) } ∧
    exec (.diagKeeper r) s = .next { s with dev := s.dev.commanded q 1 5 (starts 5) } ∧
    (s.dev.get Obj.TEST_ADDR % 64 = 0 → s.dev.get Obj.TEST_LENGTH % 64 = 0 →
      s.dev.populated (s.dev.get Obj.TEST_ADDR) (s.dev.get Obj.TEST_LENGTH) = true →
      exec (.diagStore r) s = .next { s with dev := s.dev.commanded q 1 4 fun d =>
        { (((starts 4 d).put Obj.TEST_ERRORS 0).put Obj.FIRST_ERROR 0).put Obj.TEST_DONE_BYTES 0 with
          march := (s.dev.get Obj.TEST_ADDR, s.dev.get Obj.TEST_LENGTH) } })) ∧
  (∀ (t : SelfTest) (s : State), s.dev.mode = .test → s.dev.soaking = true →
    let step := (s.dev.soakSteps t).1
    let d := { (s.dev.soakSteps t).2.diagResult (decide (step ≠ 0)) step t.duration with soaking := false }
    (step ≠ 0 → exec (.soakResult t) s = .next { s with dev := d.enterSafe 8 }) ∧
    (step = 0 → d.jobOpen = true → exec (.soakResult t) s
      = .next { s with dev := { d.changeMode 8 .service with rescue := { d.rescue with at_ := d.clock.raw } } }) ∧
    (step = 0 → d.jobOpen = false →
      exec (.soakResult t) s = .next { s with dev := (d.changeMode 8 .setup).startRead none })) ∧
  (∀ s : State, s.dev.mode = .test → s.dev.soaking = false → s.dev.get Obj.DIAG_STATE = 1 →
    (∀ t : SelfTest,
      let done (d : Dev) := exec (.diagDone (.parts t)) s = .next { s with dev := d }
      let engines := t.engines.map Fin.val
      let lanes := t.lanes.map Fin.val
      let returns := t.returns.map Fin.val
      (s.dev.get Obj.LAST = 1 → let step := (s.dev.soakSteps t).1
        done ((s.dev.soakSteps t).2.diagResult (decide (step ≠ 0)) step t.duration)) ∧
      (s.dev.get Obj.LAST = 2 → done ((s.dev.soakEngines true engines).diagResult (! t.engines.isEmpty) 0 t.duration)) ∧
      (s.dev.get Obj.LAST = 3 → done ((s.dev.soakLanes lanes returns).diagResult (! t.lanes.isEmpty || ! t.returns.isEmpty)
        (if noEchoLeft returns then 4 else 0) t.duration))) ∧
    (∀ duration, s.dev.get Obj.LAST = 4 →
      let d := ((s.dev.put Obj.TEST_ERRORS 0).put Obj.FIRST_ERROR 0).put Obj.TEST_DONE_BYTES s.dev.march.2
      exec (.diagDone (.store [] duration)) s
        = .next { s with dev := d.diagResult false 0 duration, store := clearRange s.dev.march.1 s.dev.march.2 s.store }) ∧
    (∀ errors duration, s.dev.get Obj.LAST = 4 → errors ≠ [] → ∃ t, exec (.diagDone (.store errors duration)) s = .next t ∧
      t.pending = s.pending ∧ t.dev.get Obj.DIAG_STATE = 2 ∧ t.dev.get Obj.DIAG_RESULT = 2 ∧
      t.dev.get Obj.DURATION = duration) ∧
    ∀ areas records duration, s.dev.get Obj.LAST = 5 → areas < 65536 → records < 2 ^ 32 →
      let failed := decide (areas ≠ 0 ∨ records ≠ 0)
      let d := (s.dev.put Obj.AREAS_FAILED areas).put Obj.RECORDS_FAILED records
      exec (.diagDone (.keeper areas records duration)) s = .next { s with dev := d.diagResult failed 0 duration }) ∧
  ∀ (slotA slotB records : Bool) (s : State), s.dev.mode = .wake →
    let d := s.dev.bootSlot slotA slotB
    ((slotA = true ∨ slotB = true) → records = true →
      let e := (((d.scanJournal.decideContents false s.store).scanDone).each (List.range 12) Dev.loadCal).setFromBackup
      let f := { e.changeMode 7 .test with soaking := true }
      exec (.endOfBoot slotA slotB records) s
        = .next { s with dev := ((f.put Obj.DIAG_STATE 1).put Obj.LAST 1).tryUnblank }) ∧
    ((slotA = false ∧ slotB = false ∨ records = false) →
      exec (.endOfBoot slotA slotB records) s = .next { s with dev := d.enterSafe 7 })

/-- R105 to R108, R111, R614: JOB_ACCEPT in READY with no job open claims every free pool context and sets JOB_STATE to 1;
an acceptance that runs ends by the first test of R156 that fails, or opens the job; JOB_CLOSE closes it. -/
def Obligations.JobsAcceptAndClose : Prop :=
  (∀ (r : Req) (s : State), let q := r.write 0x2014 0
    s.dev.Admits q → s.dev.mode = .ready → s.dev.jobOpen = false → s.dev.get Obj.JOB_STATE ≠ 1 → s.dev.freePool ≠ [] →
    exec (.jobAccept r) s = .next { s with dev := s.dev.commanded q 4 1 (Dev.startAcceptance s.store) }) ∧
  (∀ s : State, s.dev.get Obj.JOB_STATE = 1 →
    let p := s.dev.offered
    let d := if s.dev.get Obj.MAP_ON = 1 then s.dev.put Obj.MAP_LENGTH (p.mapLength s.store % 2 ^ 64) else s.dev
    let ends (e : Dev) := exec .jobAccepted s = .next { s with dev := e }
    (d.storeRangeBad s.store p = true → ends (d.reject 4 0 0 0xFFFFFFFF 0xFFFFFFFF)) ∧
    (d.storeRangeBad s.store p = false → d.moduleBad = true → ends (d.reject 3 0 0 0xFFFFFFFF 0xFFFFFFFF)) ∧
    (d.storeRangeBad s.store p = false → d.moduleBad = false →
      (∀ f, p.fault s.store (d.get Obj.KLF_VERSION) = some f → ends (d.rejectPackage f)) ∧
      (p.fault s.store (d.get Obj.KLF_VERSION) = none →
        let e := d.fillCells s.store p
        let rate := p.admission s.store (e.get Obj.SEAM_MODE) (e.get Obj.SEAM_OVERLAP) (e.get Obj.JOB_SHOT_RATE)
          (e.get Obj.ADMISSION_SHARE)
        (∀ cell bytes, firstUnfit (e.get Obj.CAPACITY) 0 (d.library s.store p) = some (cell, bytes) →
          ends (e.rejectCells s.store p cell bytes)) ∧
        (firstUnfit (e.get Obj.CAPACITY) 0 (d.library s.store p) = none →
          (∀ stripe row most, rate = some (stripe, row, most) → ends (e.reject 1 0 most stripe row)) ∧
          (rate = none → ends (e.openJob s.store p)))))) ∧
  ∀ (r : Req) (s : State), let q := r.write 0x2016 0
    s.dev.Admits q → s.dev.mode = .ready → s.dev.jobOpen = true →
    exec (.jobClose r) s = .next { s with dev := s.dev.commanded q 4 1 Dev.closeJob }

/-- R64 to R66: a network port's link state follows its link unless the port is disabled, and without a link it hears no PTP
master (R514); a request for an address of the
port, on a link that is up with an accepted tag, is answered with the port's MAC address or with the echoed data, and a
request for another address is not answered. -/
def Obligations.NetworkPortAnswers : Prop :=
  ∀ (n : Fin 2) (v6 : Bool) (vlan : Option (BitVec 12)) (source target data : List Byte) (s : State), s.dev.running = true →
    (s.dev.get (Obj.NET_MODE n.val) ≠ 2 →
      exec (.networkLinkChange n true) s = .next { s with dev := s.dev.put (Obj.NET_LINK_STATE n.val) 1 }) ∧
    (exec (.networkLinkChange n false) s = .next { s with dev := { s.dev.put (Obj.NET_LINK_STATE n.val) 0 with
      clock := { s.dev.clock with masters := s.dev.clock.masters.filter fun m => decide (m.port ≠ n.val) } } }) ∧
    (s.dev.get (Obj.NET_LINK_STATE n.val) = 1 → s.dev.vlanOk n.val vlan = true →
      (s.dev.ownAddress n.val v6 target = true →
        exec (.addressResolutionRequest n vlan v6 source target) s
          = .next { s with dev := s.dev.send (.resolution n.val v6 source target (s.dev.macOf n.val)) } ∧
        (echoFrame vlan.isSome v6 data.length ≤ 9216 → exec (.echoRequest n vlan v6 source target data) s
          = .next { s with dev := s.dev.send (.echoReply n.val v6 source data) })) ∧
      (s.dev.ownAddress n.val v6 target = false →
        exec (.addressResolutionRequest n vlan v6 source target) s = .next s ∧
        exec (.echoRequest n vlan v6 source target data) s = .next s))

/-! ### Host feed: 05_host_feed -/

/-- R164, R166, R182: a write of ENABLE 1 to an idle channel without ERR sets CHn_CTRL and makes the transfer active, which
stops with CONFIG where R166 says so; while ERR is 1 the write is ignored. R163, R177, R178: a write that sets PAUSE in an
enabled channel leaves it not ready, and clearing PAUSE only clears the bit. R171: a shadow that PAUSE held back at FULL is
loaded by the write that clears PAUSE, with ENABLE or without. ENABLE 0 leaves a paused channel idle with its registers and
shadow, and is ignored while the channel is not paused. -/
def Obligations.ChannelControlWrites : Prop :=
  ∀ (ch : Fin 32) (v : Word32) (s : State), s.dev.hears = true →
    let c := s.dev.dma ch.val
    let on := setBit v.toNat 0 true &&& ctrlMask
    let paused := setBit v.toNat 1 true &&& ctrlMask
    let going := setBit v.toNat 1 false &&& ctrlMask
    let off := setBit v.toNat 0 false &&& ctrlMask
    (c.enable = false → c.err = false → c.held = false ∨ bitAt on 1 = true → exec (.channelEnable ch v) s
      = .next { s with dev := (s.dev.setDma ch.val { c with ctrl := on, held := false }).activate ch.val }) ∧
    (c.enable = false → c.err = false → c.held = true → bitAt on 1 = false → exec (.channelEnable ch v) s
      = .next { s with dev := (s.dev.setDma ch.val { c with ctrl := on }).loadShadow ch.val }) ∧
    (c.enable = false → c.err = true → exec (.channelEnable ch v) s = .next s) ∧
    (c.enable = true → bitAt v.toNat 0 = true → ∃ t, exec (.channelPause ch v) s = .next t ∧
      t.dev = (s.dev.setDma ch.val (DmaChannel.paced { c with ctrl := paused })).requestAhead ch.val ∧
      (t.dev.dma ch.val).ready = false ∧ t.store = s.store) ∧
    (c.enable = true → bitAt v.toNat 0 = true →
      let d := s.dev.setDma ch.val (DmaChannel.paced { c with ctrl := going })
      exec (.channelUnpause ch v) s = .next { s with dev := d.requestAhead ch.val }) ∧
    (c.enable = false → c.held = true → bitAt v.toNat 0 = false → exec (.channelUnpause ch v) s
      = .next { s with dev := (s.dev.setDma ch.val { c with ctrl := going }).loadShadow ch.val }) ∧
    (c.enable = true → c.paused = true → c.wait = none →
      let d := s.dev.setDma ch.val { c with ctrl := off, held := false }
      exec (.channelDisable ch v) s = .next { s with dev := d.onDma ch.val DmaChannel.paced }) ∧
    (c.enable = true → c.paused = false → exec (.channelDisable ch v) s = .next s)

/-- R163, R165, R170, R172, R176: CHn_STAT's W1C bits clear, ERR with ERRCODE; CHn_RELEASE subtracts whole 64-byte steps
from FILL, which stops at 0 and records RELEASE_EXCESS beyond it; CHn_LEN, after the writes that come before it, sets the length
and fixes the half point while the active set is open and is ignored otherwise; the shadow set is written while VALID is 0 and not while it is 1. -/
def Obligations.ChannelRegisterWrites : Prop :=
  ∀ (ch : Fin 32) (v : Word32) (s : State), s.dev.hears = true →
    let c := s.dev.dma ch.val
    let n := v.toNat / 64 * 64
    let w1c := c.stat - (c.stat &&& v.toNat &&& 0xF000)
    let stat := if bitAt v.toNat 15 then w1c % 2 ^ 28 else w1c
    exec (.chnStatClear ch v) s = .next { s with dev := s.dev.setDma ch.val { c with stat := stat } } ∧
    (n ≤ c.fill →
      let d := s.dev.setDma ch.val (DmaChannel.paced { c with fill := c.fill - n })
      exec (.chnRelease ch v) s = .next { s with dev := d }) ∧
    (c.fill < n →
      let d := s.dev.setDma ch.val (DmaChannel.paced { c with fill := 0 })
      exec (.chnRelease ch v) s = .next { s with dev := d.raise srcHost 0x0E07 [ch.val, n - c.fill] }) ∧
    (∀ before : List Bar0Write,
      let d := s.dev.each before fun w d => d.bar0Write w.offset w.value.toNat
      let e := d.dma ch.val
      let loaded := { e with len := v.toNat, total := v.toNat, half := (v.toNat + 127) / 128 * 64, moved := 0 }
      (e.busy = false ∨ e.paused = true → e.wait = none →
        exec (.chnLenWrite before ch v) s = .next { s with dev := d.setDma ch.val loaded }) ∧
      (e.busy = true → e.paused = false → exec (.chnLenWrite before ch v) s = .next { s with dev := d })) ∧
    (bitAt c.nctrl 0 = false →
      let high (r : Nat) := v.toNat * 2 ^ 32 + r % 2 ^ 32
      let low (r : Nat) := r / 2 ^ 32 * 2 ^ 32 + v.toNat
      exec (.shadowWrite ch 0 v) s = .next { s with dev := s.dev.setDma ch.val { c with nsrc := low c.nsrc } } ∧
      exec (.shadowWrite ch 1 v) s = .next { s with dev := s.dev.setDma ch.val { c with nsrc := high c.nsrc } } ∧
      exec (.shadowWrite ch 2 v) s = .next { s with dev := s.dev.setDma ch.val { c with ndst := low c.ndst } } ∧
      exec (.shadowWrite ch 3 v) s = .next { s with dev := s.dev.setDma ch.val { c with ndst := high c.ndst } } ∧
      exec (.shadowWrite ch 4 v) s = .next { s with dev := s.dev.setDma ch.val { c with nlen := v.toNat } } ∧
      exec (.shadowWrite ch 5 v) s = .next { s with dev := s.dev.setDma ch.val { c with nctrl := v.toNat &&& nctrlMask } }) ∧
    (bitAt c.nctrl 0 = true → ∀ dword, exec (.shadowWrite ch dword v) s = .next s)

/-- R173: the channel that gets the next unit is ready, and no ready channel whose translation is known has a higher
PRIO. R167: a unit never passes a 256-byte boundary of the host-side address, the end of a window or the end of LEN, and is
never empty while bytes remain. -/
def Obligations.UnitsAreArbitratedAndBounded : Prop :=
  (∀ (d : Dev) (ch : Nat), d.arbitrate = some ch →
    ch < 32 ∧ (d.dma ch).ready = true ∧
    ∀ m, m < 32 → (d.dma m).ready = true → d.translated m = true → (d.dma m).prio ≤ (d.dma ch).prio) ∧
  ∀ h s d len ks kd : Nat,
    unitLength h s d len ks kd ≤ len ∧ h % 256 + unitLength h s d len ks kd ≤ 256 ∧
    (ks ≠ 0 → s % 2 ^ (ks + 11) + unitLength h s d len ks kd ≤ 2 ^ (ks + 11)) ∧
    (kd ≠ 0 → d % 2 ^ (kd + 11) + unitLength h s d len ks kd ≤ 2 ^ (kd + 11)) ∧
    (0 < len → 0 < unitLength h s d len ks kd)

/-- R168, R173, R184: once units that waited have retired and the translations ahead are requested, an allowed unit of the
channel that wins arbitration is issued whole, without ATS at its address and with ATS at the translated one: SRC and DST
advance by its length within their windows, LEN falls by it, and it joins the units in flight; under DIR 0 a memory read
is sent. R183: a unit whose store range is not allowed is not issued, and the channel stops at it. -/
def Obligations.UnitIssueAdvancesTheActiveSet : Prop :=
  ∀ (ch bus page : Nat) (s : State), s.dev.running = true → s.dev.feed.d3hot = false →
    let w := s.dev.settle s.store
    let d0 := w.2.each (List.range 32) fun n d => d.requestAhead n
    let c := d0.dma ch
    let n := c.nextLength
    let u : DmaUnit := { host := c.hostSide, src := c.src, dst := c.dst, len := n, page := page, bus := bus,
                         up := c.dir, old := false, doomed := false, back := false, data := [] }
    let next := { c with src := wrapAdvance c.src n c.srcWrap, dst := wrapAdvance c.dst n c.dstWrap, len := c.len - n,
                         units := c.units ++ [u] }
    let d := (d0.setDma ch next.paced).onFeed fun f => { f with served := Map.put 0 c.prio (ch + 1) f.served }
    let sent := if c.dir then d else d.send (.hostRead ch bus n (d.dmaAttr (decide (page ≠ 0))))
    d0.arbitrate = some ch → c.dir = true ∨ d0.outstanding < 2048 →
    (d0.rangeFault c n = none → (c.ats = false ∧ bus = c.hostSide ∧ page = 0) ∨ (c.ats = true ∧ ∃ t : Translation,
        Map.find d0.feed.cache (c.hostSide / 4096) = some t ∧ (if c.dir then t.write else t.read) = true ∧
        bus = t.target * 4096 + c.hostSide % 4096 ∧ page = c.hostSide / 4096 + 1) →
      exec .unitIssue s = .next { s with store := storeWrite w.1 s.store, dev := sent.tagCandidate 2 (dmaTag ch u) }) ∧
    (∀ code, d0.rangeFault c n = some code →
      exec .unitIssue s = .next { s with store := storeWrite w.1 s.store, dev := d0.failHere ch code })

/-- R169, R170: the only unit in flight of a DIR 0 channel comes back with its data, into populated pages that take it:
the data is in the store from the unit's destination on, FILL and the retired prefix grow by it, and where the transfer
does not end with it the channel shows no FULL. The only unit of a DIR 1 channel, once its read of the store is done, is posted
to the host with the store's bytes, or fails where a page of it awaits its refetch (R483). R180, R181: a status other than Successful Completion, poisoned
data, and a completion timeout where the host has not disabled it, fail the unit: nothing is written, and the channel stops
there by R181. -/
def Obligations.UnitRetiresOrFails : Prop :=
  ∀ (ch : Fin 32) (u : DmaUnit) (b : List Byte) (s : State),
    let c := s.dev.dma ch.val
    let gone (code : Nat) :=
      DmaChannel.paced { c with units := [], failed := some ⟨code, u.host, u.src, u.dst, c.total - c.moved⟩ }
    let abandoned (code : Nat) := (s.dev.setDma ch.val (gone code)).tagAbandon 2 fun i =>
      [dmaTag ch.val u].any fun g => i = padTo 24 g
    let failed (code : Nat) := ((abandoned code).stopChan ch.val).endInvalidates
    s.dev.running = true → c.units = [u] → u.back = false → u.doomed = false →
    (u.up = false → b.length = u.len → c.failed = none → c.moved + u.len < c.total → s.dev.populated u.dst u.len = true →
      ((pagesOf u.dst u.len).all fun p => s.dev.pageTakes p) = true →
      ∃ t, exec (.unitRetire ch 0 (.data b)) s = .next t ∧ t.store = storeWrite [(u.dst, b)] s.store ∧
        (t.dev.dma ch.val).units = [] ∧ (t.dev.dma ch.val).fill = (c.fill + u.len) % 2 ^ 64 ∧
        (t.dev.dma ch.val).moved = c.moved + u.len ∧ bitAt (t.dev.dma ch.val).stat 14 = bitAt c.stat 14 ∧
        t.dev.mode = s.dev.mode ∧ t.pending = s.pending) ∧
    (u.up = true → s.dev.awaits u.src u.len = false → c.failed = none → c.moved + u.len < c.total →
      ∃ t, exec (.unitRetire ch 0 .posted) s = .next t ∧ t.store = s.store ∧ (t.dev.dma ch.val).units = [] ∧
        (t.dev.dma ch.val).moved = c.moved + u.len ∧
        Out.hostWrite ch.val u.bus (Map.gets 0 s.store u.src u.len) (s.dev.dmaAttr (decide (u.page ≠ 0))) ∈ t.dev.out) ∧
    (u.up = true → s.dev.awaits u.src u.len = true → exec (.unitRetire ch 0 .posted) s = .next { s with dev := failed 9 }) ∧
    (u.up = false → exec (.unitRetire ch 0 .status) s = .next { s with dev := failed 1 }) ∧
    (u.up = false → exec (.unitRetire ch 0 .poison) s = .next { s with dev := failed 2 }) ∧
    (u.up = false → bitAt s.dev.feed.deviceControl2 4 = false → exec (.cplTimeout ch 0) s = .next { s with dev := failed 3 })

/-- R181: a failed channel with nothing in flight takes the failed unit's addresses, the bytes to the end of the transfer
and the host-side address, shows ERR with ERRCODE, clears ENABLE, counts and records DMA_ERROR and sends its vector;
CHn_DONECNT and the shadow stay. -/
def Obligations.FailedChannelStopsAtTheUnit : Prop :=
  ∀ (ch : Nat) (e : DmaFailure) (d : Dev), (d.dma ch).units = [] → (d.dma ch).failed = some e → e.code < 16 →
    let c := (d.stopChan ch).dma ch
    c.src = e.src ∧ c.dst = e.dst ∧ c.len = e.left ∧ c.errAddr = e.host ∧ c.err = true ∧ c.stat / 2 ^ 28 = e.code ∧
    c.enable = false ∧ c.doneCount = (d.dma ch).doneCount ∧ c.nctrl = (d.dma ch).nctrl ∧ c.nsrc = (d.dma ch).nsrc ∧
    c.ndst = (d.dma ch).ndst ∧ c.nlen = (d.dma ch).nlen ∧ c.fill = (d.dma ch).fill ∧
    ∀ m, m ≠ ch → (d.stopChan ch).dma m = d.dma m

/-- R184, R186, R187: a requested translation enters the cache where no channel waits for it; a PRG Response with Success
has the page's translation requested again; Response Failure halts Page Requests and stops the channel with XLATE_FAIL,
and Invalid Request stops it; PRI_TIMEOUT without a response sends vector 36 and stops it with XLATE_TIMEOUT, and a later response of that index is discarded. -/
def Obligations.TranslationWaitsEnd : Prop :=
  ∀ (ch : Fin 32) (w : DmaWait) (s : State), s.dev.running = true → (s.dev.dma ch.val).wait = some w → w.answered = false →
    (∀ page target read write, s.dev.feed.asked.contains page = true → s.dev.answeredFor page = [] →
      exec (.translationCompletion page target read write) s
        = .next { s with dev := s.dev.onFeed (HostFeed.cacheIn page ⟨target, read, write⟩) }) ∧
    (s.dev.feed.discard.contains ch.val = false →
      let d := s.dev.setDma ch.val { s.dev.dma ch.val with wait := some { w with answered := true } }
      let again := d.onFeed fun f =>
        { f with cache := Map.erase w.page f.cache, asked := f.asked.filter (fun p => p ≠ w.page) ++ [w.page] }
      exec (.prgResponse ch.val .success) s = .next { s with dev := again.send (.translationRequest w.page) } ∧
      exec (.prgResponse ch.val .invalid) s = .next { s with dev := s.dev.failHere ch.val errXlateFail } ∧
      exec (.prgResponse ch.val .failure) s = .next { s with dev :=
        (s.dev.onFeed fun f => { f with priHalted := true }).failHere ch.val errXlateFail }) ∧
    (s.dev.feed.discard.contains ch.val = true → let d := s.dev.onFeed fun f => { f with discard := f.discard.erase ch.val }
      ∀ code, exec (.prgResponse ch.val code) s = .next { s with dev := d }) ∧
    ∀ raw x, (s.dev.at raw).running = true → ((s.dev.at raw).dma ch.val).wait = some x → x.answered = false →
      x.last + (s.dev.at raw).get Obj.PRI_TIMEOUT * 1000000 ≤ (s.dev.at raw).clock.raw →
      let d := (s.dev.at raw).onFeed fun f => { f with discard := f.discard ++ [ch.val] }
      exec (.priTimeout ch raw) s = .next { s with dev := (d.vector 36).failHere ch.val errXlateTimeout }

/-- R189: an Invalidate Request with nothing in flight drops the range's translations and is completed and counted. R190: a
reset of the HOST island returns its registers to reset, counts in HOST_RESETS, and leaves the other islands as they are.
R160, R186, R191: a refused BAR0 access is counted, a read of it completed as unsupported; the link comes up with
LINK_UP; an uncorrectable error is recorded with vector 36; configuration space enables PRI. -/
def Obligations.LinkEventsAndHostReset : Prop :=
  ∀ s : State, s.dev.running = true →
    (∀ first pages, (∀ c ∈ s.dev.feed.channels, c.2.units = []) → s.dev.feed.invalidates = [] →
      let d := s.dev.onFeed fun f => { f with cache := f.cache.filter fun e => ! decide (first ≤ e.1 ∧ e.1 < first + pages) }
      exec (.invalidateRequest first pages) s
        = .next { s with dev := (d.send (.invalidateCompletion first pages)).bump Obj.INVALIDATIONS }) ∧
    (∀ cause, ∃ t, exec (.hostReset cause) s = .next t ∧ t.dev.feed = HostFeed.reset ∧ t.dev.cop.bar2 = [] ∧
      t.dev.get Obj.FEED_BYTES = 0 ∧ t.dev.stripes = s.dev.stripes ∧ t.dev.conv.rows = s.dev.conv.rows ∧
      t.dev.unfold.parts = s.dev.unfold.parts ∧ t.dev.link = s.dev.link ∧ t.dev.stage = s.dev.stage ∧ t.store = s.store ∧
      (s.dev.jobOpen = false → t.dev.mode = s.dev.mode ∧ t.dev.conv = s.dev.conv)) ∧
    (∀ (speed width : Nat) (flit : Bool), 1 ≤ speed → speed ≤ 6 → [1, 4, 8, 16].contains width = true → speed < 6 ∨ flit = true →
      let f := if flit then 1 else 0
      let d := ((s.dev.put Obj.HOST_SPEED speed).put Obj.HOST_WIDTH width).put Obj.FLIT f
      exec (.linkUp speed width flit) s = .next { s with dev := d.raise srcHost 0x0E06 [speed, width, f] }) ∧
    exec (.bar0Drop false) s = .next { s with dev := s.dev.bump Obj.BAR0_DROPS } ∧
    exec (.bar0Drop true) s = .next { s with dev := (s.dev.bump Obj.BAR0_DROPS).send .unsupportedRequest } ∧
    (∀ status header, let first := if s.dev.feed.aerStatus = 0 then header.toNat else s.dev.feed.aerHeader
      let d := s.dev.onFeed fun f => { f with aerStatus := f.aerStatus ||| status.toNat, aerHeader := first }
      exec (.aerUncorrectable status header) s
        = .next { s with dev := (d.raise srcHost 0x0E08 [status.toNat, header.toNat]).vector 36 }) ∧
    (s.dev.get Obj.PRI_ENABLED = 0 →
      let d := (s.dev.put Obj.PRI_ENABLED 1).onFeed fun f => { f with priHalted := false }
      exec (.configurationSpaceWrite (.pri true)) s = .next { s with dev := d })

/-! ### Expansion and press: 06_expansion, 07_dose_correction -/

/-- R43, R44, R195 to R198: with no pause pending and SSNs left, STRIPE_OPENED opens the next stripe of the mode into its
slot, which an earlier one that still had it leaves: it joins the stripes in progress with the first SSNs that none of them takes and the values that RW-L writes left
for it, which are in effect from then on; 0x3020 shows it, waiting at shot index 0. -/
def Obligations.StripeOpens : Prop :=
  ∀ (kind number slot : Nat) (s : State), s.dev.running = true → s.dev.get Obj.PAUSE_PENDING = 0 →
    s.dev.nextOpening = some (kind, number, slot) →
    let n := s.dev.newStripe s.store kind number slot
    n.ssnBase + n.shots ≤ 2 ^ 48 →
    ∃ t, exec .stripeOpened s = .next t ∧ t.store = s.store ∧ t.pending = s.pending ∧
      t.dev.stripes = (s.dev.stripes.map fun p => if p.slot = slot then { p with slot := 9 } else p) ++ [n] ∧ t.dev.nextEntry = s.dev.nextEntry + n.src.length ∧
      t.dev.eff = s.dev.nextVals ∧ t.dev.effBlobs = s.dev.nextTabs ∧ t.dev.conv.rows = s.dev.conv.rows ∧
      t.dev.get Obj.STRIPE_INDEX = number ∧ t.dev.get Obj.KIND = kind ∧ t.dev.get Obj.SSN_BASE = s.dev.nextBase ∧
      t.dev.get Obj.STRIPE_STATE = 1 ∧ t.dev.get Obj.SHOT_INDEX = 0 ∧ t.dev.get Obj.FIRST_ROWS_READY = 0

/-- R202, R203, R206: a free engine takes up, among the ready real-time units of its class and the refills with a deadline, one
of the earliest deadline, and among equal deadlines the one of the lowest number; the unit is on the engine, and no other
context's state changes. With no real-time unit ready, a decoder takes up a background unit. R204: with every engine of the
class held, a background unit is put down for a real-time one. R205: a unit that reads the store puts its engine down when it
waits, and its context awaits the data with the tile's earlier blocks. -/
def Obligations.EnginesTakeUpTheEarliestDeadline : Prop :=
  (∀ (cls : EngineClass) (n q : Nat) (s : State), let k := classNum cls
    n < engineCount k → s.dev.bestUnit k s.store = some q → ((s.dev.realUnits k s.store).map Prod.snd).Pairwise (· < ·) →
    (∃ dl, (dl, q) ∈ s.dev.realUnits k s.store ∧
      ∀ e ∈ s.dev.realUnits k s.store, dl < e.1 ∨ (dl = e.1 ∧ q ≤ e.2)) ∧
    (s.dev.holder k n = none → ∃ t, exec (.unitTakeUp cls n) s = .next t ∧ t.store = s.store ∧ t.dev.holder k n = some q ∧
      (q < 256 → ∃ c, t.dev.ctx q = some c ∧ c.state = 3) ∧ (∀ m, m ≠ q → t.dev.ctx m = s.dev.ctx m) ∧
      t.dev.unfold.parts = s.dev.unfold.parts ∧ t.dev.mode = s.dev.mode) ∧
    (∀ h, s.dev.holder k n = some h → s.dev.allHeld k = true → s.dev.holdsBackground h s.store = true →
      exec (.unitTakeUp cls n) s
        = .next { s with dev := (s.dev.putDown k n h 2 0 0 s.store).grant k n q s.store })) ∧
  (∀ (n q : Nat) (s : State), n < 16 → s.dev.holder 0 n = none → s.dev.bestUnit 0 s.store = none →
    s.dev.bestBackground s.store = some q → ∃ t, exec (.unitTakeUp .decoder n) s = .next t ∧ t.store = s.store ∧
      t.dev.holder 0 n = some q ∧ t.dev.unfold.parts = s.dev.unfold.parts) ∧
  ∀ (cls : EngineClass) (n q : Nat) (c : Context) (s : State), let k := classNum cls
    s.dev.holder k n = some q → q < 256 → s.dev.ctx q = some c → s.dev.readsStore q c s.store = true →
    ∃ t, exec (.stallRelease cls n) s = .next t ∧ t.store = s.store ∧ t.dev.holder k n = none ∧
      (∃ e, t.dev.ctx q = some e ∧ e.state = 1 ∧ e.downs = c.downs + 1 ∧ e.row = c.row ∧ e.block = c.block ∧
        e.offset = c.offset ∧ e.hist = c.hist) ∧
      (∀ m, m ≠ q → t.dev.ctx m = s.dev.ctx m) ∧ t.dev.unfold.parts = s.dev.unfold.parts

/-- R208 to R210: the rows of a whole tile that expands (not REPEAT, not PRED; every cell that it places is in the cache) are
in the basket with its samples, its SCALE and reason 0, but for rows that are frozen already. R200, R209: so are the rows of a
PRED tile that its block gave; where its block fails (R216, R217), the error's reason and samples 0 are in every row from the
block's first row on. In each the engine is free after it. -/
def Obligations.UnitsReachTheBasket : Prop :=
  ∀ (cls : EngineClass) (n wu q : Nat) (c : Context) (w : Work) (s : State), let k := classNum cls
    s.dev.holder k n = some q → q < 256 → s.dev.ctx q = some c → s.dev.isCheckJob q = false → c.serves = .tiles →
    s.dev.work q c s.store = some w → w.seam = false → w.tile.kind ≠ kRepeat →
    let u := (w.unit c.column s.store).through c
    let put (y : Nat) : Prop := w.st.frozen ≤ y ∧ y < w.st.src.length
    let scale := (w.src.tile s.store c.row c.column).scale
    let ends (rows : State → Prop) : Prop := ∃ t, exec (.unitComplete cls n wu .none) s = .next t ∧ t.store = s.store ∧
      t.dev.holder k n = none ∧ t.dev.mode = s.dev.mode ∧ rows t
    let part (t : State) (v : Nat) := Map.find t.dev.unfold.parts (w.st.partKey (256 * c.row + v) c.column)
    (∀ l, w.tile.kind ≠ kPred → (w.tile.kind = kCell → s.dev.cellMissing u.data = none) →
      wholeTile s.dev.unfold.cells (s.dev.get Obj.CELL_COUNT) w.tile u.data u.a u.b c.seq = .ok l →
      ends fun t => ∀ v, v < 256 → put (256 * c.row + v) →
        part t v = some { samples := (l.drop (256 * v)).take 256, scale := scale, reason := 0 }) ∧
    (w.tile.kind = kPred →
      let block := predBlockFrom c.resume 256 256 w.tile.blocks u.data c.offset c.block u.a u.b c.seq c.hist
      (∀ out next, block = .ok (out, next) → ends fun t => ∀ v, c.rowsDone ≤ v → v < out.length / 256 →
        put (256 * c.row + v) →
        part t v = some { samples := (out.reverse.drop (256 * v)).take 256, scale := scale, reason := 0 }) ∧
      ∀ r, block = .error r → ends fun t => ∀ v, c.rowsDone ≤ v → v < 256 → put (256 * c.row + v) →
        part t v = some { samples := List.replicate 256 0, scale := 0, reason := r })

/-- R212, R229, R232: START of a check job sets the running value by check_start and runs the job; SUSPEND puts it down,
after the unit that is in work; RESUME runs it again; ABORT ends it and releases its context. A unit feeds at most 4 KiB
to the check unit, and the last one compares check_end with EXPECT: 3 match, 4 mismatch; what it has read is released to a
channel whose window holds it (R176; the model's choice, log entry 97). R228: a refill that decodes the cell puts it into the
cache and lets the contexts that waited for it go on. -/
def Obligations.CheckJobsAndRefills : Prop :=
  (∀ (r : Req) (job : Fin 32) (s : State), let q := r.write (0x4200 + job.val) 4
    let j := job.val
    let awaits : Context := { Context.fresh 0 0 with serves := .range, state := 1 }
    let start (d : Dev) : Dev := (((d.put (Obj.RUNNING (128 + j)) (d.checkStart (128 + j))).put (Obj.CHECK_DONE_BYTES j) 0).put
      (Obj.CHECK_RESULT j) 1).setCtx (128 + j) awaits
    let hold (c : Context) (d : Dev) : Dev := d.setCtx (128 + j) { c with held := 2 }
    let suspend (c : Context) (d : Dev) : Dev := (d.setCtx (128 + j) { c with state := 4 }).put (Obj.CHECK_RESULT j) 2
    let resume (d : Dev) : Dev := (d.setCtx (128 + j) awaits).put (Obj.CHECK_RESULT j) 1
    s.dev.Admits q → s.dev.get (Obj.CONTEXT_OWNER j) = 0x0800 + q.session → (∀ v, v ≤ 4 → s.dev.writeForbidden q.index 4 v = false) →
    (s.dev.checkJobResult j ≠ 1 → s.dev.checkJobResult j ≠ 2 → s.dev.get (Obj.CHECK_LENGTH j) ≠ 0 →
      s.dev.populated (s.dev.get (Obj.CHECK_ADDR j)) (s.dev.get (Obj.CHECK_LENGTH j)) = true →
      exec (.checkJobStart r job) s = .next { s with dev := s.dev.commanded q 1 1 start }) ∧
    (∀ c, s.dev.checkJobResult j = 1 → s.dev.ctx (128 + j) = some c →
      (c.state = 3 ∨ 0 < c.downs → exec (.checkJobSuspend r job) s = .next { s with dev := s.dev.commanded q 1 2 (hold c) }) ∧
      (c.state ≠ 3 → c.downs = 0 →
        exec (.checkJobSuspend r job) s = .next { s with dev := s.dev.commanded q 1 2 (suspend c) })) ∧
    (s.dev.checkJobResult j = 2 → exec (.checkJobResume r job) s = .next { s with dev := s.dev.commanded q 1 3 resume }) ∧
    (s.dev.get Obj.DMAP_STATE ≠ 1 → ∃ t, exec (.checkJobAbort r job) s = .next t ∧ t.store = s.store ∧
      t.dev.ctx (128 + j) = none ∧ t.dev.get (Obj.CONTEXT_OWNER j) = 0 ∧
      (s.dev.checkJobResult j = 1 ∨ s.dev.checkJobResult j = 2 → t.dev.get (Obj.CHECK_RESULT j) = 6))) ∧
  (∀ (cls : EngineClass) (n wu j : Nat) (c : Context) (s : State), j < 32 → s.dev.holder (classNum cls) n = some (128 + j) →
    s.dev.ctx (128 + j) = some c → s.dev.isCheckJob (128 + j) = true →
    let fed := s.dev.get (Obj.CHECK_DONE_BYTES j)
    let len := s.dev.get (Obj.CHECK_LENGTH j)
    let b := s.dev.checkUnit (128 + j) c s.store
    let d := ((s.dev.unhold (classNum cls) n).feedCheck (128 + j) (b.drop (c.bitPos / 8))).put (Obj.CHECK_DONE_BYTES j)
      (fed + b.length)
    let code := if d.checkEnd (128 + j) = s.dev.get (Obj.EXPECT j) then 3 else 4
    let ends (e : Dev) := exec (.unitComplete cls n wu .none) s
      = .next { s with dev := e.releaseRead (s.dev.get (Obj.CHECK_ADDR j) + fed) (min 4096 (len - fed)) }
    b.length ≤ 4096 ∧
    (len ≤ fed + b.length → ends ((d.setCtx (128 + j) { c with state := 5, held := 0 }).checkJobDone j code)) ∧
    (fed + b.length < len → c.held ≠ 2 → ends (d.setCtx (128 + j) { c.newUnit with state := 1 })) ∧
    (fed + b.length < len → c.held = 2 →
      ends ((d.setCtx (128 + j) { c with state := 4, held := 0 }).put (Obj.CHECK_RESULT j) 2))) ∧
  ∀ (cell q : Nat) (c : Context) (s : State), (Map.find s.dev.unfold.refills cell).isSome = true →
    (q, c) ∈ s.dev.unfold.contexts → c.state = 4 → c.waits = 2 → c.waitCell = cell →
    (s.dev.cellPackage.cell s.store cell).fail = none →
    ∃ t, exec (.cellRefillDone cell) s = .next t ∧ t.store = s.store ∧
      Map.find t.dev.unfold.cells cell = some (s.dev.cellPackage.cell s.store cell) ∧
      (q, { c with state := 2, waits := 0 }) ∈ t.dev.unfold.contexts ∧ t.dev.unfold.parts = s.dev.unfold.parts

/-- R236: where every factor is off the corrected target is the sample itself, clipped; no target passes 30,720.
R251, R252: ROW_FORMED forms the next row in entry order once the rows it looks at are complete or frozen and the queue has room:
the row joins the queue with R236's clipped targets and its reasons. R245: a grid row that one of two reads returns
correct is kept; one that fails both is counted and recorded, and is known to be missing. -/
def Obligations.PressFormsRows : Prop :=
  (∀ a, target a factorOff factorOff factorOff = min 30720 a) ∧ (∀ a f m w, target a f m w ≤ 30720) ∧
  (∀ (p : Stripe) (s : State), s.dev.nextToForm = some p →
    let y := p.formed
    (∀ i, i < min (y + 32) (p.src.length - 1) + 1 - y →
      s.dev.partsReady p (y + i) = true ∧ (p.kind = 0 → s.dev.edgesReady p (y + i) = true)) →
    s.dev.gridReady p y = true → s.dev.unfold.queue.length < 32 →
    ∃ t, exec .rowFormed s = .next t ∧ t.store = s.store ∧ t.pending = s.pending ∧
      t.dev.unfold.queue = s.dev.unfold.queue ++
        [⟨p.uid, y, (s.dev.pressRow p y).raw.map (min 30720), (s.dev.pressRow p y).reasons⟩] ∧
      t.dev.unfold.parts = s.dev.unfold.parts ∧ t.dev.conv = s.dev.conv ∧ t.dev.mode = s.dev.mode) ∧
  ∀ (stripe gy : Nat) (first second : Bool) (p : Stripe) (s : State),
    (s.dev.stripes.find? fun s => s.kind = 0 ∧ s.number = stripe) = some p → s.dev.get Obj.MAP_ON ≠ 0 →
    gy < gridRows p.src.length → Map.find s.dev.unfold.grid (gridKey p.uid gy) = none →
    let a := s.dev.get Obj.MAP_BASE + s.dev.package.mapOffset s.store stripe + 264 * gy
    let b := storeBytes s.store a 264
    let read := s.dev.access true a 264 s.store
    let twice := read.access true a 264 s.store
    let note (v : Option (List Nat)) (d : Dev) : Dev :=
      d.onUnfold fun u => { u with grid := Map.insert (gridKey p.uid gy) v u.grid }
    let failed (cause : Nat) : Dev :=
      ((note none twice).bump Obj.MAP_FAILURES).raise srcPress 0x0502 [stripe, gy, cause, 64 * (gy - 1)]
    s.dev.awaits a 264 = false →
    (first = true ∨ second = true → gridRowOk stripe gy b = true →
      let d := note (some ((List.range 129).map fun i => field b (2 * i) 2)) (if first then read else twice)
      exec (.mapGridRowFetch stripe gy first second) s = .next { s with dev := d }) ∧
    (gridRowOk stripe gy b = false → exec (.mapGridRowFetch stripe gy first true) s = .next { s with dev := failed 1 }) ∧
    exec (.mapGridRowFetch stripe gy false false) s = .next { s with dev := failed 2 }

/-! ### Conveyor and dose engines: 02_exposure_geometry, 08_conveyor_and_dose_engines -/

/-- R57, R59: a delivered visit never sends a code above 63; it never raises the residual; with more than one live visit
left it never takes a positive residual below 0. After any sequence of delivered visits a residual that starts at 0 or
above is at least −⌊(G_max + 1,024) ÷ 2,048⌋. R54, R55, R274: a visit without a pixel, blanked, to a LOST residual, or with
no live visit or a dead beam, and one whose paths disagree, sends code 0 and leaves the residual as it is. -/
def Obligations.VisitsNeverOverdose : Prop :=
  (∀ (res : Int) (g n : Nat), 0 < g → 1 ≤ n →
    (split res g n).1 ≤ 63 ∧ (split res g n).2 ≤ res ∧ (res ≤ 0 → split res g n = (0, res)) ∧
    (0 < res → 2 ≤ n → 0 ≤ (split res g n).2)) ∧
  (∀ (visits : List (Nat × Nat)) (top : Nat) (res : Int), (∀ v ∈ visits, 0 < v.1 ∧ v.1 ≤ top ∧ 1 ≤ v.2) → 0 ≤ res →
    -(((top + 1024) / 2048 : Nat) : Int) ≤ visits.foldl (fun r v => (split r v.1 v.2).2) res ∧
    (top ≤ 0x5FFF → -12 ≤ visits.foldl (fun r v => (split r v.1 v.2).2) res)) ∧
  ∀ (res g n : Nat) (pix blank mm : Bool), pix = false ∨ blank = true ∨ res = lostMark ∨ n = 0 ∨ g = 0 ∨ mm = true →
    (engineVisit res g n pix blank mm).1 = 0 ∧ (engineVisit res g n pix blank mm).2.1 = res

/-- R264, R269 to R271, R273: a segment with an engine at the oldest shot it owes that computes it without a fault puts the
codes and the residuals after the visits into the shot's commit entry and leaves every residual as it is. A row that is due
starts its transfer; received intact it stands in the same slot of the next segment where that is free, else in the landing
buffer (R270), and nowhere else; from S63 it leaves its slot to the exit checker. -/
def Obligations.ShotsComputeAndRowsMove : Prop :=
  (∀ (seg : Fin 64) (x : Shot) (p : Stripe) (s : State), s.dev.toCompute seg.val = some x → s.dev.stripe? x.uid = some p →
    x.engine seg.val ≠ 0xFF → Map.get 0 s.dev.conv.slices seg.val ≤ x.ssn →
    let rows := (List.range 8).map fun i => s.dev.computeRow p x seg.val i []
    let entry : SegShot := ⟨rows.flatMap fun r => r.1, rows.map fun r => r.2.1, Half.pending, Half.pending⟩
    ∃ t, exec (.computeComplete seg ⟨[], [], [], []⟩) s = .next t ∧ t.store = s.store ∧ t.pending = s.pending ∧
      t.dev.conv.rows = s.dev.conv.rows ∧ t.dev.mode = s.dev.mode ∧
      t.dev.conv.shots = s.dev.conv.shots.map fun y =>
        if y.ssn = x.ssn then { y with segs := Map.insert seg.val entry y.segs } else y) ∧
  (∀ (seg : Fin 64) (slot : Nat) (r : ConvRow) (s : State), s.dev.toSend seg.val = some (slot, r) →
    Map.find s.dev.conv.flight seg.val = none →
    (seg.val ≠ 63 → ∃ t, exec (.handoff seg) s = .next t ∧ t.store = s.store ∧
      Map.find t.dev.conv.flight seg.val = some (slot + 1) ∧ t.dev.conv.rows = s.dev.conv.rows) ∧
    (seg.val = 63 → Map.find s.dev.conv.landing 63 = none → ∃ t, exec (.handoff seg) s = .next t ∧ t.store = s.store ∧
      t.dev.rowIn 63 slot = none ∧ ∀ k, k ≠ slotKey 63 slot → Map.find t.dev.conv.rows k = Map.find s.dev.conv.rows k)) ∧
  ∀ (seg : Fin 64) (slot : Nat) (r : ConvRow) (second : HandoffTest) (s : State), seg.val ≠ 0 →
    Map.find s.dev.conv.flight (seg.val - 1) = some (slot + 1) → s.dev.rowIn (seg.val - 1) slot = some r →
    r.y % 128 = slot → r.lostWords ≤ 0xFFFF → Map.find s.dev.conv.landing seg.val = none →
    Map.find s.dev.conv.landing (seg.val - 1) = none →
    ∃ t, exec (.handoffReceive seg .ok second) s = .next t ∧ t.store = s.store ∧ t.dev.rowIn (seg.val - 1) slot = none ∧
      (s.dev.rowIn seg.val slot = none → t.dev.rowIn seg.val slot = some r ∧ Map.find t.dev.conv.landing seg.val = none) ∧
      (∀ q, s.dev.rowIn seg.val slot = some q →
        t.dev.rowIn seg.val slot = some q ∧ Map.find t.dev.conv.landing seg.val = some r) ∧
      ∀ k, k ≠ slotKey seg.val slot → k ≠ slotKey (seg.val - 1) slot →
        Map.find t.dev.conv.rows k = Map.find s.dev.conv.rows k

/-- R266, R313: with no decided entry of the segment waiting to be written and every earlier one decided, where both return
lanes report a half of a struck shot as not executed, no residual changes and FRAME_NACK counts one; where both report it as
executed, each of the rows it visited holds the entry's residuals in the plane it visited, LOST marks but for, with a word that
the entry itself lost marked LOST (R260), and no other row changes. R268: with neither report at the deadline the entry is
written, the rows are UNCERTAIN, and the eighth such shot in a row enters SAFE. R304, R311, R315, R316: a frame that cannot be
decoded or fails its checks is counted, and the sixteenth in a row, or a silence of 10 µs, takes the lane out of service; a
valid one raises the echo of the segments it reports. -/
def Obligations.CommitsFollowTheReports : Prop :=
  (∀ (d : Dev) (ssn seg h : Nat) (x : Shot) (p : Stripe) (g : SegShot) (late : Bool),
    x ∈ d.conv.shots → x.ssn = ssn → d.stripe? x.uid = some p → Map.find x.segs seg = some g →
    (d.conv.shots.map (·.ssn)).Pairwise (· < ·) →
    (∀ y ∈ d.conv.shots, ∀ e, Map.find y.segs seg = some e → ∀ v, v = e.half0 ∨ v = e.half1 →
      (v.done = 0 ∨ v.disposed = true) ∧ (y.ssn < ssn → v.done ≠ 0)) →
    let written (j : Nat) (r : ConvRow) (plane : List Nat) : ConvRow :=
      let v := visitPlane p.direction (8 * seg + (4 * h + j))
      let m := r.mark (r.newlyLost (lostIn v plane) false)
      { m with planes := m.planes.zipIdx.map fun q => if q.2 = v then mergePlane q.1 plane else q.1 }
    h < 2 → (g.half h).done = 0 → (g.half h).applied = false → (g.half h).conflict = false → x.struck.isSome = true →
    ((g.half h).primary = some false → (g.half h).secondary = some false →
      (d.decideHalf ssn seg h late).conv.rows = d.conv.rows ∧
      (d.decideHalf ssn seg h late).get Obj.NACKS = (d.get Obj.NACKS + 1) % 2 ^ 64) ∧
    ((g.half h).primary = some true → (g.half h).secondary = some true →
      (∀ j r plane, j < 4 → d.visitedRow p x.k seg (4 * h + j) = some r → g.planes.getD (4 * h + j) none = some plane →
        (d.decideHalf ssn seg h late).rowIn seg (visitSlot x.k (4 * h + j)) = some (written j r plane)) ∧
      ∀ k, (∀ j, j < 4 → k ≠ slotKey seg (visitSlot x.k (4 * h + j))) →
        Map.find (d.decideHalf ssn seg h late).conv.rows k = Map.find d.conv.rows k)) ∧
  (∀ (seg : Fin 64) (half : Bool) (raw : Nat) (x : Shot) (p : Stripe) (g : SegShot) (s : State),
    let d := s.dev.at raw
    let h := if half then 1 else 0
    let due (y : Shot) : Bool := (Map.find y.segs seg.val).any (fun g => decide ((g.half h).done = 0)) &&
      y.struck.any fun r => r + 4000 ≤ d.clock.raw
    d.conv.shots.find? due = some x → (d.conv.shots.find? fun y => decide (y.ssn = x.ssn)) = some x →
    d.stripe? x.uid = some p → Map.find x.segs seg.val = some g → (g.half h).primary = none → (g.half h).secondary = none →
    ∃ t, exec (.ackMissing seg half raw) s = .next t ∧ t.store = s.store ∧
      t.dev.get Obj.ACKS_MISSING = (d.get Obj.ACKS_MISSING + 1) % 2 ^ 64 ∧
      (∀ j r, j < 4 → d.visitedRow p x.k seg.val (4 * h + j) = some r →
        ∃ w, t.dev.rowIn seg.val (visitSlot x.k (4 * h + j)) = some w ∧ w.uncertain = 0xFFFFFFFF ∧ w.y = r.y) ∧
      (Map.find d.conv.missing seg.val = some (x.ssn, 7) → d.mode.canSafe = true → t.dev.mode = .safe)) ∧
  (∀ (lane : Fin 8) (wire : List Bool) (s : State), s.dev.running = true → receiveReturn lane.val wire = none →
    ∃ t, exec (.returnFrame lane wire) s = .next t ∧ t.store = s.store ∧
      t.dev.get (Obj.RETURN_ERRORS lane.val) = (s.dev.get (Obj.RETURN_ERRORS lane.val) + 1) % 2 ^ 32 ∧
      (15 ≤ (s.dev.rxLane lane.val).bad → t.dev.inService lane.val = false)) ∧
  (∀ (lane : Fin 8) (wire : List Bool) (f : Report) (s : State), s.dev.running = true →
    receiveReturn lane.val wire = some f →
    ∃ t, exec (.returnFrame lane wire) s = .next t ∧ t.store = s.store ∧
      ∀ seg, seg < 64 → seg % 8 = lane.val ∨ (seg + 4) % 8 = lane.val →
        t.dev.get (Obj.ECHO_SSN seg) = max (s.dev.get (Obj.ECHO_SSN seg)) (f.entryOf lane.val seg % 2 ^ 48)) ∧
  ∀ (lane : Fin 8) (raw : Nat) (s : State), (s.dev.rxLane lane.val).heard + 10000 ≤ raw → s.dev.clock.raw ≤ raw →
    ∃ t, exec (.returnLaneSilence lane raw) s = .next t ∧ t.store = s.store ∧ t.dev.inService lane.val = false

/-- R277 to R279, R283, R289: a spare that fails a known-answer pass becomes FAILED, and one that passes is noted as passed.
While no shot is being issued, RETIRE of an attached engine hands its segment to the lowest-numbered spare that may be darned,
or leaves it without an engine, at once; while shots are issued it does so at the boundary of SSN m + 2. RETIRE of a spare makes
it RETIRED. RETURN of a retired or failed engine that passes makes it a spare, or attaches it to a segment without an engine,
with the table's switch while shots are issued; one that fails the pass stays as it was. R284, R285: SUBARRAY_COMMAND repairs a
segment without rows at once, or asks for the repair at the next advance while shots are issued. R287: a drain step advances the rows by one age, and the stripe ends when no row is left. -/
def Obligations.EnginesAndDrain : Prop :=
  (∀ (e : Fin 68) (s : State), s.dev.running = true → s.dev.get (Obj.ENGINE_STATE e.val) = 1 →
    exec (.knownAnswerPass e false) s
      = .next { s with dev := (s.dev.raise (0x2000 + e.val) 0x060D [e.val]).put (Obj.ENGINE_STATE e.val) 3 } ∧
    exec (.knownAnswerPass e true) s = .next { s with dev := s.dev.notePass e.val }) ∧
  (∀ (r : Req) (e : Byte) (s : State), let q := r.write 0x5013 0
    s.dev.Admits q → e.toNat < 68 → s.dev.writeForbidden 0x5013 0 (0x0100 + e.toNat) = false →
    (∀ seg, s.dev.segmentOf e.toNat = some seg → s.dev.get (Obj.ENGINE_STATE e.toNat) = 0 → s.dev.issuing = true →
      ∃ t, exec (.engineRetire r e) s = .next t ∧ t.store = s.store ∧ t.dev.get (Obj.ENGINE_STATE e.toNat) = 2 ∧
        t.dev.get (Obj.ENGINE_MAP seg) = e.toNat ∧ t.dev.conv.rows = s.dev.conv.rows ∧
        t.dev.conv.darns = s.dev.conv.darns ++ [{ due := s.dev.nextAdvanceSsn + 2, segment := seg, engine := e.toNat }]) ∧
    (∀ seg, s.dev.segmentOf e.toNat = some seg → s.dev.get (Obj.ENGINE_STATE e.toNat) = 0 → s.dev.issuing = false →
      (∀ x, s.dev.spareEngine = some x → ∃ t, exec (.engineRetire r e) s = .next t ∧ t.store = s.store ∧
        t.dev.get (Obj.ENGINE_STATE e.toNat) = 2 ∧ t.dev.get (Obj.ENGINE_MAP seg) = x ∧
        t.dev.get (Obj.ENGINE_STATE x) = 0 ∧ t.dev.conv.rows = s.dev.conv.rows ∧
        t.dev.get Obj.ENGINE_COMMAND = 0x01000000 + e.toNat) ∧
      (s.dev.spareEngine = none → ∃ t, exec (.engineRetire r e) s = .next t ∧ t.store = s.store ∧
        t.dev.get (Obj.ENGINE_STATE e.toNat) = 2 ∧ t.dev.get (Obj.ENGINE_MAP seg) = 0xFF ∧
        t.dev.conv.rows = s.dev.conv.rows)) ∧
    (s.dev.segmentOf e.toNat = none → s.dev.get (Obj.ENGINE_STATE e.toNat) = 1 →
      ∃ t, exec (.engineRetire r e) s = .next t ∧ t.store = s.store ∧ t.dev.get (Obj.ENGINE_STATE e.toNat) = 2 ∧
        (∀ seg, seg < 64 → t.dev.get (Obj.ENGINE_MAP seg) = s.dev.get (Obj.ENGINE_MAP seg)) ∧ t.dev.conv.rows = s.dev.conv.rows)) ∧
  (∀ (r : Req) (e : Byte) (s : State), let q := r.write 0x5013 0
    s.dev.Admits q → e.toNat < 68 → s.dev.writeForbidden 0x5013 0 (0x0200 + e.toNat) = false →
    2 ≤ s.dev.get (Obj.ENGINE_STATE e.toNat) →
    (s.dev.blankedSegment = none → ∃ t, exec (.engineReturn r e true) s = .next t ∧ t.store = s.store ∧
      t.dev.get (Obj.ENGINE_STATE e.toNat) = 1) ∧
    (∀ seg, s.dev.blankedSegment = some seg → s.dev.issuing = false →
      ∃ t, exec (.engineReturn r e true) s = .next t ∧ t.store = s.store ∧ t.dev.get (Obj.ENGINE_STATE e.toNat) = 0 ∧
        t.dev.get (Obj.ENGINE_MAP seg) = e.toNat) ∧
    (∀ seg, s.dev.blankedSegment = some seg → s.dev.issuing = true →
      ∃ t, exec (.engineReturn r e true) s = .next t ∧ t.store = s.store ∧ t.dev.get (Obj.ENGINE_STATE e.toNat) = 1 ∧
        t.dev.conv.lvtNext = s.dev.conv.lvtNext ++ [⟨s.dev.clock.raw, Config.rebuildShots, 3, some (seg, e.toNat)⟩]) ∧
    ∃ t, exec (.engineReturn r e false) s = .next t ∧ t.store = s.store ∧
      t.dev.get (Obj.ENGINE_STATE e.toNat) = s.dev.get (Obj.ENGINE_STATE e.toNat) ∧
      t.dev.get Obj.ENGINE_COMMAND = 0x02010000 + e.toNat) ∧
  (∀ (r : Req) (seg sub : Byte) (s : State), let q := r.write 0x5034 0
    s.dev.Admits q → seg.toNat < 64 → sub.toNat < 8 → s.dev.writeForbidden 0x5034 0 (seg.toNat * 256 + sub.toNat) = false →
    s.dev.spareInUse seg.toNat = false →
    (s.dev.issuing = false → s.dev.rowsOf seg.toNat = [] →
      ∃ t, exec (.subarrayCommand r seg sub) s = .next t ∧ t.store = s.store ∧
        t.dev.get (Obj.SEGMENT_MEMORY seg.toNat) = 0x200 + sub.toNat) ∧
    (s.dev.issuing = true → ∃ t, exec (.subarrayCommand r seg sub) s = .next t ∧ t.store = s.store ∧
      t.dev.conv.repairs = s.dev.conv.repairs ++ [⟨seg.toNat, sub.toNat, 3, false, 0xFFFF, 0⟩])) ∧
  ∀ (p : Stripe) (s : State), s.dev.running = true → s.dev.get Obj.PAUSE_PENDING = 0 → s.dev.draining = some p →
    s.dev.allDisposed p = true →
    ∃ t, exec .drainStep s = .next t ∧ t.store = s.store ∧ t.pending = s.pending ∧
      t.dev.conv.steps = s.dev.conv.steps + 1 ∧ t.dev.conv.flight = [] ∧
      (s.dev.conv.rows = [] → s.dev.conv.landing = [] → ∀ x ∈ t.dev.stripes, x.uid ≠ p.uid)

/-! ### Wyrak Link, module and interlocks: 09_beam_link -/

/-- R301: an ALIGN frame goes out on a lane that carries no SHOT frames and no pattern, and is not FAILED unless a RESTORE
runs on it. R315: REMOVE takes
a return lane out of service until RESTORE. R317, R318, R618: while no shot is being issued, SPARE moves a logical lane to a
spare that qualifies, and the former lane is FAILED; while shots are issued the switch waits for the next advance. R320:
RESTORE runs for 1 ms, and where the lane is locked then, the logical lane is back on it, at the next advance while shots are
issued; where it is not, nothing moves. (`laneUse` is the use of a lane apart from a pattern that runs on it.) -/
def Obligations.LanesAreSparedAndRestored : Prop :=
  (∀ (lane : Fin 136) (s : State), s.dev.running = true → Map.find s.dev.link.patterns lane.val = none →
    s.dev.issuing = false ∨ s.dev.get (Obj.LANE_STATE lane.val) = 1 →
    s.dev.get (Obj.LANE_STATE lane.val) ≠ 3 ∨ (s.dev.link.restoring.any fun r => decide (r.1 % 256 = lane.val)) = true →
    ∃ t, exec (.alignFrame lane) s = .next t ∧ t.store = s.store ∧ t.dev.objs = s.dev.objs ∧ t.dev.conv = s.dev.conv ∧
      t.dev.out = .frame lane.val (s.dev.skewDelay lane.val) (alignWire s.dev.ssnNext lane.val) :: s.dev.out) ∧
  (∀ (r : Req) (lane : Byte) (s : State), let q := r.write 0x581A 0
    s.dev.Admits q → lane.toNat < 8 →
    ((s.dev.rxLane lane.toNat).removed = false → s.dev.inService ((lane.toNat + 4) % 8) = true →
      s.dev.writeForbidden 0x581A 0 (0x0100 + lane.toNat) = false →
      ∃ t, exec (.returnRemove r lane) s = .next t ∧ t.store = s.store ∧ t.dev.inService lane.toNat = false ∧
        (t.dev.rxLane lane.toNat).removed = true) ∧
    ((s.dev.rxLane lane.toNat).removed = true → s.dev.writeForbidden 0x581A 0 (0x0200 + lane.toNat) = false →
      ∃ t, exec (.returnRestore r lane) s = .next t ∧ t.store = s.store ∧ t.dev.inService lane.toNat = true ∧
        (t.dev.rxLane lane.toNat).removed = false ∧ t.dev.conv = s.dev.conv)) ∧
  (∀ (r : Req) (lane spare : Byte) (l : Nat) (s : State), let q := r.write 0x5812 0
    let v := 0x01000000 + spare.toNat * 256 + lane.toNat
    s.dev.Admits q → lane.toNat < 128 → (128 ≤ spare.toNat ∧ spare.toNat ≤ 135) ∨ spare.toNat = 0xFF →
    s.dev.writeForbidden 0x5812 0 v = false → s.dev.get (Obj.LANE_MAP lane.toNat) = lane.toNat →
    s.dev.switchWaits lane.toNat = false → s.dev.commandSpare spare.toNat = some l →
    ∃ t, exec (.laneSpare r lane spare) s = .next t ∧ t.store = s.store ∧ t.dev.conv.rows = s.dev.conv.rows ∧
      (s.dev.issuing = false → t.dev.get (Obj.LANE_MAP lane.toNat) = l ∧ t.dev.laneUse l = 2 ∧
        t.dev.laneUse lane.toNat = 3) ∧
      (s.dev.issuing = true → t.dev.get (Obj.LANE_MAP lane.toNat) = lane.toNat ∧
        t.dev.link.switches = s.dev.link.switches ++ [⟨lane.toNat, l, false⟩])) ∧
  (∀ (r : Req) (lane spare : Byte) (s : State), let q := r.write 0x5812 0
    let v := 0x02000000 + spare.toNat * 256 + lane.toNat
    s.dev.Admits q → lane.toNat < 128 → (128 ≤ spare.toNat ∧ spare.toNat ≤ 135) ∨ spare.toNat = 0xFF →
    s.dev.writeForbidden 0x5812 0 v = false → s.dev.get (Obj.LANE_MAP lane.toNat) ≠ lane.toNat →
    (s.dev.link.switches.any fun w => w.restore && decide (w.lane = lane.toNat)) = false →
    (s.dev.link.restoring.any fun x => x.1 % 256 = lane.toNat) = false →
    ∃ t, exec (.laneRestore r lane spare) s = .next t ∧ t.store = s.store ∧ t.dev.conv = s.dev.conv ∧
      t.dev.link.restoring = s.dev.link.restoring ++ [(v, s.dev.clock.raw, q)] ∧
      t.dev.get Obj.LANE_COMMAND = 0x02020000 + spare.toNat * 256 + lane.toNat ∧
      t.dev.get (Obj.LANE_MAP lane.toNat) = s.dev.get (Obj.LANE_MAP lane.toNat)) ∧
  ∀ (lane : Fin 128) (raw v since : Nat) (q : Query) (s : State), let d := s.dev.at raw
    d.link.restoring = [(v, since, q)] → v % 256 = lane.val → since + 1000000 ≤ d.clock.raw →
    ∃ t, exec (.laneRestored lane raw) s = .next t ∧ t.store = s.store ∧ t.dev.link.restoring = [] ∧
      (d.locked lane.val = true → d.issuing = false →
        t.dev.get (Obj.LANE_MAP lane.val) = lane.val ∧ t.dev.laneUse lane.val = 0) ∧
      (d.locked lane.val = true → d.issuing = true →
        t.dev.link.switches = d.link.switches ++ [⟨lane.val, d.get (Obj.LANE_MAP lane.val), true⟩]) ∧
      (d.locked lane.val = false → t.dev.get (Obj.LANE_MAP lane.val) = d.get (Obj.LANE_MAP lane.val))

/-- R322, R323, R327: a bank write that passes its tests, whose transfers succeed and whose read-back agrees stands in the
object with its CRC; else the bank keeps its old value. R329, R50, R52: an identity read that passes makes the identity valid,
and the stored gain check is that of the new effective gains; one that fails leaves it not valid. R336, R337: a pattern starts
with its counts at zero on a lane where it is allowed, and INJECT marks its next bit as inverted. R338: an eye-scan point
counts from zero and ends with its disagreements over the bits it was started with. -/
def Obligations.ModuleBanksPatternsAndScans : Prop :=
  (∀ (r : Req) (bank : Fin 2) (b : List Byte) (x : BankTransfer) (s : State), let q := r.write (0x5830 + bank.val) 0
    s.dev.Admits q → b.length = 96 → s.dev.writeForbidden q.index 0 0 = false → bank.val ≠ s.dev.get Obj.WAVE_IN_EFFECT →
    bank.val ≠ s.dev.get Obj.WAVE_SELECT → bankBad b = false →
    (bankAgrees b x = true → ∃ t, exec (.waveBankWrite r bank b x) s = .next t ∧ t.store = s.store ∧
      t.dev.blob (bankKey bank.val) 96 = b ∧ t.dev.get (Obj.WAVE_CHECK bank.val) = crc32c b ∧ t.dev.conv = s.dev.conv ∧
      t.dev.mode = s.dev.mode) ∧
    (bankAgrees b x = false → ∃ t, exec (.waveBankWrite r bank b x) s = .next t ∧ t.store = s.store ∧
      t.dev.blobs = s.dev.blobs ∧ t.dev.conv = s.dev.conv)) ∧
  (∀ (r : Req) (s : State), let q := r.write 0x5841 0
    s.dev.Admits q → s.dev.mode = .setup ∨ s.dev.mode = .service → s.dev.link.reading = false →
    ∃ t, exec (.moduleCommandRead r) s = .next t ∧ t.store = s.store ∧
      t.dev.link.reading = true ∧ t.dev.link.readQuery = some q ∧ t.dev.conv = s.dev.conv ∧ t.dev.mode = s.dev.mode) ∧
  (∀ (x : I2cResult) (s : State), s.dev.link.reading = true → s.dev.jobOpen = false →
    let b := slice x.bytes 0 0x8204
    (transferOk x = true → identityOk b = true → ∃ t, exec (.moduleRead x) s = .next t ∧ t.store = s.store ∧
      t.dev.link.reading = false ∧ t.dev.get Obj.ID_STATE = 1 ∧ t.dev.get Obj.MAX_LANE_RATE = field b 0x18 1 ∧
      t.dev.effGains = t.dev.effectiveGains ∧ t.dev.gainsOk = true ∧ t.dev.mode = s.dev.mode) ∧
    (transferOk x = true → identityOk b = false → ∃ t, exec (.moduleRead x) s = .next t ∧ t.store = s.store ∧
      t.dev.link.reading = false ∧ t.dev.get Obj.ID_STATE = 2 ∧ t.dev.effGains = s.dev.effGains) ∧
    (transferOk x = false → ∃ t, exec (.moduleRead x) s = .next t ∧ t.store = s.store ∧
      t.dev.link.reading = false ∧ t.dev.get Obj.ID_STATE = 3 ∧ t.dev.effGains = s.dev.effGains)) ∧
  (∀ (r : Req) (lane : Fin 144) (m : Byte) (s : State), let q := r.write (0x5900 + lane.val) 1
    s.dev.Admits q → s.dev.writeForbidden q.index 1 m.toNat = false → 1 ≤ m.toNat → m.toNat ≤ 3 →
    s.dev.patternAllowed lane.val = true →
    ∃ t, exec (.patternStart r lane m) s = .next t ∧ t.store = s.store ∧ t.dev.get (Obj.PAT_MODE lane.val) = m.toNat ∧
      t.dev.get (Obj.PAT_BITS lane.val) = 0 ∧ t.dev.get (Obj.PAT_ERRORS lane.val) = 0 ∧
      (Map.find t.dev.link.patterns lane.val).map (·.sent) = some 0 ∧
      (lane.val < 136 → t.dev.get (Obj.LANE_STATE lane.val) = 4) ∧ t.dev.conv = s.dev.conv) ∧
  (∀ (r : Req) (lane : Fin 144) (p : PatternRun) (s : State), let q := r.write (0x5900 + lane.val) 3
    s.dev.Admits q → s.dev.writeForbidden q.index 3 1 = false → Map.find s.dev.link.patterns lane.val = some p →
    ∃ t, exec (.patternInject r lane) s = .next t ∧ t.store = s.store ∧
      Map.find t.dev.link.patterns lane.val = some { p with inject := true } ∧
      t.dev.get (Obj.PAT_ERRORS lane.val) = s.dev.get (Obj.PAT_ERRORS lane.val) ∧ t.dev.conv = s.dev.conv) ∧
  (∀ (r : Req) (s : State), let q := r.write 0x5880 5
    s.dev.Admits q → s.dev.writeForbidden 0x5880 5 1 = false → s.dev.get Obj.SCAN_STATE ≠ 1 →
    s.dev.samplerBusy (s.dev.get Obj.LANE) = false →
    ∃ t, exec (.eyeScanStart r) s = .next t ∧ t.store = s.store ∧ t.dev.get Obj.SCAN_STATE = 1 ∧
      t.dev.get Obj.EYE_ERRORS = 0 ∧ t.dev.get Obj.BITS_DONE = 0 ∧ t.dev.link.scanBits = s.dev.get Obj.EYE_BITS) ∧
  ∀ (errors : Word32) (s : State), s.dev.get Obj.SCAN_STATE = 1 →
    ∃ t, exec (.eyeScanDone errors) s = .next t ∧ t.store = s.store ∧ t.dev.get Obj.SCAN_STATE = 2 ∧
      t.dev.get Obj.EYE_ERRORS = errors.toNat ∧ t.dev.get Obj.BITS_DONE = s.dev.link.scanBits

/-- R332, R266, R93: an input in use that opens asserts BLANK_ALL_N and discards every entry of a shot that is launched and
has not struck; with room in the journal WRITE and MEND go to HOLD, which remembers them; without a job MEASURE goes to
READY. Outside MEASURE no residual changes. R333, R334: an input that is safe again leaves the mode, and BLANK_ALL_N stays
while another input in use is unsafe. R606: while the main die runs, loading an instruction that drives the balls into the TAP
enters SAFE with BLANK_ALL_N asserted; any other instruction is loaded with the boundary cells that were shifted in (which
cells a load brings is the model's choice, log entry 91), and nothing else changes. -/
def Obligations.InterlocksBlankTheShots : Prop :=
  (∀ (n : Fin 4) (s : State), s.dev.mode ≠ .off → ¬ (s.dev.mode = .keep ∧ s.dev.keeper.standby = true) →
    s.dev.get (Obj.ILK_ROLE n.val) ≠ 0 →
    s.dev.bit Obj.ILK_STATE n.val = false →
    ∃ t, exec (.interlockUnsafe n) s = .next t ∧ t.store = s.store ∧ t.pending = s.pending ∧ t.dev.blanked = true ∧
      t.dev.bit Obj.ILK_STATE n.val = true ∧
      (s.dev.mode ≠ .measure → t.dev.conv.rows = s.dev.conv.rows) ∧
      (s.dev.blanked = false → ∀ x ∈ t.dev.conv.shots, x.launched = true → x.blank = false → x.struck = none →
        ∀ e ∈ x.segs, e.2.half0.done ≠ 0 ∧ e.2.half1.done ≠ 0) ∧
      (s.dev.jobOpen = false ∨ 2048 ≤ s.dev.journalFree →
        (s.dev.mode = .write → t.dev.mode = .hold ∧ t.dev.get Obj.HOLD_ORIGIN = 7) ∧
        (s.dev.mode = .mend → t.dev.mode = .hold ∧ t.dev.get Obj.HOLD_ORIGIN = 9)) ∧
      (s.dev.jobOpen = false → s.dev.mode = .measure → t.dev.mode = .ready)) ∧
  (∀ (n : Fin 4) (s : State), s.dev.mode ≠ .off → ¬ (s.dev.mode = .keep ∧ s.dev.keeper.standby = true) →
    s.dev.get (Obj.ILK_ROLE n.val) ≠ 0 →
    s.dev.bit Obj.ILK_STATE n.val = true →
    ∃ t, exec (.interlockSafe n) s = .next t ∧ t.store = s.store ∧ t.dev.bit Obj.ILK_STATE n.val = false ∧
      t.dev.mode = s.dev.mode ∧ t.dev.conv = s.dev.conv ∧
      ∀ m, m < 4 → m ≠ n.val → s.dev.get (Obj.ILK_ROLE m) ≠ 0 → s.dev.bit Obj.ILK_STATE m = true →
        t.dev.blanked = s.dev.blanked) ∧
  ∀ (x : TapLoad) (s : State), s.dev.running = true →
    let n := x.code.toNat
    let loaded (code : Nat) (d : Dev) : Dev := { d with tap := code, boundary := x.cells }
    (n = 0 ∨ n = 3 ∨ n = 4 ∨ n = 8 ∨ n = 9 → ∃ t, exec (.tapInstructionLoad x) s = .next t ∧ t.store = s.store ∧
      t.dev.tap = n ∧ t.dev.boundary = x.cells ∧ t.dev.mode = .safe ∧ (s.dev.mode ≠ .safe → t.dev.blanked = true)) ∧
    (n = 1 ∨ n = 2 → exec (.tapInstructionLoad x) s = .next { s with dev := loaded n s.dev }) ∧
    (n = 5 ∨ n = 6 ∨ n = 7 ∨ 10 ≤ n → exec (.tapInstructionLoad x) s = .next { s with dev := loaded 0xFF s.dev })

/-! ### Stage position and shot timing: 10_stage_position_and_shot_timing -/

/-- R354: no sample lowers M, moves a residual or stores a byte. R342, R345: a sample of a sine/cosine channel adds the
signed step of its 14-bit angle (whose rounding is the model's, log entry 93) to the position, negated under INVERT; a count
that would leave the range is not taken, and the channel sets OVER_RANGE and is not VALID. R347: levels of A and B that FILTER
accepts move the position of an ENC channel by one count a step. R346: a phase jump sets PHASE_JUMP, counts an error and
clears VALID and REFERENCED; the sample that leaves the amplitude window for the second time in a row sets AMPLITUDE, which
clears them without counting, and the first inside it clears AMPLITUDE. R347, R348: a skipped step of A and B or of the Hall
states leaves the count, sets QUAD_ERROR, counts an error and clears VALID and REFERENCED; an invalid Hall state holds the
count and clears VALID. R343: standstill sets the speed to 0. -/
def Obligations.ChannelsCountAndShowFaults : Prop :=
  (∀ (ch : Fin 10) (at_ : Nat) (r : Reading) (s : State), ∃ t, exec (.positionSample ch at_ r) s = .next t ∧
    t.store = s.store ∧ t.pending = s.pending ∧ t.dev.conv.rows = s.dev.conv.rows ∧ s.dev.stage.m ≤ t.dev.stage.m) ∧
  (∀ (ch : Fin 10) (at_ : Nat) (sine cosine : BitVec 16) (s : State), ch.val < 2 → s.dev.running = true →
    s.dev.get (Obj.CHAN_MODE ch.val) = 1 → (s.dev.chan ch.val).samples ≠ 0 →
    let c := s.dev.chan ch.val
    let x := c.pos + c.signed (toSigned 14 (ofSigned 14 ((phaseAngle sine cosine : Int) - c.angle)))
    ∃ t, exec (.positionSample ch at_ (.sincos sine cosine)) s = .next t ∧
      (-(2 ^ 47) ≤ x → x < 2 ^ 47 → (t.dev.chan ch.val).pos = x) ∧
      (x < -(2 ^ 47) ∨ 2 ^ 47 ≤ x → (t.dev.chan ch.val).pos = c.pos ∧ t.dev.bit (Obj.CHAN_STATUS ch.val) 6 = true ∧
        t.dev.valid ch.val = false)) ∧
  (∀ (ch : Fin 10) (at_ : Nat) (a b z : Bool) (s : State), 2 ≤ ch.val → s.dev.running = true →
    s.dev.get (Obj.CHAN_MODE ch.val) = 1 → (s.dev.chan ch.val).samples ≠ 0 →
    let c := s.dev.chan ch.val
    let n := c.accept (s.dev.get (Obj.CHAN_FILTER ch.val)) at_ (levelsOf a b z)
    let step := (placeOf n.levels + 4 - placeOf c.levels) % 4
    ∃ t, exec (.positionSample ch at_ (.levels a b z)) s = .next t ∧ (t.dev.chan ch.val).levels = n.levels ∧
      (step = 0 → (t.dev.chan ch.val).pos = c.pos) ∧
      (step = 1 → inRange48 (c.pos + c.signed 1) = true → (t.dev.chan ch.val).pos = c.pos + c.signed 1) ∧
      (step = 3 → inRange48 (c.pos + c.signed (-1)) = true → (t.dev.chan ch.val).pos = c.pos + c.signed (-1))) ∧
  (∀ (ch : Fin 2) (at_ : Nat) (sine cosine : BitVec 16) (s : State), s.dev.running = true →
    s.dev.get (Obj.CHAN_MODE ch.val) = 1 → (s.dev.verdict ch.val at_ (.sincos sine cosine)).jump = true →
    ∃ t, exec (.phaseJump ch at_ (.sincos sine cosine)) s = .next t ∧ t.store = s.store ∧ t.dev.valid ch.val = false ∧
      t.dev.bit (Obj.CHAN_STATUS ch.val) 3 = true ∧ t.dev.bit (Obj.CHAN_STATUS ch.val) 8 = false ∧
      t.dev.get (Obj.CHAN_ERRORS ch.val) = (s.dev.get (Obj.CHAN_ERRORS ch.val) + 1) % 2 ^ 32) ∧
  (∀ (ch : Fin 2) (x : ScSample) (s : State), s.dev.running = true → s.dev.get (Obj.CHAN_MODE ch.val) = 1 →
    let bad := (s.dev.chan ch.val).amplitudeNext x.sine x.cosine
    (bad = s.dev.bit (Obj.CHAN_STATUS ch.val) 2 → exec (.amplitude ch x) s = .next s) ∧
    (bad ≠ s.dev.bit (Obj.CHAN_STATUS ch.val) 2 → ∃ t, exec (.amplitude ch x) s = .next t ∧ t.store = s.store ∧
      t.dev.bit (Obj.CHAN_STATUS ch.val) 2 = bad ∧
      (bad = true → t.dev.valid ch.val = false ∧ t.dev.bit (Obj.CHAN_STATUS ch.val) 8 = false) ∧
      ((s.dev.verdict ch.val x.t (.sincos x.sine x.cosine)).jump = false →
        t.dev.get (Obj.CHAN_ERRORS ch.val) = s.dev.get (Obj.CHAN_ERRORS ch.val)))) ∧
  (∀ (enc : Fin 8) (at_ : Nat) (a b z : Bool) (s : State), let ch := 2 + enc.val
    s.dev.running = true → (s.dev.verdict ch at_ (.levels a b z)).skip = true →
    s.dev.get (Obj.CHAN_MODE ch) = 1 ∨ s.dev.get (Obj.CHAN_MODE ch) = 2 →
    ∃ t, exec (.quadError enc at_ (.levels a b z)) s = .next t ∧ t.store = s.store ∧
      (t.dev.chan ch).pos = (s.dev.chan ch).pos ∧ t.dev.bit (Obj.CHAN_STATUS ch) 4 = true ∧
      t.dev.bit (Obj.CHAN_STATUS ch) 8 = false ∧ t.dev.valid ch = false ∧
      t.dev.get (Obj.CHAN_ERRORS ch) = (s.dev.get (Obj.CHAN_ERRORS ch) + 1) % 2 ^ 32) ∧
  (∀ (enc : Fin 8) (at_ : Nat) (a b z : Bool) (s : State), let ch := 2 + enc.val
    s.dev.running = true → s.dev.get (Obj.CHAN_MODE ch) = 2 → (s.dev.verdict ch at_ (.levels a b z)).invalid = true →
    s.dev.bit (Obj.CHAN_STATUS ch) 5 = false →
    ∃ t, exec (.hallInvalid enc at_ (.levels a b z)) s = .next t ∧ t.store = s.store ∧
      (t.dev.chan ch).pos = (s.dev.chan ch).pos ∧ t.dev.bit (Obj.CHAN_STATUS ch) 5 = true ∧ t.dev.valid ch = false ∧
      t.dev.get (Obj.CHAN_ERRORS ch) = s.dev.get (Obj.CHAN_ERRORS ch)) ∧
  ∀ (ch : Fin 10) (at_ : Nat) (s : State), s.dev.running = true → s.dev.get (Obj.CHAN_MODE ch.val) ≠ 0 →
    (s.dev.chan ch.val).movedAt + s.dev.get Obj.STANDSTILL_TIME * 1000000000 ≤ at_ →
    ∃ t, exec (.standstill ch at_) s = .next t ∧ t.store = s.store ∧ (t.dev.chan ch.val).pos = (s.dev.chan ch.val).pos ∧
      t.dev.get (Obj.CHAN_SPEED ch.val) = 0 ∧ t.dev.bit (Obj.CHAN_STATUS ch.val) 7 = true

/-- R349: REF_COMMAND arms and cancels referencing, but not of the shot source or the cross-check channel in WRITE, MEND,
HOLD or MEASURE, where it is refused with STATE_FORBIDS and changes no channel. At the index an armed channel's position
moves so that the latched count (of an ENC channel that of Z's edge, R347) equals REF_VALUE, and it is REFERENCED; a position
out of range is not taken (R342). R350: a later index moves no position; it is
latched, and beyond the tolerance it sets INDEX_MISMATCH, and for the shot source a pending pause or SAFE as INDEX_ACTION
selects. R365, R366: sensors that disagree lead to SAFE; COMMAND 1 makes SC0 the shot source again in SETUP, READY and SERVICE. -/
def Obligations.ReferencesIndexesAndCrossChecks : Prop :=
  (∀ (r : Req) (ch : Fin 10) (s : State), let q := r.write (0x6010 + ch.val) 8
    let used := ch.val = s.dev.get Obj.SHOT_SOURCE ∨ s.dev.crossChannel = some ch.val
    let busy := s.dev.mode = .write ∨ s.dev.mode = .mend ∨ s.dev.mode = .hold ∨ s.dev.mode = .measure
    s.dev.Admits q →
    (s.dev.writeForbidden q.index 8 1 = false → ¬ (used ∧ busy) → ∃ t, exec (.refArm r ch) s = .next t ∧
      t.store = s.store ∧ (t.dev.chan ch.val).arming = true ∧ (t.dev.chan ch.val).pos = (s.dev.chan ch.val).pos) ∧
    (s.dev.writeForbidden q.index 8 2 = false → ¬ (used ∧ busy) → ∃ t, exec (.refCancel r ch) s = .next t ∧
      t.store = s.store ∧ (t.dev.chan ch.val).arming = false ∧ (t.dev.chan ch.val).pos = (s.dev.chan ch.val).pos) ∧
    (s.dev.mode ≠ .safe → used ∧ busy →
      exec (.refArm r ch) s = .next { s with dev := (s.dev.heard q).refuse q .stateForbids } ∧
      exec (.refCancel r ch) s = .next { s with dev := (s.dev.heard q).refuse q .stateForbids })) ∧
  (∀ (ch : Fin 10) (count n : Int) (s : State), s.dev.running = true → s.dev.indexCount ch.val count = some n →
    let c := s.dev.chan ch.val
    let ref := s.dev.geti 64 (Obj.REF_VALUE ch.val)
    let off := (n - expectedIndex ref (s.dev.get (Obj.REF_SPACING ch.val)) n).natAbs
    (c.arming = true → inRange48 (c.pos + (ref - n)) = true → ∃ t, exec (.index ch count) s = .next t ∧ t.store = s.store ∧
      (t.dev.chan ch.val).pos = c.pos + (ref - n) ∧ (t.dev.chan ch.val).arming = false ∧
      t.dev.bit (Obj.CHAN_STATUS ch.val) 8 = true ∧ t.dev.bit (Obj.CHAN_STATUS ch.val) 9 = false ∧
      t.dev.bit (Obj.CHAN_STATUS ch.val) 6 = false ∧ t.dev.bit (Obj.CHAN_STATUS ch.val) 4 = false ∧
      t.dev.bit (Obj.CHAN_STATUS ch.val) 3 = false) ∧
    (c.arming = true → inRange48 (c.pos + (ref - n)) = false → ∃ t, exec (.index ch count) s = .next t ∧
      t.store = s.store ∧ (t.dev.chan ch.val).pos = c.pos ∧ (t.dev.chan ch.val).arming = false ∧
      t.dev.bit (Obj.CHAN_STATUS ch.val) 6 = true ∧ t.dev.valid ch.val = false) ∧
    (c.arming = false → s.dev.bit (Obj.CHAN_STATUS ch.val) 8 = true →
      ∃ t, exec (.index ch count) s = .next t ∧ t.store = s.store ∧ t.dev.chan ch.val = { c with zAt := none } ∧
        t.dev.get (Obj.LAST_INDEX ch.val) = ofSigned 64 n ∧
        (off ≤ s.dev.get (Obj.INDEX_TOLERANCE ch.val) → t.dev.mode = s.dev.mode ∧
          t.dev.get (Obj.CHAN_STATUS ch.val) = s.dev.get (Obj.CHAN_STATUS ch.val)) ∧
        (s.dev.get (Obj.INDEX_TOLERANCE ch.val) < off → t.dev.bit (Obj.CHAN_STATUS ch.val) 9 = true ∧
          (ch.val = s.dev.get Obj.SHOT_SOURCE → s.dev.get Obj.INDEX_ACTION = 1 → t.dev.get Obj.PAUSE_PENDING = 1) ∧
          (ch.val = s.dev.get Obj.SHOT_SOURCE → s.dev.get Obj.INDEX_ACTION = 2 → s.dev.mode.canSafe = true →
            t.dev.mode = .safe ∧ t.dev.blanked = true)))) ∧
  (∀ (s : State) (c : Nat), s.dev.crossChannel = some c → s.dev.get Obj.CROSS_STATE = 1 →
    s.dev.get Obj.SAMPLES ≤ s.dev.stage.disagree → s.dev.valid 0 = true → s.dev.valid c = true → s.dev.mode.canSafe = true →
    ∃ t, exec .crossDisagree s = .next t ∧ t.store = s.store ∧ t.dev.mode = .safe ∧ t.dev.blanked = true ∧
      t.dev.conv.rows = s.dev.conv.rows ∧ t.dev.stage = s.dev.stage) ∧
  (∀ (r : Req) (s : State), let q := r.write 0x6030 7
    s.dev.Admits q → s.dev.mode = .setup ∨ s.dev.mode = .ready ∨ s.dev.mode = .service →
    (s.dev.valid 0 = true → ∃ t, exec (.returnToSc0 r) s = .next t ∧ t.store = s.store ∧ t.dev.get Obj.SHOT_SOURCE = 0 ∧
      t.dev.mode = s.dev.mode ∧ t.dev.stage = s.dev.stage ∧
      (s.dev.get Obj.CROSS_STATE = 2 → t.dev.get Obj.CROSS_STATE = 1)) ∧
    (s.dev.valid 0 = false → exec (.returnToSc0 r) s = .next { s with dev := (s.dev.heard q).refuse q .check })) ∧
  ∀ (r : Req) (s : State), let q := r.write 0x6030 7
    s.dev.Admits q → s.dev.mode ≠ .setup → s.dev.mode ≠ .ready → s.dev.mode ≠ .service →
    exec (.returnToSc0 r) s = .next { s with dev := (s.dev.heard q).refuse q .stateForbids }

/-- R353: with no stripe armed, an empty conveyor and a VALID source, the first waiting stripe is armed at a progress below
0, which becomes its M, and the advances of its shots 0 and 1 leave; at 0 or above ORIGIN_PASSED is recorded once and
nothing is armed; R60: a pending overdose enters SAFE in its place. R357, R361: a shot whose strobe is set less than one
sample period after its launch is launched with that strobe, with BLANK for another reason or for overspeed, and takes its
SSN. R358: its strobe leaves at the instant last refined, with the pulse width of STROBE_WIDTH (R308). R359: the error of a strobe is shown, a shot with BLANK changes no
row, and a shot beyond the tolerance makes every part of the rows it visited UNCERTAIN and counts one; no residual
changes. R355: a reversal is counted and leaves M; WRITE and MEND go to HOLD, other modes stay. -/
def Obligations.StripesArmAndShotsFire : Prop :=
  (∀ (p : Stripe) (s : State), s.dev.waitingStripe = some p → s.dev.get Obj.PAUSE_PENDING = 0 →
    s.dev.mode = .write ∨ s.dev.mode = .mend ∨ s.dev.mode = .hold ∨ s.dev.mode = .measure →
    s.dev.armedStripe = none → s.dev.conveyorEmpty = true → s.dev.valid (s.dev.get Obj.SHOT_SOURCE) = true →
    let x := s.dev.progress p (s.dev.sourceCounts (s.dev.chan (s.dev.get Obj.SHOT_SOURCE)).pos)
    (0 ≤ x → ∃ t, exec .originArm s = .next t ∧ t.store = s.store ∧ t.dev.stripes = s.dev.stripes ∧
      (s.dev.stage.passedFor ≠ p.uid → t.dev.get Obj.ORIGINS_PASSED = (s.dev.get Obj.ORIGINS_PASSED + 1) % 2 ^ 32 ∧
        t.dev.stage.passedFor = p.uid) ∧
      (s.dev.stage.passedFor = p.uid → t.dev.get Obj.ORIGINS_PASSED = s.dev.get Obj.ORIGINS_PASSED)) ∧
    (x < 0 → s.dev.ledger.overdose = true → ∃ t, exec .originArm s = .next t ∧ t.store = s.store ∧ t.dev.mode = .safe ∧
      t.dev.blanked = true ∧ t.dev.stripes = s.dev.stripes) ∧
    (x < 0 → s.dev.ledger.overdose = false → ∃ t, exec .originArm s = .next t ∧ t.store = s.store ∧
      t.dev.stage.m = x ∧ t.dev.stage.d = x ∧
      ∃ q ∈ t.dev.stripes, q.uid = p.uid ∧ q.armed = true ∧ q.advanced = 2)) ∧
  (∀ (p : Stripe) (x : Shot) (a : Nat) (s : State), s.dev.toLaunch = some (p, x) → s.dev.strobeTime p x = some a →
    x.struck = none → s.dev.running = true → s.dev.mode ≠ .safe → a < s.dev.stage.now + s.dev.samplePeriod + s.dev.lead →
    let other := s.dev.otherBlank (a - s.dev.lead)
    ∃ t, exec .launch s = .next t ∧ t.store = s.store ∧ t.dev.get Obj.SSN_NEXT = x.ssn + 1 ∧
      t.dev.get Obj.SSN_LAST_ISSUED = x.ssn ∧ t.dev.conv.rows = s.dev.conv.rows ∧
      ∃ y ∈ t.dev.conv.shots, y.ssn = x.ssn ∧ y.launched = true ∧ y.strobeAt = a ∧ y.launchAt = a - s.dev.lead ∧
        (y.blank = true ↔ other = true ∨ s.dev.overspeeds p x a = true)) ∧
  (∀ (next : Nat) (position cross : Int) (late : Bool) (p : Stripe) (x : Shot) (s : State),
    s.dev.toStrobe = some (p, x) →
    ∃ t, exec (.strobe next position cross late) s = .next t ∧ t.store = s.store ∧ t.pending = s.pending ∧
      Out.strobe x.ssn x.strobeAt (s.dev.get Obj.STROBE_WIDTH) (decide (s.dev.get Obj.SHOTB_ENABLE = 1)) ∈ t.dev.out) ∧
  (∀ (p : Stripe) (x : Shot) (e : Int) (d : Dev), let d' := d.noteError p x e
    d'.get Obj.LAST_ERROR = ofSigned 32 (clampInt (-2147483648) 2147483647 e) ∧
    (x.blank = true → d'.conv = d.conv) ∧
    (x.blank = false → d.strobeTol p < (e.natAbs : Int) * 256 →
      d'.get Obj.STROBES_OFF = (d.get Obj.STROBES_OFF + 1) % 2 ^ 64 ∧ d'.conv.rows = d.conv.rows.map fun r =>
        if r.2.uid = p.uid ∧ (p.visited x.k).contains r.2.y then (r.1, { r.2 with uncertain := 0xFFFFFFFF }) else r)) ∧
  ∀ (s : State), s.dev.reversing = true →
    ∃ t, exec .reversal s = .next t ∧ t.store = s.store ∧ t.dev.stage.m = s.dev.stage.m ∧ t.dev.reversing = false ∧
      t.dev.get Obj.REVERSALS = (s.dev.get Obj.REVERSALS + 1) % 2 ^ 32 ∧ t.dev.conv.rows = s.dev.conv.rows ∧
      (s.dev.jobOpen = false ∨ 2048 ≤ s.dev.journalFree →
        (s.dev.mode = .write → t.dev.mode = .hold ∧ t.dev.get Obj.HOLD_ORIGIN = 7) ∧
        (s.dev.mode = .mend → t.dev.mode = .hold ∧ t.dev.get Obj.HOLD_ORIGIN = 9) ∧
        (s.dev.mode ≠ .write → s.dev.mode ≠ .mend → t.dev.mode = s.dev.mode))

/-- R367: an edge that EDGE selects latches the source's position, and with 16 entries queued is dropped and counted; an
edge not selected does nothing; NEXT discards the oldest entry. R368, R370: a compare fires as its source passes TARGET;
a single compare is then fired, one with an INCREMENT moves on by the smallest whole number of increments that puts the
target ahead, and counts those skipped. R369, R371: a write of TARGET behind the position fires at once under IMMEDIATE and
otherwise waits; a write of ACTION claims CMPn or releases it, and is refused while another owner holds it. R372, R373: a timer's
ENABLE 1 claims it and loads COUNT, ENABLE 0 releases it; at expiry ACTION 1 pulses CMPn and ACTION 2 carries out an axis
command as a write would, and a periodic timer loads again, another stops. -/
def Obligations.ProbesComparesAndTimers : Prop :=
  (∀ (n : Fin 4) (rising : Bool) (x : Int) (s : State), s.dev.running = true →
    let sel := bitAt (s.dev.get (Obj.EDGE n.val)) (if rising then 0 else 1)
    let p := s.dev.probe n.val
    let v := if s.dev.get (Obj.PROBE_SOURCE n.val) < 2 then x else (s.dev.chan (s.dev.get (Obj.PROBE_SOURCE n.val))).pos
    (sel = false → exec (.probeEdge n rising x) s = .next s) ∧
    (sel = true → p.queue.length < 16 → ∃ t, exec (.probeEdge n rising x) s = .next t ∧ t.store = s.store ∧
      (t.dev.probe n.val).queue = p.queue ++ [(p.next, v)] ∧ t.dev.objs = s.dev.objs) ∧
    (sel = true → 16 ≤ p.queue.length → ∃ t, exec (.probeEdge n rising x) s = .next t ∧ t.store = s.store ∧
      (t.dev.probe n.val).queue = p.queue ∧
      t.dev.get (Obj.PROBE_OVERFLOWS n.val) = (s.dev.get (Obj.PROBE_OVERFLOWS n.val) + 1) % 2 ^ 32)) ∧
  (∀ (r : Req) (n : Fin 4) (s : State), let q := r.write (0x6040 + n.val) 7
    s.dev.Admits q → s.dev.writeForbidden q.index 7 1 = false →
    ∃ t, exec (.probeNext r n) s = .next t ∧ t.store = s.store ∧
      (t.dev.probe n.val).queue = (s.dev.probe n.val).queue.drop 1 ∧ t.dev.stage.chans = s.dev.stage.chans) ∧
  (∀ (n : Fin 4) (s : State), let c := s.dev.chan (s.dev.get (Obj.COMPARE_SOURCE n.val))
    let act := s.dev.get (Obj.COMPARE_ACTION n.val)
    let inc := s.dev.geti 64 (Obj.INCREMENT n.val)
    let next := s.dev.geti 64 (Obj.COMPARE_TARGET n.val) + inc
    s.dev.get (Obj.COMPARE_STATE n.val) = 1 ∨ s.dev.get (Obj.COMPARE_STATE n.val) = 2 → 1 ≤ act → act ≤ 4 →
    (s.dev.compareOut n.val).sample ≠ c.samples → s.dev.passes n.val = true → s.dev.get (Obj.COMPARE_MISSED n.val) < 2 ^ 32 →
    ∃ t, exec (.compareFire n) s = .next t ∧ t.store = s.store ∧ t.dev.stage.chans = s.dev.stage.chans ∧
      t.dev.get (Obj.HITS n.val) = (s.dev.get (Obj.HITS n.val) + 1) % 2 ^ 32 ∧
      (act = 1 → (t.dev.compareOut n.val).pulseEnd = some (s.dev.clock.raw + s.dev.get (Obj.PULSE_WIDTH n.val))) ∧
      (act = 2 → t.dev.cmpLevel n.val = true) ∧ (act = 3 → t.dev.cmpLevel n.val = false) ∧
      (act = 4 → t.dev.cmpLevel n.val = ! s.dev.cmpLevel n.val) ∧
      (inc = 0 → t.dev.get (Obj.COMPARE_STATE n.val) = 3) ∧
      (s.dev.get (Obj.QUALIFIER n.val) = 1 → 0 < inc → t.dev.get (Obj.COMPARE_STATE n.val) = 1 ∧
        ∃ k : Nat, t.dev.get (Obj.COMPARE_TARGET n.val) = ofSigned 64 (next + k * inc) ∧ c.pos < next + k * inc ∧
          (k ≠ 0 → next + k * inc ≤ c.pos + inc) ∧
          t.dev.get (Obj.COMPARE_MISSED n.val) = (s.dev.get (Obj.COMPARE_MISSED n.val) + k) % 2 ^ 32) ∧
      (s.dev.get (Obj.QUALIFIER n.val) = 2 → inc < 0 → t.dev.get (Obj.COMPARE_STATE n.val) = 1 ∧
        ∃ k : Nat, t.dev.get (Obj.COMPARE_TARGET n.val) = ofSigned 64 (next + k * inc) ∧ next + k * inc < c.pos ∧
          (k ≠ 0 → c.pos + inc ≤ next + k * inc) ∧
          t.dev.get (Obj.COMPARE_MISSED n.val) = (s.dev.get (Obj.COMPARE_MISSED n.val) + k) % 2 ^ 32)) ∧
  (∀ (r : Req) (n : Fin 4) (v : Word64) (s : State), let q := r.write (0x6050 + n.val) 2
    let late := behind (s.dev.get (Obj.QUALIFIER n.val)) (toSigned 64 v.toNat)
      (s.dev.chan (s.dev.get (Obj.COMPARE_SOURCE n.val))).pos
    s.dev.Admits q → s.dev.writeForbidden q.index 2 v.toNat = false → s.dev.get (Obj.COMPARE_ACTION n.val) ≠ 0 →
    ∃ t, exec (.compareBehind r n false v) s = .next t ∧ t.store = s.store ∧
      (late = false → t.dev.get (Obj.COMPARE_STATE n.val) = 1 ∧ t.dev.get (Obj.COMPARE_TARGET n.val) = v.toNat) ∧
      (late = true → s.dev.get (Obj.IMMEDIATE n.val) = 0 → t.dev.get (Obj.COMPARE_STATE n.val) = 2 ∧
        t.dev.get (Obj.HITS n.val) = s.dev.get (Obj.HITS n.val)) ∧
      (late = true → s.dev.get (Obj.IMMEDIATE n.val) = 1 → s.dev.get (Obj.INCREMENT n.val) = 0 →
        t.dev.get (Obj.COMPARE_STATE n.val) = 3 ∧
        t.dev.get (Obj.HITS n.val) = (s.dev.get (Obj.HITS n.val) + 1) % 2 ^ 32)) ∧
  (∀ (r : Req) (n : Fin 4) (v : Word64) (s : State), let q := r.write (0x6050 + n.val) 5
    let own := s.dev.get (Obj.COMPARE_OWNER n.val)
    let a := v.toNat % 256
    s.dev.Admits q → s.dev.writeForbidden q.index 5 a = false →
    (1 ≤ a → a ≤ 4 → own = 0 ∨ own = 0x0100 → ∃ t, exec (.compareBehind r n true v) s = .next t ∧ t.store = s.store ∧
      t.dev.get (Obj.COMPARE_ACTION n.val) = a ∧ t.dev.get (Obj.COMPARE_OWNER n.val) = 0x0100) ∧
    (a = 0 → own = 0x0100 → ∃ t, exec (.compareBehind r n true v) s = .next t ∧ t.store = s.store ∧
      t.dev.get (Obj.COMPARE_ACTION n.val) = 0 ∧ t.dev.get (Obj.COMPARE_OWNER n.val) = 0 ∧
      t.dev.get (Obj.COMPARE_STATE n.val) = 0) ∧
    (a ≠ 0 → own ≠ 0 → own ≠ 0x0100 →
      exec (.compareBehind r n true v) s = .next { s with dev := (s.dev.heard q).refuse q .resourceBusy })) ∧
  (∀ (r : Req) (n : Fin 16) (s : State), let q := r.write (0x6060 + n.val) 5
    let o := s.dev.timerOwner n.val r.session.toNat
    s.dev.Admits q →
    (s.dev.writeForbidden q.index 5 1 = false → s.dev.free? (Obj.TIMER_OWNER n.val) o = true →
      s.dev.get (Obj.TIMER_ACTION n.val) ≠ 1 → ∃ t, exec (.timerEnable r n true) s = .next t ∧ t.store = s.store ∧
        t.dev.get (Obj.TIMER_ENABLE n.val) = 1 ∧ t.dev.get (Obj.TIMER_COUNT n.val) = s.dev.get (Obj.RELOAD n.val) ∧
        t.dev.get (Obj.TIMER_STATE n.val) = 1 ∧ t.dev.get (Obj.TIMER_OWNER n.val) = o) ∧
    (s.dev.writeForbidden q.index 5 1 = false → s.dev.free? (Obj.TIMER_OWNER n.val) o = false →
      exec (.timerEnable r n true) s = .next { s with dev := (s.dev.heard q).refuse q .resourceBusy }) ∧
    (s.dev.writeForbidden q.index 5 0 = false → ∃ t, exec (.timerEnable r n false) s = .next t ∧ t.store = s.store ∧
      t.dev.get (Obj.TIMER_ENABLE n.val) = 0 ∧ t.dev.get (Obj.TIMER_STATE n.val) = 0 ∧
      t.dev.get (Obj.TIMER_OWNER n.val) = 0)) ∧
  ∀ (n : Fin 16) (s : State), s.dev.get (Obj.TIMER_ENABLE n.val) = 1 → s.dev.get (Obj.TIMER_COUNT n.val) = 0 →
    let cmp := bits (s.dev.get (Obj.ARG n.val)) 1 0
    let acted := axisAct cmp (bits (s.dev.get (Obj.ARG n.val)) 15 8) s.dev
    ∃ t, exec (.timerExpiry n) s = .next t ∧ t.store = s.store ∧
      t.dev.get (Obj.EXPIRIES n.val) = (s.dev.get (Obj.EXPIRIES n.val) + 1) % 2 ^ 32 ∧
      (s.dev.get (Obj.TIMER_PERIODIC n.val) = 1 → t.dev.get (Obj.TIMER_COUNT n.val) = s.dev.get (Obj.RELOAD n.val) ∧
        t.dev.get (Obj.TIMER_ENABLE n.val) = 1) ∧
      (s.dev.get (Obj.TIMER_PERIODIC n.val) ≠ 1 → t.dev.get (Obj.TIMER_ENABLE n.val) = 0 ∧
        t.dev.get (Obj.TIMER_STATE n.val) = 2 ∧ t.dev.get (Obj.TIMER_OWNER n.val) = 0) ∧
      (s.dev.get (Obj.TIMER_ACTION n.val) = 1 →
        (t.dev.compareOut cmp).pulseEnd = some (s.dev.clock.raw + s.dev.get (Obj.PULSE_WIDTH cmp))) ∧
      (s.dev.get (Obj.TIMER_ACTION n.val) = 2 → t.dev.axes = acted.axes ∧
        t.dev.get (Obj.AXIS_STATE cmp) = acted.get (Obj.AXIS_STATE cmp) ∧
        t.dev.get (Obj.AXIS_COMMAND cmp) = acted.get (Obj.AXIS_COMMAND cmp))

/-! ### Tracking servo: 11_tracking_servo -/

/-- R380, R383: a timer update that is due makes one update of both axes and moves no residual; one that is not due makes
none. A disabled axis then sends code 0. An enabled axis whose source is VALID sends a code within its limits, and its
set-point moves by at most SLEW (R378, R385); axis 1 without a VALID source repeats its last code out of range (R396).
R385: the default biquad at rest passes its input unchanged, and renorm() leaves mantissas of 24 bits. R387: the region
rises to the largest band that |v| reaches. R395: COMMAND 1 clears both memories of an axis and leaves the other axis's. -/
def Obligations.ServoUpdatesKeepTheirLimits : Prop :=
  (∀ (at_ : Nat) (cross : Int) (s : State), s.dev.running = true → s.dev.strobing = false →
    let vals := s.dev.servoSettings.1
    (at_ < s.dev.servo.last + s.dev.idlePeriod → ∃ t, exec (.servoTimerUpdate at_ cross) s = .next t ∧ t.store = s.store ∧
      t.dev.servo = s.dev.servo) ∧
    (s.dev.servo.last + s.dev.idlePeriod ≤ at_ → ∃ t, exec (.servoTimerUpdate at_ cross) s = .next t ∧ t.store = s.store ∧
      t.dev.conv.rows = s.dev.conv.rows ∧ t.dev.servo.last = at_ ∧ ∀ a, a < 2 →
        (setting vals (Obj.SERVO_ENABLE a) = 0 → (t.dev.servo.axis a).u = 0 ∧ t.dev.get (Obj.SVSTAT_STATE a) = 0 ∧
          t.dev.get (Obj.SVSTAT_CODE a) = 0) ∧
        (setting vals (Obj.SERVO_ENABLE a) ≠ 0 → a = 0 ∨ s.dev.valid (s.dev.servoChannel 1) = true →
          s.dev.geti 32 (Obj.LIMIT_LO a) ≤ s.dev.geti 32 (Obj.LIMIT_HI a) →
          s.dev.geti 32 (Obj.LIMIT_LO a) ≤ (t.dev.servo.axis a).u ∧
          (t.dev.servo.axis a).u ≤ s.dev.geti 32 (Obj.LIMIT_HI a) ∧
          ((t.dev.servo.axis a).w - (s.dev.servo.axis a).w).natAbs ≤ setting vals (Obj.SLEW a)) ∧
        (setting vals (Obj.SERVO_ENABLE a) ≠ 0 → a = 1 → s.dev.valid (s.dev.servoChannel 1) = false →
          (t.dev.servo.axis 1).u = (s.dev.servo.axis 1).u ∧ t.dev.get (Obj.SVSTAT_STATE 1) = 3))) ∧
  (∀ (a b : Nat) (tabs : Map (List Byte)) (x : Int) (d : Dev), a < 2 → b < 4 → Map.get [] tabs (Obj.BIQUAD a b) = [] →
    d.table [] (Obj.BIQUAD a b) 12 = [0, 0x40, 0, 0, 0, 0, 0, 0, 0, 0, 1, 0] →
    (d.servo.axis a).bq.getD b (0, 0, 16) = (0, 0, 16) → -8388608 ≤ x → x ≤ 8388607 →
    (d.biquad a b tabs x).1 = x) ∧
  (∀ (l : List Int) (es n : Nat), ∀ x ∈ (renorm l es n).1, -8388608 ≤ x ∧ x ≤ 8388607) ∧
  (∀ (vals : Map Nat) (tabs : Map (List Byte)) (g v j : Nat) (d : Dev), let b := d.table tabs Obj.VBAND 28
    g < j → j < 8 → field b (4 * (j - 1)) 4 ≤ v → (∀ k, j < k → k < 8 → v < field b (4 * (k - 1)) 4) →
    d.regionOf vals tabs g v = j) ∧
  ∀ (r : Req) (a : Fin 2) (s : State), let q := r.write (0x6840 + a.val) 6
    s.dev.Admits q → s.dev.writeForbidden q.index 6 1 = false →
    ∃ t, exec (.rcClear r a) s = .next t ∧ t.store = s.store ∧ t.dev.servo.vals = s.dev.servo.vals ∧
      ∀ i, (i / 16384 = a.val → Map.get 0 t.dev.servo.rc i = 0) ∧
        (i / 16384 ≠ a.val → Map.get 0 t.dev.servo.rc i = Map.get 0 s.dev.servo.rc i)

/-! ### Auxiliary step axes: 12_auxiliary_axes -/

/-- R421: in a STATE that allows it, each axis command is carried out; COMMAND then reads its code with the outcome done
for ENABLE, DISABLE, ENGAGE and SET_POSITION, and in progress for MOVE, STOP, HOME and DISENGAGE. In another STATE it is
refused with STATE_FORBIDS. R403: a disabled axis's gates are low. R411: a TARGET written during a MOVE is the new goal at
once. R415: a MOVE toward a latched limit is refused with CHECK. No axis command touches exposure. -/
def Obligations.AxisCommandsChangeTheState : Prop :=
  (∀ (r : Req) (a : Fin 4) (s : State), let q := r.write (0x7060 + a.val) 2
    let st := s.dev.get (Obj.AXIS_STATE a.val)
    let target := s.dev.geti 32 (Obj.AXIS_TARGET a.val)
    let plain (c : Nat) (t : State) : Prop := t.store = s.store ∧ t.dev.conv = s.dev.conv ∧ t.dev.mode = s.dev.mode ∧
      t.dev.stripes = s.dev.stripes ∧ t.dev.get (Obj.AXIS_COMMAND a.val) = c
    let ok (c : Nat) : Prop := s.dev.writeForbidden q.index 2 c = false
    s.dev.Admits q →
    (ok 1 → st = 0 ∨ st = 6 → ∃ t, exec (.axisEnable r a) s = .next t ∧ plain 0x10 t ∧ t.dev.get (Obj.AXIS_STATE a.val) = 1 ∧
      t.dev.get (Obj.FAULT a.val) = 0 ∧ (t.dev.stepAxis a.val).run = false ∧
      (t.dev.stepAxis a.val).pos = (s.dev.stepAxis a.val).pos) ∧
    (ok 2 → st = 1 ∨ st = 6 → ∃ t, exec (.axisDisable r a) s = .next t ∧ plain 0x20 t ∧ t.dev.get (Obj.AXIS_STATE a.val) = 0 ∧
      t.dev.gates a.val 0 = 0 ∧ t.dev.gates a.val 1 = 0 ∧
      t.dev.get (Obj.REFERENCED a.val) = s.dev.get (Obj.REFERENCED a.val)) ∧
    (ok 3 → st = 1 ∨ st = 2 → s.dev.axisCheckFails a.val 3 = false → ∃ t, exec (.axisMove r a) s = .next t ∧ plain 0x32 t ∧
      t.dev.get (Obj.AXIS_STATE a.val) = 2 ∧ (t.dev.stepAxis a.val).goal = microsteps target ∧
      (t.dev.stepAxis a.val).pos = (s.dev.stepAxis a.val).pos) ∧
    (ok 4 → st = 2 ∨ st = 3 ∨ st = 4 → ∃ t, exec (.axisStop r a) s = .next t ∧ plain 0x42 t ∧
      t.dev.get (Obj.AXIS_STATE a.val) = 5 ∧ (t.dev.stepAxis a.val).stop = 2 ∧ (t.dev.stepAxis a.val).home = 0) ∧
    (ok 5 → st = 1 → s.dev.axisCheckFails a.val 5 = false → ∃ t, exec (.axisHome r a) s = .next t ∧ plain 0x52 t ∧
      t.dev.get (Obj.AXIS_STATE a.val) = 3 ∧ t.dev.get (Obj.REFERENCED a.val) = 0 ∧ (t.dev.stepAxis a.val).home ≠ 0 ∧
      (t.dev.stepAxis a.val).pos = (s.dev.stepAxis a.val).pos) ∧
    (ok 6 → st = 1 → s.dev.axisCheckFails a.val 6 = false → ∃ t, exec (.axisEngage r a) s = .next t ∧ plain 0x60 t ∧
      t.dev.get (Obj.AXIS_STATE a.val) = 4) ∧
    (ok 7 → st = 4 → ∃ t, exec (.axisDisengage r a) s = .next t ∧ plain 0x72 t ∧ t.dev.get (Obj.AXIS_STATE a.val) = 5 ∧
      (t.dev.stepAxis a.val).stop = 1) ∧
    (ok 8 → st = 1 → ∃ t, exec (.axisSetPosition r a) s = .next t ∧ plain 0x80 t ∧ t.dev.get (Obj.AXIS_STATE a.val) = 1 ∧
      (t.dev.stepAxis a.val).micro = target ∧ t.dev.get (Obj.REFERENCED a.val) = 1) ∧
    (ok 5 → 2 ≤ st → exec (.axisHome r a) s = .next { s with dev := ((s.dev.heard q).axisWord a.val 5 1).refuse q .stateForbids }) ∧
    (ok 3 → st = 1 ∨ st = 2 → s.dev.axisCheckFails a.val 3 = true →
      exec (.axisMove r a) s = .next { s with dev := ((s.dev.heard q).axisWord a.val 3 1).refuse q .check })) ∧
  ∀ (r : Req) (a : Fin 4) (v : Word32) (s : State), let q := r.write (0x7060 + a.val) 1
    s.dev.Admits q → s.dev.writeForbidden q.index 1 v.toNat = false →
    ∃ t, exec (.targetWrite r a v) s = .next t ∧ t.store = s.store ∧ t.dev.conv = s.dev.conv ∧ t.dev.mode = s.dev.mode ∧
      t.dev.get (Obj.AXIS_TARGET a.val) = v.toNat ∧ (t.dev.stepAxis a.val).pos = (s.dev.stepAxis a.val).pos ∧
      (s.dev.get (Obj.AXIS_STATE a.val) = 2 → (t.dev.stepAxis a.val).goal = microsteps (toSigned 32 v.toNat)) ∧
      (s.dev.get (Obj.AXIS_STATE a.val) ≠ 2 → t.dev.stepAxis a.val = s.dev.stepAxis a.val)

/-- R409: without JERK no tick takes an axis above its speed limits, and the tick on which a MOVE arrives sets the position
exactly to the target and the velocity to 0; an axis that does not move keeps both. R408: after HOLD_DELAY the level is
I_HOLD. R406: a comparator crossing, MAX_ON and the blanking time lead a phase through its cycle, and mixed decay becomes
slow after FAST_TIME. R407: the 16th consecutive MAX_ON is fault 1 and the 16th reading above upper at the end of the
blanking time is fault 2, with the gates low and the position kept. R414, R415: a limit's accepted active edge latches it,
and stops a MOVE toward it. R417: the home edge stops a search in HOME_DIR. Nothing else of the block changes mode or a
residual. -/
def Obligations.AxesMoveAndFaultAlone : Prop :=
  (∀ (a : Fin 4) (raw : Nat) (neg plus home : Bool) (s : State), s.dev.running = true →
    let x := s.dev.stepAxis a.val
    let r := s.dev.ramp a.val (s.dev.get (Obj.VMAX a.val)) (s.dev.get (Obj.DECEL a.val))
    let left := x.goal - x.pos
    let dir : Int := if left < 0 then -1 else 1
    ∃ t, exec (.profileTick a raw neg plus home) s = .next t ∧ t.store = s.store ∧ t.dev.conv = s.dev.conv ∧
      t.dev.mode = s.dev.mode ∧ t.dev.stripes = s.dev.stripes ∧
      (s.dev.axisMoves a.val = false → (t.dev.stepAxis a.val).pos = x.pos ∧ (t.dev.stepAxis a.val).vel = x.vel) ∧
      (s.dev.get (Obj.JERK a.val) = 0 → ∀ V : Int, x.vel.natAbs ≤ V → velocityUnits (s.dev.get (Obj.VMAX a.val)) ≤ V →
        velocityUnits (s.dev.get (Obj.HOME_SPEED a.val)) ≤ V → (t.dev.stepAxis a.val).vel.natAbs ≤ V) ∧
      (s.dev.get (Obj.AXIS_STATE a.val) = 2 → x.stop = 0 → r.arrives left.natAbs (dir * x.vel) = true →
        (t.dev.stepAxis a.val).pos = x.goal ∧ (t.dev.stepAxis a.val).vel = 0 ∧ t.dev.get (Obj.AXIS_STATE a.val) = 1)) ∧
  (∀ (a : Fin 4) (raw : Nat) (s : State), let x := s.dev.stepAxis a.val
    s.dev.running = true → x.run = true → x.vel = 0 → x.stillAt + 1000000 * s.dev.get (Obj.HOLD_DELAY a.val) ≤ raw →
    ∃ t, exec (.holdDelay a raw) s = .next t ∧ t.store = s.store ∧ t.dev.conv = s.dev.conv ∧
      (t.dev.stepAxis a.val).run = false ∧ (t.dev.stepAxis a.val).pos = x.pos) ∧
  (∀ (a : Fin 4) (p : Fin 2) (raw : Nat) (s : State), let x := s.dev.stepAxis a.val
    let h := x.phase p.val
    let state := Obj.AXIS_STATE a.val
    let faulted (cause : Nat) (t : State) : Prop := t.dev.get state = 6 ∧ t.dev.get (Obj.FAULT a.val) = cause ∧
      t.dev.gates a.val 0 = 0 ∧ t.dev.gates a.val 1 = 0 ∧ (t.dev.stepAxis a.val).pos = x.pos
    let apart (t : State) : Prop := t.store = s.store ∧ t.dev.conv = s.dev.conv ∧ t.dev.mode = s.dev.mode ∧
      t.dev.stripes = s.dev.stripes
    (h.stage = 2 → ∃ t, exec (.comparatorCrossing a p raw) s = .next t ∧ apart t ∧
      ((t.dev.stepAxis a.val).phase p.val).stage = 3 ∧ ((t.dev.stepAxis a.val).phase p.val).opens = 0) ∧
    (h.stage = 4 → ∃ t, exec (.comparatorCrossing a p raw) s = .next t ∧ apart t ∧
      ((t.dev.stepAxis a.val).phase p.val).stage = if s.dev.phaseCurrent a.val p.val = 0 then 0 else 1) ∧
    (h.stage = 1 ∨ h.stage = 2 → h.at_ + 1000 * s.dev.get (Obj.MAX_ON a.val) ≤ raw →
      ∃ t, exec (.maxOn a p raw) s = .next t ∧ apart t ∧
        (h.opens + 1 < 16 → ((t.dev.stepAxis a.val).phase p.val).stage = 3 ∧
          ((t.dev.stepAxis a.val).phase p.val).opens = h.opens + 1 ∧ t.dev.get state = s.dev.get state) ∧
        (16 ≤ h.opens + 1 → faulted 1 t)) ∧
    (h.stage = 1 → h.at_ + s.dev.get (Obj.BLANK_TIME a.val) ≤ raw →
      (∃ t, exec (.blankTime a p raw true) s = .next t ∧ apart t ∧
        (h.shorts + 1 < 16 → ((t.dev.stepAxis a.val).phase p.val).stage = 3) ∧ (16 ≤ h.shorts + 1 → faulted 2 t)) ∧
      ∃ t, exec (.blankTime a p raw false) s = .next t ∧ apart t ∧ ((t.dev.stepAxis a.val).phase p.val).stage = 2 ∧
        ((t.dev.stepAxis a.val).phase p.val).shorts = 0) ∧
    (h.fast = true → h.at_ + s.dev.get (Obj.FAST_TIME a.val) ≤ raw → ∃ t, exec (.fastTime a p raw) s = .next t ∧ apart t ∧
      ((t.dev.stepAxis a.val).phase p.val).fast = false ∧ ((t.dev.stepAxis a.val).phase p.val).stage = h.stage)) ∧
  ∀ (a : Fin 4) (n : Fin 3) (s : State), let x := s.dev.stepAxis a.val
    let w := x.switch n.val
    s.dev.running = true → w.cand ≠ w.level → s.dev.get (Obj.SWITCH_FILTER a.val) ≤ w.count →
    s.dev.get (Obj.SWITCH_CHANNEL a.val) ≤ 7 →
    ∃ t, exec (.switchEdge a n) s = .next t ∧ t.store = s.store ∧ t.dev.conv = s.dev.conv ∧ t.dev.mode = s.dev.mode ∧
      (t.dev.stepAxis a.val).pos = x.pos ∧ ((t.dev.stepAxis a.val).switch n.val).level = w.cand ∧
      (n.val ≠ 2 → w.cand = true → ((t.dev.stepAxis a.val).switch n.val).latched = true ∧
        (w.latched = false → s.dev.get (Obj.AXIS_STATE a.val) = 2 → s.dev.heading a.val = (if n.val = 0 then -1 else 1) →
          t.dev.get (Obj.AXIS_STATE a.val) = 5 ∧ (t.dev.stepAxis a.val).stop = 2)) ∧
      (n.val = 2 → w.cand = true → s.dev.get (Obj.AXIS_STATE a.val) = 3 → x.stop = 0 → x.home = 2 →
        signOf x.vel = s.dev.homeDir a.val →
        (t.dev.stepAxis a.val).stop = 1 ∧ (t.dev.stepAxis a.val).latch = w.candPos)

/-! ### Dose ledger, journal and recovery: 13_dose_ledger_and_recovery -/

/-- R449, R452: when ECHO_WAIT is over or every segment has reported, the echoes that pass R449 are kept and the replay
starts, or the package is awaited where the store lost its contents; CONTINUE goes on from there, and is refused with CHECK
unless the header's CRC is that of the accepted job. R434, R453: RECOVERY_DONE keeps every record made before, lists the rows
that never entered S0 as UNSTARTED, shows the segments without an echo, and sets RECOVERY_STATE to 4, or 5 where an echo is
missing. R459: a decision reaches the held records it names and no other, and is refused outside READY and SERVICE or
without a job. R460: the deficit map starts with a job open and no stripe in progress; where it fits it is written to its
address and nowhere else, and otherwise no byte is written (which pixels the map holds, and STATE 4 where it cannot be
replayed, is the model's reading, log entry 62). R455, R456: mend-pass stripes are numbered on and stay in their area. -/
def Obligations.RecoveryDecisionsAndMaps : Prop :=
  (∀ (raw : Nat) (c : Cut) (s : State), s.dev.rescue.cut = some c → s.dev.get Obj.RECOVERY_STATE = 1 →
    s.dev.mode = .service → s.dev.clock.raw ≤ raw →
    s.dev.rescue.at_ + s.dev.get Obj.ECHO_WAIT * 1000000 ≤ raw ∨ 64 ≤ s.dev.rescue.seen.length →
    let kept := s.dev.rescue.seen.filter fun e =>
      decide (c.ssnBase ≤ e.2.last ∧ e.2.last < c.c + 8192 ∧ c.disposed ≤ e.2.last + 1)
    ∃ t, exec (.echoWait raw) s = .next t ∧ t.store = s.store ∧ t.dev.ledger = s.dev.ledger ∧
      t.dev.rescue.cut = some { c with echoes := kept } ∧
      t.dev.get Obj.RECOVERY_STATE = (if s.dev.get Obj.CONTENTS_KEPT = 1 then 3 else 2)) ∧
  (∀ (r : Req) (s : State), let q := r.write 0x7830 6
    let head := s.dev.package.bytes s.store 0 256
    let crc := (s.dev.ledger.job.map (·.headerCrc)).getD 0
    s.dev.Admits q → s.dev.writeForbidden 0x7830 6 1 = false → s.dev.get Obj.RECOVERY_STATE = 2 →
    (field head 252 4 = crc → crc32c (head.take 252) = crc → ∃ t, exec (.recoveryContinue r) s = .next t ∧
      t.store = s.store ∧ t.dev.ledger.records = s.dev.ledger.records ∧
      t.dev.get Obj.RECOVERY_STATE = (if s.dev.rescue.cut.isSome then 3 else 4)) ∧
    (field head 252 4 ≠ crc ∨ crc32c (head.take 252) ≠ crc →
      exec (.recoveryContinue r) s = .next { s with dev := (s.dev.heard q).refuse q .check })) ∧
  (∀ (c : Cut) (o : Opening) (s : State), s.dev.get Obj.RECOVERY_STATE = 3 → s.dev.rescue.cut = some c →
    s.dev.ledger.openingAt c.ssnBase = some o →
    ∃ t, exec .recoveryDone s = .next t ∧ t.store = s.store ∧ t.dev.rescue.cut = none ∧
      t.dev.get Obj.RECOVERY_STATE = (if c.silent = 0 then 4 else 5) ∧ t.dev.get Obj.NO_ECHO = c.silent ∧
      s.dev.ledger.records <+: t.dev.ledger.records ∧
      ∀ p, s.dev.replayed s.store o = some p →
        let first := max (min (c.lastShot - c.ssnBase + 1) p.src.length) c.rowsDone
        first < p.src.length → ∃ x ∈ t.dev.ledger.records, x.reason = 0x10 ∧ x.stripe = p.ledgerStripe ∧
          x.rowFirst = p.rowOffset + first ∧ x.rowLast = p.rowOffset + p.src.length - 1 ∧ x.tcFirst = 0 ∧ x.tcLast = 31) ∧
  (∀ (r : Req) (stripe : Word32) (choice : Byte) (s : State), let q := r.write 0x7803 0
    s.dev.Admits q → 1 ≤ choice.toNat → choice.toNat ≤ 3 →
    (s.dev.mode = .ready ∨ s.dev.mode = .service → s.dev.jobOpen = true →
      ∃ t, exec (.decision r stripe choice) s = .next t ∧ t.store = s.store ∧ t.dev.conv.rows = s.dev.conv.rows ∧
        t.dev.ledger.records = s.dev.ledger.records.map (fun x =>
          if x.state = 3 ∧ (stripe.toNat = 0xFFFFFFFF ∨ x.stripe = stripe.toNat) then
            (if choice.toNat = 3 then { x with state := 6 } else { x with decision := choice.toNat })
          else x) ∧
        ∃ e ∈ t.dev.ledger.entries, e.code = 0x0B08 ∧ e.param 0 = stripe.toNat ∧ e.param 1 = choice.toNat) ∧
    (s.dev.mode ≠ .ready ∧ s.dev.mode ≠ .service ∨ s.dev.jobOpen = false →
      exec (.decision r stripe choice) s = .next { s with dev := (s.dev.heard q).refuse q .stateForbids })) ∧
  (∀ (r : Req) (s : State), let q := r.write 0x7840 5
    s.dev.Admits q → s.dev.writeForbidden 0x7840 5 1 = false → s.dev.get Obj.DMAP_STATE ≠ 1 →
    (s.dev.jobOpen = true → s.dev.stripes = [] → ∃ t, exec (.deficitMapStart r) s = .next t ∧ t.store = s.store ∧
      t.dev.get Obj.DMAP_STATE = 1 ∧ t.dev.get Obj.BYTES = 0 ∧ t.dev.ledger = s.dev.ledger) ∧
    (s.dev.jobOpen = false ∨ s.dev.stripes ≠ [] →
      exec (.deficitMapStart r) s = .next { s with dev := (s.dev.heard q).refuse q .stateForbids })) ∧
  (∀ (j : Nat) (s : State), s.dev.get Obj.DMAP_STATE = 1 → s.dev.dmapContext = some j →
    let a := s.dev.get Obj.DMAP_ADDR
    (∀ b, s.dev.deficitMap s.store = some b → b.length ≤ s.dev.get Obj.DMAP_LENGTH → s.dev.populated a b.length = true →
      ∃ t, exec .deficitMapDone s = .next t ∧ t.dev.get Obj.DMAP_STATE = 2 ∧ t.dev.get Obj.BYTES = b.length ∧
        (∀ i, i < b.length → Map.get 0 t.store (a + i) = b.getD i 0) ∧
        ∀ x, x < a ∨ a + b.length ≤ x → Map.get 0 t.store x = Map.get 0 s.store x) ∧
    (∀ b, s.dev.deficitMap s.store = some b → s.dev.get Obj.DMAP_LENGTH < b.length →
      ∃ t, exec .deficitMapDone s = .next t ∧ t.store = s.store ∧ t.dev.get Obj.DMAP_STATE = 3) ∧
    (s.dev.deficitMap s.store = none →
      ∃ t, exec .deficitMapDone s = .next t ∧ t.store = s.store ∧ t.dev.get Obj.DMAP_STATE = 4)) ∧
  (∀ (d : Dev) (mem : Map Byte) (gs : List MendGroup) (j pos : Nat),
    ((d.buildGroups mem j pos gs).map fun b => b.stripe.number)
      = (List.range (d.buildGroups mem j pos gs).length).map (j + ·) ∧
    ∀ b ∈ d.buildGroups mem j pos gs, pos ≤ b.pos ∧ b.pos + b.bytes.length ≤ d.get Obj.AREA_LENGTH) ∧
  ∀ (s : State), s.dev.get Obj.BUILD_STATE = 1 → s.dev.mode = .mend ∨ s.dev.mode = .hold →
    ∃ t, exec .mendRasterBuilt s = .next t ∧ t.dev.conv.rows = s.dev.conv.rows ∧
      (∀ x, x < s.dev.get Obj.AREA_BASE ∨ s.dev.get Obj.AREA_BASE + s.dev.get Obj.AREA_LENGTH ≤ x →
        Map.get 0 t.store x = Map.get 0 s.store x) ∧
      (s.dev.mendable = [] → (∀ x ∈ s.dev.ledger.records, x.state ≠ 1) →
        s.dev.jobOpen = false ∨ 2048 ≤ s.dev.journalFree →
        t.store = s.store ∧ t.dev.mode = .ready ∧ t.dev.get Obj.BUILD_STATE = 0)

/-! ### Layout store and on-chip memory: 14_layout_store, 15_on_chip_memory -/

/-- R467, R465: in the default layout store page P lies on rank number P mod N as its physical page u = P ÷ N, and its entry
spells them. R471, R469: INIT in SETUP with no job open starts a bring-up, which takes the timing and, after a change of a
setting, the layout of R467; STORE_STATE then reads 2, or 3 with no rank. R482: RETIRE sets role 3, and 4 where no page is left
to move; no byte of the store changes. CLEAR_REMAP empties the remap list (the bytes follow their physical pages, the model's
choice, log entry 73). R485: DONE clears AWAITING and the request, and a context that waited for no other page reads again; for
any other page it is refused with RANGE. R482, R486: a migrated page moves to the next free page with its bytes. -/
def Obligations.StoreBringsUpAndKeepsPages : Prop :=
  (∀ (t : StoreState) (p : Nat), let n := t.layout.length
    let r := t.layout.getD (p % n) 0
    let u := p / n
    p < storePages → t.remap = [] → 0 < n → u < t.perRank → u < 32768 → r < 48 →
      t.physical p = some (32768 * r + u) ∧ bits (t.entry p) 31 31 = 1 ∧ bits (t.entry p) 30 27 = r / 4 ∧
      bits (t.entry p) 26 25 = r % 4 ∧ bits (t.entry p) 24 20 = u % 32 ∧ bits (t.entry p) 19 10 = u / 32 ∧
      bits (t.entry p) 0 0 = bit01 (t.awaiting.contains p)) ∧
  (∀ (r : Req) (s : State), let q := r.write 0x8003 0
    let refused (a : Abort) : State := { s with dev := ((s.dev.heard q).put Obj.STORE_COMMAND 65536).refuse q a }
    s.dev.Admits q →
    (s.dev.mode = .setup → s.dev.jobOpen = false → s.dev.get Obj.STORE_STATE ≠ 1 →
      let d := s.dev.commanded q 4 0x01000000 fun d => (d.put Obj.STORE_STATE 1).put Obj.STORE_COMMAND 0x20000
      exec (.storeCommandInit r) s = .next { s with dev := d }) ∧
    (s.dev.mode ≠ .setup ∨ s.dev.jobOpen = true → exec (.storeCommandInit r) s = .next (refused .stateForbids)) ∧
    (s.dev.mode = .setup → s.dev.jobOpen = false → s.dev.get Obj.STORE_STATE = 1 →
      exec (.storeCommandInit r) s = .next (refused .busy)) ∧
    (s.dev.mode = .setup → s.dev.jobOpen = false →
      let clear (t : StoreState) : StoreState := { t with remap := [], awaiting := [], retiring := [], dirty := true }
      let d := s.dev.commanded q 4 0x03000000 fun d => (d.put Obj.STORE_COMMAND 0).onStore clear
      let mem := if s.dev.dram.remap = [] then s.store else relocate s.dev.dram d.dram s.store
      exec (.clearRemap r) s = .next { s with dev := d, store := mem }) ∧
    ∀ (ch : Fin 16) (k : Fin 4), let rank := 4 * ch.val + k.val
      (s.dev.writeForbidden 0x8003 0 (0x02000000 + ch.val * 256 + k.val) = false → ch.val < 12 →
        s.dev.role rank = 1 ∨ s.dev.role rank = 2 →
        (∃ j, j < 4 ∧ j ≠ k.val ∧ (s.dev.role (4 * ch.val + j) = 1 ∨ s.dev.role (4 * ch.val + j) = 2)) →
        ∃ t, exec (.storeRetire r ch k) s = .next t ∧ t.store = s.store ∧ t.dev.dram.remap = s.dev.dram.remap ∧
          (s.dev.dram.pagesOn rank ≠ [] → t.dev.role rank = 3 ∧ rank ∈ t.dev.dram.retiring) ∧
          (s.dev.dram.pagesOn rank = [] → t.dev.role rank = 4 ∧ rank ∉ t.dev.dram.retiring)) ∧
      (s.dev.writeForbidden 0x8003 0 (0x02000000 + ch.val * 256 + k.val) = false → 12 ≤ ch.val →
        exec (.storeRetire r ch k) s = .next (refused .range))) ∧
  (∀ (held : Bool) (s : State), s.dev.mode ≠ .wake → s.dev.get Obj.STORE_STATE = 1 →
    ∃ t, exec (.storeInit [] held) s = .next t ∧ t.dev.ledger = s.dev.ledger ∧
      t.dev.dram.timing = (List.range 13).map (fun j => s.dev.get (Obj.TIMING_VALUE j)) ∧
      t.dev.get Obj.STORE_STATE = (if t.dev.dram.layout = [] then 3 else 2) ∧
      (s.dev.dram.dirty = true → t.dev.dram.layout = s.dev.ranksOf 1 ∧ t.dev.dram.spares = s.dev.ranksOf 2 ∧
        t.dev.dram.remap = [] ∧ t.dev.dram.dirty = false) ∧
      (s.dev.dram.dirty = false → s.dev.dram.perRank ≠ 0 →
        t.dev.dram.layout = s.dev.dram.layout ∧ t.dev.dram.remap = s.dev.dram.remap ∧ (held = true → t.store = s.store)) ∧
      (held = false → t.store = [])) ∧
  (∀ (r : Req) (page : Word32) (s : State), let q := r.write 0x8040 5
    let p := page.toNat
    s.dev.Admits q → s.dev.writeForbidden 0x8040 5 p = false →
    (s.dev.dram.refetch.contains p = true →
      let back (t : StoreState) : StoreState :=
        { t with awaiting := t.awaiting.filter fun x => x ≠ p, refetch := t.refetch.filter fun x => x ≠ p }
      exec (.refetchDone r page) s = .next { s with dev := s.dev.commanded q 4 p fun d =>
        ((d.onStore back).raiseJ 0x4200 0x0C07 noShot [p, q.session] []).refetched p }) ∧
    (s.dev.dram.refetch.contains p = false →
      exec (.refetchDone r page) s = .next { s with dev := (s.dev.heard q).refuse q .range })) ∧
  (∀ (p q : Nat) (c : Context) (d : Dev), d.ctx q = some c → (∀ e ∈ d.unfold.contexts, e.1 = q → e.2 = c) →
    let after := (d.refetched p).ctx q
    let waits := c.state = 4 ∧ c.waits = 1 ∧ p ∈ c.pages
    (waits → (∀ x ∈ c.pages, x = p) → after = some { c with state := 1, waits := 0, pages := [] }) ∧
    (waits → (∃ x ∈ c.pages, x ≠ p) → after = some { c with pages := c.pages.filter fun x => x ≠ p }) ∧
    (¬ waits → after = some c)) ∧
  ∀ (rank p x : Nat) (s : State), s.dev.running = true → s.dev.get Obj.STORE_STATE = 2 →
    s.dev.migrating = some (rank, p) → s.dev.freePage = some x → (∀ e ∈ s.dev.feed.channels, e.2.units = []) →
    ∃ t, exec .pageMigration s = .next t ∧ t.store = s.store ∧ t.dev.dram.remap = s.dev.dram.remap ++ [(p, some x)] ∧
      t.dev.dram.physical p = some x ∧ ∀ p', p' ≠ p → t.dev.dram.physical p' = s.dev.dram.physical p'

/-- R474, R483: data that a context waits for reach it and fill its window; a lost burst among them, or a page that awaits its
refetch, suspends a context of a stripe or of a deficit map until the refetch. R481:
a command error is recorded; a second one of the rank within 1 ms retires it. R481, R482, R487: PATROL counts a corrected
burst; an uncorrectable one is counted, retires the rank, and the page's bytes read as zero until they are written again (what
they read as is the model's choice, log entry 3). R478: a refresh of a rank with no real-time request is
issued, one of a busy rank is owed up to POSTPONE_LIMIT and then forced; a poll changes the rate and records it. R477: a rank
with no request goes to power-down unless IDLE_PD is 0. -/
def Obligations.StoreErrorsAndRefresh : Prop :=
  (∀ (q : Fin 160) (c : Context) (s : State), s.dev.running = true → s.dev.isCheckJob q.val = false →
    s.dev.ctx q.val = some c → c.state = 1 →
    let v := s.dev.readRange q.val s.store
    let filled := ((s.dev.unitOf q.val c s.store).map c.fillWindow).getD c
    (v.2 = 0 ∨ s.dev.awaits v.1 v.2 = false →
      ∃ t, exec (.storeReadComplete q [] []) s = .next t ∧ t.store = s.store ∧ t.dev.ledger = s.dev.ledger ∧
        t.dev.ctx q.val = some { filled with state := 2 }) ∧
    ∀ corrected lost, c.serves = .tiles ∨ c.serves = .map → 0 < v.2 →
      (∃ a ∈ lost, v.1 ≤ a / 64 * 64 + 63 ∧ a / 64 * 64 < v.1 + v.2) ∨ s.dev.awaits v.1 v.2 = true →
      ∃ t, exec (.storeReadComplete q corrected lost) s = .next t ∧ ∃ c', t.dev.ctx q.val = some c' ∧
        c' = { c with state := 4, waits := 1, pages := c'.pages } ∧ c'.pages ≠ [] ∧ ∀ p ∈ c'.pages, p ∈ pagesOf v.1 v.2) ∧
  (∀ (ch : Fin 12) (k : Fin 4) (s : State), let rank := 4 * ch.val + k.val
    let last := Map.get 0 s.dev.dram.commandError rank
    s.dev.running = true →
    (last = 0 ∨ last + 1000000 ≤ s.dev.clock.raw + 1 →
      ∃ t, exec (.commandError ch [k]) s = .next t ∧ t.store = s.store ∧ t.dev.dram = { s.dev.dram with
        commandError := Map.put 0 rank (s.dev.clock.raw + 1) s.dev.dram.commandError }) ∧
    (last ≠ 0 → s.dev.clock.raw + 1 < last + 1000000 → s.dev.role rank = 1 ∨ s.dev.role rank = 2 →
      ∃ t, exec (.commandError ch [k]) s = .next t ∧ (t.dev.role rank = 3 ∨ t.dev.role rank = 4) ∧
        Map.get 0 t.dev.dram.commandError rank = s.dev.clock.raw + 1)) ∧
  (∀ (p a x : Nat) (s : State), s.dev.running = true → s.dev.get Obj.PATROL_HOURS ≠ 0 → s.dev.neededPage p s.store = true →
    s.dev.dram.physical p = some x → x / 32768 < 48 → a / pageBytes = p → let rank := x / 32768
    (∃ t, exec (.patrol p [] []) s = .next t ∧ t.store = s.store ∧ t.dev = { s.dev with dram := t.dev.dram } ∧
      t.dev.dram.remap = s.dev.dram.remap ∧ t.dev.dram.layout = s.dev.dram.layout) ∧
    (s.dev.get Obj.RETIRE_CORRECTED = 0 → ∃ t, exec (.patrol p [a] []) s = .next t ∧ t.store = s.store ∧
      t.dev.get (Obj.RANK_CORRECTED (rank / 4) (rank % 4))
        = (s.dev.get (Obj.RANK_CORRECTED (rank / 4) (rank % 4)) + 1) % 2 ^ 32 ∧
      t.dev.role rank = s.dev.role rank ∧ t.dev.dram.remap = s.dev.dram.remap) ∧
    (s.dev.role rank = 1 ∨ s.dev.role rank = 2 → ∃ t, exec (.patrol p [] [a]) s = .next t ∧
      t.dev.get (Obj.RANK_UNCORRECTABLE (rank / 4) (rank % 4))
        = (s.dev.get (Obj.RANK_UNCORRECTABLE (rank / 4) (rank % 4)) + 1) % 2 ^ 32 ∧
      (t.dev.role rank = 3 ∨ t.dev.role rank = 4) ∧
      ∀ i, i < pageBytes → Map.get 0 t.store (p * pageBytes + i) = 0)) ∧
  ∀ (ch : Fin 12) (k : Fin 4) (s : State), let rank := 4 * ch.val + k.val
    let debt := Map.get 0 s.dev.dram.debt rank
    let limit := s.dev.get Obj.POSTPONE_LIMIT
    let apart (t : State) : Prop := t.store = s.store ∧ t.dev.ledger = s.dev.ledger ∧ t.dev.unfold = s.dev.unfold ∧
      t.dev.dram.layout = s.dev.dram.layout ∧ t.dev.dram.remap = s.dev.dram.remap
    s.dev.rankUp rank = true →
    (s.dev.rankAsked true rank s.store = false → ∃ t, exec (.refreshDue ch k false) s = .next t ∧ apart t ∧ Map.get 0 t.dev.dram.debt rank = 0 ∧
      rank ∉ t.dev.dram.powerDown ∧ t.dev.objs = s.dev.objs) ∧
    (debt + 1 ≤ limit → ∃ t, exec (.refreshDue ch k true) s = .next t ∧ apart t ∧
      Map.get 0 t.dev.dram.debt rank = debt + 1 ∧ t.dev.dram.powerDown = s.dev.dram.powerDown ∧ t.dev.objs = s.dev.objs) ∧
    (limit < debt + 1 → ∃ t, exec (.refreshDue ch k true) s = .next t ∧ apart t ∧
      Map.get 0 t.dev.dram.debt rank = limit ∧ rank ∉ t.dev.dram.powerDown ∧
      t.dev.get Obj.FORCED_REFRESHES = (s.dev.get Obj.FORCED_REFRESHES + 1) % 2 ^ 32) ∧
    (∀ doubled, s.dev.dram.doubled.contains rank = ! doubled →
      ∃ t, exec (.temperaturePoll ch k doubled) s = .next t ∧ apart t ∧ t.dev.dram.doubled.contains rank = doubled ∧
        (s.dev.recorder.queue.length < 1024 → ∃ e ∈ t.dev.recorder.queue, e.code = 0x0C09 ∧
          e.params = [rankWord rank, if doubled then 2 else 1, 0, 0])) ∧
    (∀ doubled, s.dev.dram.doubled.contains rank = doubled → exec (.temperaturePoll ch k doubled) s = .next s) ∧
    (s.dev.get Obj.IDLE_PD ≠ 0 → s.dev.rankAsked false rank s.store = false → ∃ t, exec (.idlePd ch k) s = .next t ∧ apart t ∧ rank ∈ t.dev.dram.powerDown) ∧
    (s.dev.get Obj.IDLE_PD = 0 ∨ s.dev.rankAsked false rank s.store = true → exec (.idlePd ch k) s = .next s)

/-- R500, R501: CHECKER_TEST in TEST tests every checker: with no failure it passes, a failure outside the segments' sub-arrays
fails it and names the array and the instance; elsewhere it is refused with STATE_FORBIDS. R493, R497, R499: with rinse on, a
rinse read steps its instance to the next word; an error that it finds is counted with its instance and address, and where the
word holds nothing that its owner reads again, nothing else changes. -/
def Obligations.CheckersAndRinse : Prop :=
  (∀ (r : Req) (s : State), let q := r.write 0x8830 0
    let ended (result array part : Nat) (d : Dev) : Dev :=
      ((d.put Obj.CHKRES_RESULT result).put Obj.ARRAY array).put Obj.CHKRES_INSTANCE part
    s.dev.Admits q →
    (s.dev.mode = .test → exec (.checkerTest r [] []) s = .next { s with dev := s.dev.commanded q 1 1 (ended 1 0xFF 0) }) ∧
    (s.dev.mode = .test → ∀ f : ArrayFault, f.part < 65536 → ∃ t, exec (.checkerTest r [] [f]) s = .next t ∧ t.store = s.store ∧
      t.dev.get Obj.CHKRES_RESULT = 2 ∧ t.dev.get Obj.ARRAY = f.array.val ∧ t.dev.get Obj.CHKRES_INSTANCE = f.part) ∧
    (s.dev.mode ≠ .test → ∀ subs arrays,
      exec (.checkerTest r subs arrays) s = .next { s with dev := (s.dev.heard q).refuse q .stateForbids })) ∧
  ∀ (id : Fin 15) (part : Nat) (s : State), let key := 1024 * id.val + part
    let at_ := Map.get 0 s.dev.rinse.next key
    let stepped (t : State) : Prop := t.store = s.store ∧ t.dev.ledger.records = s.dev.ledger.records ∧
      t.dev.unfold = s.dev.unfold ∧ Map.get 0 t.dev.rinse.next key = (at_ + 1) % arrayWords id.val
    let noted (t : State) : Prop := t.dev.get (Obj.LAST_INSTANCE id.val) = part ∧ t.dev.get (Obj.LAST_ADDRESS id.val) = at_
    s.dev.running = true → s.dev.get Obj.RINSE_ON ≠ 0 → hasInstance id.val part = true →
    (∀ holds, ∃ t, exec (.rinseRead id part s.dev.clock.raw .clean holds) s = .next t ∧ stepped t) ∧
    (∃ t, exec (.rinseRead id part s.dev.clock.raw .corrected .nothing) s = .next t ∧ stepped t ∧ noted t ∧
      t.dev.get (Obj.ARRAY_CORRECTED id.val) = (s.dev.get (Obj.ARRAY_CORRECTED id.val) + 1) % 2 ^ 32) ∧
    ∃ t, exec (.rinseRead id part s.dev.clock.raw .uncorrectable .nothing) s = .next t ∧ stepped t ∧ noted t ∧
      t.dev.get (Obj.ARRAY_UNCORRECTABLE id.val) = (s.dev.get (Obj.ARRAY_UNCORRECTABLE id.val) + 1) % 2 ^ 32

/-! ### Time: 16_time -/

/-- R505, R506: a change of the rate keeps T continuous, and the rate stays within its limit. R513, R514: θ of a Sync from the
master steps T once in FREE and moves the rate only in LOCKING and LOCKED; in HOLDOVER and PATH_HOLD the clock stays. A
two-step Sync waits for its Follow_Up. R515: a delay sample near the baseline moves it by a sixteenth; the third one beyond
the threshold holds the rate. R516: the hold ends at settled samples with their mean as the new baseline, and restarts at
unsettled ones. R514: without a qualified master the rate is held at the integral term. R511: the PTP port moves to the other
network port when the active one has no link. R507: STEP_AGAIN returns the servo to FREE in SETUP and TEST with no job open. -/
def Obligations.TheClockFollowsItsMaster : Prop :=
  (∀ (d : Dev) (raw : Nat) (rho : Int), (d.setRate raw rho).timeAt raw = d.timeAt raw ∧
    (d.setRate raw rho).clock.omega
      = d.clock.omega + raw * d.clock.rho / 4294967296 - raw * (d.setRate raw rho).clock.rho / 4294967296 ∧
    (rho.natAbs ≤ 140737488355 → (d.setRate raw rho).clock.rho = rho) ∧
    (d.setRate raw rho).clock.rho.natAbs ≤ 140737488355) ∧
  (∀ (h : Ptp) (origin : Int) (interval : Nat) (s : State), let d := s.dev.at h.raw
    let t2 := d.rxTime h.port.val h.raw
    let acted (theta : Int) (t : State) : Prop :=
      let state := d.get Obj.SERVO_STATE
      t.store = s.store ∧ t.dev.ledger = s.dev.ledger ∧ t.dev.conv = s.dev.conv ∧
      t.dev.get Obj.OFFSET_FROM_MASTER = ofSigned 64 theta ∧ t.dev.clock.waiting = none ∧ t.dev.clock.raw = d.clock.raw ∧
      (d.clock.sampleValid = true → state = 0 → t.dev.clock.omega = d.clock.omega - theta ∧ t.dev.clock.rho = d.clock.rho ∧
        t.dev.get Obj.SERVO_STATE = 1 ∧ t.dev.get Obj.STEPPED = 1) ∧
      (d.clock.sampleValid = true → state = 1 ∨ state = 2 → t.dev.timeAt h.raw = d.timeAt h.raw ∧
        t.dev.clock.rho.natAbs ≤ 140737488355 ∧ (t.dev.get Obj.SERVO_STATE = 1 ∨ t.dev.get Obj.SERVO_STATE = 2)) ∧
      (d.clock.sampleValid = false ∨ state = 3 ∨ state = 4 → t.dev.clock.rho = d.clock.rho ∧
        t.dev.clock.omega = d.clock.omega ∧ t.dev.get Obj.SERVO_STATE = state)
    (d.forPtp true false h = true → d.fromMaster h = true →
      (∃ t, exec (.sync h false origin interval) s = .next t ∧
        acted (t2 - (origin + h.correction) - d.geti 64 Obj.MEAN_PATH_DELAY - d.geti 64 Obj.ASYMMETRY) t) ∧
      let waits (c : Clock) : Clock := { c with waiting := some (h.source, h.sequence, t2, h.correction, interval) }
      exec (.sync h true origin interval) s = .next { s with dev := d.onClock waits }) ∧
    ∀ x corr, d.forPtp false false h = true → d.clock.waiting = some (h.source, h.sequence, x, corr, interval) →
      ∃ t, exec (.followUp h origin) s = .next t ∧
        acted (x - (origin + (corr + h.correction)) - d.geti 64 Obj.MEAN_PATH_DELAY - d.geti 64 Obj.ASYMMETRY) t) ∧
  (∀ (h : Ptp) (a b : Int) (s : State), let d := s.dev.at h.raw
    let base := d.geti 64 Obj.BASELINE
    let limit := d.get Obj.CHANGE_THRESHOLD * 65536
    let state := d.get Obj.SERVO_STATE
    let sampled (delta : Int) (t : State) : Prop := t.store = s.store ∧ t.dev.ledger = s.dev.ledger ∧
      t.dev.clock.rho = d.clock.rho ∧ t.dev.clock.omega = d.clock.omega ∧
      t.dev.get Obj.MEAN_PATH_DELAY = ofSigned 64 delta ∧
      (d.clock.baselineSet = true → (delta - base).natAbs ≤ limit → t.dev.clock.sampleValid = true ∧
        t.dev.get Obj.BASELINE = ofSigned 64 (base + (delta - base) / 16) ∧ t.dev.get Obj.SERVO_STATE = state) ∧
      (d.clock.baselineSet = true → limit < (delta - base).natAbs → t.dev.clock.sampleValid = false ∧
        t.dev.get Obj.BASELINE = d.get Obj.BASELINE ∧
        (d.clock.jumps < 2 → t.dev.get Obj.SERVO_STATE = state ∧ t.dev.clock.jumps = d.clock.jumps + 1) ∧
        (d.clock.jumps = 2 → state = 1 ∨ state = 2 → t.dev.get Obj.SERVO_STATE = 4 ∧ t.dev.clock.holdAt = h.raw))
    state ≠ 4 → h.requester = Config.clockIdentity →
    (d.forPtp false false h = true → d.fromMaster h = true → d.get Obj.DELAY_MECHANISM = 1 → h.sequence = d.clock.delaySeq →
      ∃ t, exec (.delayResp h a) s = .next t ∧
        sampled ((d.clock.t2 - d.clock.t1 + (a - h.correction) - d.clock.delaySent) / 2) t) ∧
    (d.forPtp true true h = true → d.get Obj.DELAY_MECHANISM = 2 → h.sequence = d.clock.pdelaySeq →
      ∃ t, exec (.pdelayResp h a b) s = .next t ∧
        sampled ((d.rxTime h.port.val h.raw - d.clock.pdelaySent - (b - a) - h.correction) / 2) t)) ∧
  (∀ (raw : Nat) (s : State), let d := s.dev.at raw
    let state := d.get Obj.SERVO_STATE
    let p := d.get Obj.ACTIVE_PORT
    let apart (t : State) : Prop := t.store = s.store ∧ t.dev.ledger = s.dev.ledger ∧ t.dev.conv = s.dev.conv
    d.running = true →
    (state = 1 ∨ state = 2 ∨ state = 4 → d.qualified raw 0 = [] → d.qualified raw 1 = [] →
      ∃ t, exec (.holdover raw) s = .next t ∧ apart t ∧ t.dev.get Obj.SERVO_STATE = 3 ∧
        t.dev.clock.rho = clampInt (-140737488355) 140737488355 d.clock.ii ∧ t.dev.timeAt raw = d.timeAt raw) ∧
    (∀ x xs, state = 4 → d.clock.holdAt + d.get Obj.HOLD_TIME * 1000000 ≤ raw →
      (d.clock.holdSamples.filter fun e => decide (d.clock.holdAt + d.get Obj.HOLD_TIME * 1000000 * 3 / 4 ≤ e.1)).map Prod.snd
        = x :: xs →
      ∃ t, exec (.pathHoldEnd raw) s = .next t ∧ apart t ∧ t.dev.clock.rho = d.clock.rho ∧ t.dev.clock.omega = d.clock.omega ∧
        (xs.foldl max x - xs.foldl min x ≤ (d.get Obj.CHANGE_THRESHOLD : Int) * 65536 → t.dev.get Obj.SERVO_STATE = 1 ∧
          t.dev.get Obj.BASELINE = ofSigned 64 (xs.foldl (· + ·) x / ((x :: xs).length : Int))) ∧
        ((d.get Obj.CHANGE_THRESHOLD : Int) * 65536 < xs.foldl max x - xs.foldl min x →
          t.dev.get Obj.SERVO_STATE = 4 ∧ t.dev.clock.holdAt = raw ∧ t.dev.get Obj.BASELINE = d.get Obj.BASELINE)) ∧
    (d.get (Obj.NET_LINK_STATE p) = 0 ∨ d.qualified raw p = [] ∧ d.qualified raw (1 - p) ≠ [] → state ≠ 3 →
      ∃ t, exec (.ptpPortSwitch raw) s = .next t ∧ apart t ∧ t.dev.get Obj.ACTIVE_PORT = 1 - p ∧
        t.dev.get Obj.PATH_CHANGES = (d.get Obj.PATH_CHANGES + 1) % 2 ^ 32 ∧
        t.dev.get Obj.SERVO_STATE = if state = 1 ∨ state = 2 then 4 else state)) ∧
  ∀ (r : Req) (s : State), let q := r.write 0x9003 0
    s.dev.Admits q →
    (s.dev.mode = .setup ∨ s.dev.mode = .test → s.dev.jobOpen = false →
      ∃ t, exec (.stepAgain r) s = .next t ∧ t.store = s.store ∧ t.dev.get Obj.SERVO_STATE = 0 ∧
        t.dev.clock.rho = s.dev.clock.rho ∧ t.dev.clock.omega = s.dev.clock.omega) ∧
    (s.dev.mode ≠ .setup ∧ s.dev.mode ≠ .test ∨ s.dev.jobOpen = true →
      exec (.stepAgain r) s = .next { s with dev := (s.dev.heard q).refuse q .stateForbids })

/-- R509, R510, R512: the device answers a Delay_Req as master with its receive time, and a Pdelay_Req under the peer-to-peer
profile with the turnaround in correctionField (a free value: the spec gives the answer no time, log entry 1); it transmits its
own messages in its domain, on its transport, with the next sequenceId and their transmit time, ns in the timestamp field and
the fraction in correctionField; an Announce addressed to the device is kept on its port. R518,
R519: an enabled edge is stamped into the queue of 256 captures, a full queue drops it and counts; CAPTURE_NEXT discards the
oldest. R521 to R523: ARM makes an entry wait for its launch time, or refuses it with RANGE; CANCEL ends it; at the time, and once the
frame before has left the port, the frame is sent, or the entry ends with the status of its failure. -/
def Obligations.MessagesCapturesAndLaunches : Prop :=
  (∀ (h : Ptp) (s : State), let d := s.dev.at h.raw
    let sent (e : Dev) (kind : PtpKind) (event peer : Bool) (time correction : Int) : Dev :=
      let tr := d.get Obj.TRANSPORT
      e.send (.ptp (d.get Obj.ACTIVE_PORT) tr (ptpDestination tr peer) (ptpUdp tr event) (d.get Obj.DOMAIN) kind h.sequence
        (time / 65536) correction)
    let rx := d.rxTime h.port.val h.raw
    (d.forPtp true true h = true → d.get Obj.DELAY_MECHANISM = 2 → ∃ turnaround : Nat, exec (.pdelayReq h) s
      = .next { s with dev := sent d.takeFree.2 (.pdelayResp h.source) true true 0 (h.correction + turnaround) }) ∧
    (d.forPtp true false h = true → d.get Obj.DELAY_MECHANISM = 1 → d.get Obj.PORT_STATE = 6 → exec (.delayReqReceipt h) s
      = .next { s with dev := sent d (.delayResp h.source) false false rx (h.correction - rx % 65536) }) ∧
    ∀ a : AnnounceData, d.ptpAddressed false false h = true → ∃ t, exec (.announce h a) s = .next t ∧ t.store = s.store ∧ t.dev.ledger = s.dev.ledger ∧
      (t.dev.clock.masters.head?.map fun m => (m.port, m.data, m.at_)) = some (h.port.val, a, h.raw) ∧
      t.dev.clock.rho = d.clock.rho ∧ t.dev.clock.omega = d.clock.omega) ∧
  (∀ (raw : Nat) (s : State), let d := s.dev.at raw
    let p := d.get Obj.ACTIVE_PORT
    let tx := d.txTime p raw
    let sent (e : Dev) (kind : PtpKind) (event peer : Bool) (n : Nat) (time : Int) : Dev :=
      let tr := d.get Obj.TRANSPORT
      e.send (.ptp p tr (ptpDestination tr peer) (ptpUdp tr event) (d.get Obj.DOMAIN) kind n (time / 65536) (time % 65536))
    d.running = true →
    (d.get Obj.PORT_STATE = 9 → d.get Obj.DELAY_MECHANISM = 1 → let n := (d.clock.delaySeq + 1) % 2 ^ 16
      let e := d.onClock fun c => { c with delaySeq := n, delaySent := tx }
      exec (.delayReq raw) s = .next { s with dev := sent e .delayReq true false n tx }) ∧
    (d.get Obj.DELAY_MECHANISM = 2 → let n := (d.clock.pdelaySeq + 1) % 2 ^ 16
      let e := d.onClock fun c => { c with pdelaySeq := n, pdelaySent := tx }
      exec (.pdelayReqInterval raw) s = .next { s with dev := sent e .pdelayReq true true n tx }) ∧
    (d.get Obj.PORT_STATE = 6 → let n := d.clock.syncSeq
      let e := d.onClock fun c => { c with syncSeq := (n + 1) % 2 ^ 16 }
      exec (.syncInterval raw) s = .next { s with dev := sent e .sync true false n tx }) ∧
    (d.get Obj.PORT_STATE = 6 → let n := d.clock.announceSeq
      let e := d.onClock fun c => { c with announceSeq := (n + 1) % 2 ^ 16 }
      exec (.announceInterval raw) s = .next { s with dev := sent e (.announce d.ownData) false false n 0 })) ∧
  (∀ (n : Fin 4) (up : Bool) (s : State), let d := s.dev.at s.dev.clock.raw
    let raw := d.clock.raw
    let join (r : CaptureRecord) (c : Clock) : Clock :=
      { c with captures := c.captures ++ [r], captureSeq := (c.captureSeq + 1) % 2 ^ 32 }
    let stamped (source : Nat) (t : State) : Prop := ∃ r : CaptureRecord, t = { s with dev := d.onClock (join r) } ∧
      r.raw = raw ∧ r.source = source ∧ r.edge = (if up then 1 else 2) ∧ r.seq = d.clock.captureSeq ∧ r.ssn = d.ssnNext ∧
      r.tNs = ofSigned 64 (d.timeAt raw / 65536)
    let dropped (t : State) : Prop := t.store = s.store ∧ t.dev.clock.captures = d.clock.captures ∧
      t.dev.get Obj.CAPTURE_OVERFLOWS = (d.get Obj.CAPTURE_OVERFLOWS + 1) % 2 ^ 32
    d.running = true →
    (d.bit Obj.PROBE_SELECT n.val = true → ∃ t, exec (.capture (.probe n up) s.dev.clock.raw) s = .next t ∧
      (d.clock.captures.length < 256 → stamped n.val t) ∧ (256 ≤ d.clock.captures.length → dropped t)) ∧
    (d.bit Obj.ILK_SELECT n.val = true → ∃ t, exec (.capture (.ilk n up) s.dev.clock.raw) s = .next t ∧
      (d.clock.captures.length < 256 → stamped (4 + n.val) t) ∧ (256 ≤ d.clock.captures.length → dropped t)) ∧
    (d.bit Obj.PROBE_SELECT n.val = false →
      exec (.capture (.probe n up) s.dev.clock.raw) s = .next { s with dev := d })) ∧
  (∀ (r : Req) (s : State), let q := r.write 0x9032 0
    s.dev.Admits q → s.dev.writeForbidden 0x9032 0 1 = false →
    let next (c : Clock) : Clock := { c with captures := c.captures.drop 1 }
    let d := s.dev.commanded q 1 1 fun d => (d.put Obj.CAPTURE_NEXT 1).onClock next
    exec (.captureNext r) s = .next { s with dev := d }) ∧
  (∀ (r : Req) (e : Fin 64) (s : State), let q := r.write (0x9040 + e.val) 7
    let n := s.dev.get (Obj.LAUNCH_LENGTH e.val)
    let bad := n < 60 ∨ 1536 < n ∨ s.dev.bit (Obj.LAUNCH_FLAGS e.val) 0 = true ∧ n < s.dev.get (Obj.TS_OFFSET e.val) + 10
    let now := s.dev.txTime (s.dev.get (Obj.LAUNCH_PORT e.val)) s.dev.clock.raw / 65536
    s.dev.Admits q → s.dev.writeForbidden (0x9040 + e.val) 7 1 = false →
    let commanded (v status : Nat) : Dev := s.dev.commanded q 1 v fun d =>
      (d.put (Obj.LAUNCH_COMMAND e.val) v).put (Obj.LAUNCH_STATUS e.val) status
    (¬ bad → now ≤ s.dev.get (Obj.TIME_NS e.val) → exec (.launchArm r e) s = .next { s with dev := commanded 1 1 }) ∧
    (bad → exec (.launchArm r e) s = .next { s with dev := (s.dev.heard q).refuse q .range }) ∧
    exec (.launchCancel r e) s = .next { s with dev := commanded 2 6 }) ∧
  ∀ (e : Fin 64) (raw : Nat) (s : State), let d := s.dev.at raw
    let p := d.get (Obj.LAUNCH_PORT e.val)
    let accuracy : Int := if d.get (Obj.NET_MODE p) = 1 then 524288 else 419430
    let at_ := d.txTime p raw
    let due := (d.get (Obj.TIME_NS e.val) : Int) * 65536
    let ended (status : Nat) (t : State) : Prop := t.store = s.store ∧ t.dev.ledger = s.dev.ledger ∧
      t.dev.get (Obj.LAUNCH_STATUS e.val) = status
    let bytes := d.launchBytes e.val (d.get (Obj.TIME_NS e.val))
    d.running = true → d.get (Obj.LAUNCH_STATUS e.val) = 1 → d.launchBehind e.val = false →
    (d.portBusy p raw = true ∨ at_ + accuracy < due → exec (.scheduledLaunch e raw) s = .next { s with dev := d }) ∧
    (d.portBusy p raw = false → due ≤ at_ + accuracy →
    (d.get (Obj.NET_LINK_STATE p) = 0 → ∃ t, exec (.scheduledLaunch e raw) s = .next t ∧ ended 5 t ∧ t.dev.out = d.out) ∧
    (d.get (Obj.NET_LINK_STATE p) ≠ 0 → at_ ≤ due + accuracy → ∃ t, exec (.scheduledLaunch e raw) s = .next t ∧ ended 2 t ∧
      t.dev.out = .netFrame p bytes :: d.out ∧ Map.get 0 t.dev.clock.portBusy p = raw + d.frameNs p bytes.length ∧
      t.dev.get (Obj.SENT_AT e.val) = ofSigned 64 (at_ / 65536)) ∧
    (d.get (Obj.NET_LINK_STATE p) ≠ 0 → due + accuracy < at_ → ∃ t, exec (.scheduledLaunch e raw) s = .next t ∧
      (d.bit (Obj.LAUNCH_FLAGS e.val) 1 = true → ended 4 t ∧ t.dev.out.length = d.out.length + 1) ∧
      (d.bit (Obj.LAUNCH_FLAGS e.val) 1 = false → ended 3 t ∧ t.dev.out = d.out)))

/-! ### Recorder, counters and tags: 17_recorder_and_counters -/

/-- R530, R532: the keeper accepts the oldest record of its queue with the next SEQUENCE and writes it to FIRST, START or RING,
whichever comes first; a full RING loses its oldest. A record dropped by a full queue takes no number. R533: once the queue has room, the number of dropped records is recorded.
R534: CLEAR in SETUP with no job open empties the areas but for its own record. R540, R541: an enabled threshold counter counts
the cycles above its threshold and all cycles; ENABLE 1 claims it for the session, starts both at 0, and is refused with
RESOURCE_BUSY for another session's. R545: TAG_RELEASE frees the records of its mask that are not in flight. -/
def Obligations.RecorderCountersAndTags : Prop :=
  (∀ (r : EventRecord) (rs : List EventRecord) (s : State), s.dev.mode ≠ .off → s.dev.recorder.queue = r :: rs →
    let n := s.dev.get Obj.NEXT_SEQ
    let e := { r with seq := n }
    let c := s.dev.recorder
    ∃ t, exec .record s = .next t ∧ t.store = s.store ∧ t.dev.ledger = s.dev.ledger ∧ t.dev.recorder.queue = rs ∧
      t.dev.get Obj.NEXT_SEQ = (n + 1) % 2 ^ 32 ∧
      (c.first.length < 8192 →
        t.dev.recorder.first = c.first ++ [e] ∧ t.dev.recorder.start = c.start ∧ t.dev.recorder.ring = c.ring) ∧
      (8192 ≤ c.first.length → s.dev.startPhase = true → c.start.length < 8192 →
        t.dev.recorder.first = c.first ∧ t.dev.recorder.start = c.start ++ [e] ∧ t.dev.recorder.ring = c.ring) ∧
      (8192 ≤ c.first.length → s.dev.startPhase = false ∨ 8192 ≤ c.start.length →
        t.dev.recorder.first = c.first ∧ t.dev.recorder.start = c.start ∧
        (c.ring.length < 49152 → t.dev.recorder.ring = c.ring ++ [e]) ∧
        (49152 ≤ c.ring.length → t.dev.recorder.ring = c.ring.drop 1 ++ [e] ∧
          t.dev.get Obj.RING_OVERWRITTEN = (s.dev.get Obj.RING_OVERWRITTEN + 1) % 2 ^ 32))) ∧
  (∀ (d : Dev) (source code : Nat) (params : List Nat), 1024 ≤ d.recorder.queue.length →
    (d.raise source code params).recorder.queue = d.recorder.queue ∧
    (d.raise source code params).get Obj.NEXT_SEQ = d.get Obj.NEXT_SEQ) ∧
  (∀ s : State, s.dev.mode ≠ .off → 0 < s.dev.recorder.dropped → s.dev.recorder.queue.length < 1024 →
    ∃ t, exec .recordsDropped s = .next t ∧ t.store = s.store ∧ t.dev.objs = s.dev.objs ∧ t.dev.recorder.dropped = 0 ∧
      ∃ e, t.dev.recorder.queue = s.dev.recorder.queue ++ [e] ∧ e.code = 0x12F1 ∧ e.source = 0x5000 ∧
      e.params = [s.dev.recorder.dropped % 2 ^ 32, s.dev.recorder.dropCode % 2 ^ 32, 0, 0]) ∧
  (∀ (r : Req) (s : State), let q := r.write 0xA002 0
    let c := s.dev.recorder
    s.dev.Admits q →
    (s.dev.mode = .setup → s.dev.jobOpen = false → ∃ t, exec (.recorderClear r) s = .next t ∧ t.store = s.store ∧
      ∃ e, t.dev.recorder.first = [] ++ [e] ∧ t.dev.recorder.start = [] ∧ t.dev.recorder.ring = [] ∧ t.dev.get Obj.NEXT_SEQ = 1 ∧
      e.seq = 0 ∧ e.code = 0x12F0 ∧ e.params = [q.session, q.sender.port.code, c.first.length + c.start.length + c.ring.length, 0]) ∧
    (s.dev.mode ≠ .setup ∨ s.dev.jobOpen = true →
      exec (.recorderClear r) s = .next { s with dev := (s.dev.heard q).refuse q .stateForbids })) ∧
  (∀ (d : Dev) (raw n v : Nat) (t : Fin 64), d.get (Obj.THR_ENABLE t.val) ≠ 0 →
    let source := d.get (Obj.THR_SOURCE t.val)
    let cycles := (raw + n) * thresholdHz source / 1000000000 - raw * thresholdHz source / 1000000000
    d.occupancy source (d.get (Obj.THR_INSTANCE t.val)) = some v →
      let e := d.countThreshold raw n t.val
      e.get (Obj.ELAPSED t.val) = (d.get (Obj.ELAPSED t.val) + cycles) % 2 ^ 48 ∧
      e.get (Obj.THR_COUNT t.val)
        = (d.get (Obj.THR_COUNT t.val) + if d.get (Obj.N t.val) < v then cycles else 0) % 2 ^ 48 ∧
      e.free = d.free) ∧
  (∀ (r : Req) (t : Fin 64) (s : State), let q := r.write (0xA810 + t.val) 4
    let owner := 0x0900 + q.session
    let k := Obj.THRESHOLD_OWNER t.val
    s.dev.Admits q → s.dev.writeForbidden (0xA810 + t.val) 4 1 = false →
    (s.dev.get k = 0 ∨ s.dev.get k = owner → ∃ u, exec (.thresholdEnable r t true) s = .next u ∧ u.store = s.store ∧
      u.dev.get (Obj.THR_ENABLE t.val) = 1 ∧ u.dev.get k = owner ∧ u.dev.get (Obj.THR_COUNT t.val) = 0 ∧
      u.dev.get (Obj.ELAPSED t.val) = 0) ∧
    (s.dev.get k ≠ 0 → s.dev.get k ≠ owner →
      exec (.thresholdEnable r t true) s = .next { s with dev := (s.dev.heard q).refuse q .resourceBusy }) ∧
    (s.dev.get k = owner → ∃ u, exec (.thresholdEnable r t false) s = .next u ∧ u.store = s.store ∧
      u.dev.get (Obj.THR_ENABLE t.val) = 0 ∧ u.dev.get k = 0)) ∧
  ∀ (r : Req) (mask : Word64) (s : State), let q := r.write 0xA862 0
    s.dev.Admits q → s.dev.writeForbidden 0xA862 0 mask.toNat = false →
    ∃ t, exec (.tagRelease r mask) s = .next t ∧ t.store = s.store ∧ t.dev.conv = s.dev.conv ∧
      t.dev.tag = { s.dev.tag with records := s.dev.tag.records.filter fun p => ! (bitAt mask.toNat p.1 && decide (p.2.state ≠ 1)) }

/-! ### Calibration and firmware: 18_self_calibration_and_live_service -/

/-- R553, R564: RERUN makes an idle channel due; a running channel answers BUSY, a channel above 11 RANGE. R554: of the
channels that wait and may run, the one that starts has no channel before it by RERUN or by drift. R549, R554: a completed
run counts, keeps its temperature and waits for its point with result 2; a run of SC0 or SC1 that takes RUN_LIMIT ends with
result 4 and its trims stay. R548, R558: the point applies the waiting trims and answers 1; FACTORY writes the fused trims.
R560, R561: a part goes into the slot that is not active; VERIFY tests it; ACTIVATE of a verified slot takes effect at once
with no stripe in progress; CANCEL takes a pending slot back. R562: an image that has not reported ready within 100 ms is
left for the other one. -/
def Obligations.CalibrationAndFirmware : Prop :=
  (∀ (r : Req) (ch : Byte) (s : State), let q := r.write 0xB002 0
    let c := ch.toNat
    let state := s.dev.get (Obj.CAL_STATE c)
    s.dev.Admits q → s.dev.writeForbidden 0xB002 0 (0x0100 + c) = false →
    (c < 12 → state ≠ 2 → (∃ t, exec (.calRerun r ch) s = .next t ∧ t.store = s.store ∧ t.dev.conv = s.dev.conv ∧
        t.dev.get (Obj.CAL_STATE c) = (if state = 0 then 1 else state) ∧ (t.dev.cal c).rerun = true ∧
        t.dev.trims c = s.dev.trims c) ∧
      ∃ t, exec (.calFactory r ch) s = .next t ∧ t.store = s.store ∧
        (c ≠ 11 → t.dev.get (Obj.CAL_STATE c) = 1 ∧ t.dev.trims c = s.dev.trims c ∧
          (t.dev.cal c).next.map NewTrims.trims = some (fusedTrims c))) ∧
    (c < 12 → state = 2 → exec (.calRerun r ch) s = .next { s with dev := (s.dev.heard q).refuse q .busy }) ∧
    (12 ≤ c → exec (.calRerun r ch) s = .next { s with dev := (s.dev.heard q).refuse q .range } ∧
      exec (.calFactory r ch) s = .next { s with dev := (s.dev.heard q).refuse q .range })) ∧
  (∀ (x : Fin 12) (s : State), s.dev.running = true → s.dev.mode ≠ .safe → s.dev.calReady x.val = true →
    (∀ i, i < 12 → s.dev.get (Obj.CAL_STATE i) ≠ 2) →
    ∃ t, ∃ ch : Fin 12, exec .calRunStart s = .next t ∧ t.store = s.store ∧ t.dev.ledger = s.dev.ledger ∧
      t.dev.get (Obj.CAL_STATE ch.val) = 2 ∧ s.dev.calReady ch.val = true ∧ s.dev.calBefore ch.val x.val = false ∧
      ∀ i, i < 12 → i ≠ ch.val → t.dev.get (Obj.CAL_STATE i) = s.dev.get (Obj.CAL_STATE i)) ∧
  (∀ (ch : Fin 12) (m : CalMeasure) (s : State), s.dev.running = true → s.dev.mode ≠ .safe →
    s.dev.get (Obj.CAL_STATE ch.val) = 2 → s.dev.calSensed ch.val = true →
    calFits ch.val (s.dev.get Obj.SC_PERIODS) (s.dev.cal ch.val).sums m = true →
    ∃ t, exec (.calDone ch m) s = .next t ∧ t.store = s.store ∧
      t.dev.get (Obj.RUNS ch.val) = (s.dev.get (Obj.RUNS ch.val) + 1) % 2 ^ 32 ∧
      t.dev.get (Obj.TEMP_AT_RUN ch.val) = s.dev.get Obj.DIE_TEMP ∧
      (ch.val ≠ 11 → t.dev.get (Obj.CAL_STATE ch.val) = 3 ∧ t.dev.get (Obj.CAL_RESULT ch.val) = 2 ∧
        t.dev.trims ch.val = s.dev.trims ch.val ∧ (t.dev.cal ch.val).next.map NewTrims.trims
          = some (calTrims (s.dev.trims ch.val) (s.dev.cal ch.val).sums m)) ∧
      (ch.val = 11 → t.dev.get (Obj.CAL_STATE 11) = (if (s.dev.cal 11).rerun then 1 else 0) ∧
        t.dev.get (Obj.CAL_RESULT 11) = 1)) ∧
  (∀ (ch : Fin 2) (raw : Nat) (s : State), let d := s.dev.at raw
    d.get (Obj.CAL_STATE ch.val) = 2 → (d.cal ch.val).startedAt + d.get Obj.RUN_LIMIT * 1000000000 ≤ d.clock.raw →
    ∃ t, exec (.runLimit ⟨ch.val, by omega⟩ raw) s = .next t ∧ t.store = s.store ∧ t.dev.get (Obj.CAL_STATE ch.val) = 0 ∧
      t.dev.get (Obj.CAL_RESULT ch.val) = 4 ∧ t.dev.trims ch.val = s.dev.trims ch.val) ∧
  (∀ (ch : Fin 12) (x : NewTrims) (s : State), s.dev.running = true → (s.dev.cal ch.val).next = some x → x.trims ≠ [] →
    (ch.val < 2 ∨ ch.val = 10 → s.dev.armedStripe = none) → (2 ≤ ch.val → ch.val < 10 → (s.dev.rxLane (ch.val - 2)).bad = 0) →
    ∃ t, exec (.calApplied ch) s = .next t ∧ t.store = s.store ∧ t.dev.trims ch.val = x.trims ∧
      (t.dev.cal ch.val).next = none ∧ t.dev.get (Obj.CAL_RESULT ch.val) = 1 ∧
      (s.dev.get (Obj.CAL_STATE ch.val) = 3 →
        t.dev.get (Obj.CAL_STATE ch.val) = if (s.dev.cal ch.val).rerun then 1 else 0)) ∧
  (∀ (r : Req) (s : State), let q := r.write 0xB022 0
    let slot := s.dev.fwSpare
    let k := slotKeyFw slot
    s.dev.Admits q → s.dev.writeForbidden 0xB022 0 1 = false → s.dev.get Obj.ACTIVE_SLOT < 2 →
    (∀ (part : Fin 4) (value : List Byte), value.length = 1048576 → s.dev.get k ≠ 4 →
      let w := r.write 0xB020 (part.val + 1)
      s.dev.Admits w → s.dev.writeForbidden 0xB020 (part.val + 1) 0 = false →
      ∃ t, exec (.fwImagePart r part value) s = .next t ∧ t.store = s.store ∧ t.dev.get k = 0 ∧
        t.dev.fwPart slot part.val = padTo 1048576 value ∧ t.dev.get (slotKeyFw (1 - slot)) = s.dev.get (slotKeyFw (1 - slot))) ∧
    (s.dev.get k ≠ 4 → ∃ t, exec (.fwVerify r) s = .next t ∧ t.store = s.store ∧
      t.dev.get k = (if fwOk (s.dev.fwImage slot) then 2 else 3) ∧ t.dev.get Obj.ACTIVE_SLOT = s.dev.get Obj.ACTIVE_SLOT) ∧
    (s.dev.get k = 2 → s.dev.stripes = [] → ∃ t, exec (.fwActivate r) s = .next t ∧ t.store = s.store ∧
      t.dev.get Obj.ACTIVE_SLOT = slot ∧ t.dev.get k = 1 ∧ t.dev.get (slotKeyFw (1 - slot)) = 2) ∧
    (s.dev.get k = 2 → s.dev.stripes ≠ [] → ∃ t, exec (.fwActivate r) s = .next t ∧ t.store = s.store ∧
      t.dev.get Obj.ACTIVE_SLOT = s.dev.get Obj.ACTIVE_SLOT ∧ t.dev.get k = 4) ∧
    (s.dev.get k ≠ 2 → exec (.fwActivate r) s = .next { s with dev := (s.dev.heard q).refuse q .check }) ∧
    (s.dev.get k = 4 → exec (.fwCancel r) s = .next { s with dev := s.dev.commanded q 1 3 (Dev.put k 2) })) ∧
  ∀ (raw since old : Nat) (s : State), s.dev.service.change = some (since, old) →
    exec .fwReady s = .next { s with dev := s.dev.onService fun x => { x with change := none } } ∧
    (old < 2 → since + 100000000 ≤ (s.dev.at raw).clock.raw →
      ∃ t, exec (.fwReverted raw) s = .next t ∧ t.store = s.store ∧ t.dev.get Obj.ACTIVE_SLOT = old ∧
        t.dev.get (slotKeyFw old) = 1 ∧ t.dev.get (slotKeyFw (1 - old)) = 3 ∧ t.dev.service.change = none)

/-! ### Power, resets and the keeper: 19_power_reset_keeper -/

/-- R571: a rail below WARN is recorded and counted, and WRITE and MEND go to HOLD; above both thresholds again it is normal.
R573: PWR_FAIL_N's level shows, low for WARN_FILTER it is a WARN condition. R581: KEEP is in standby from a sample with every
main rail down, until a rail is up; two equal samples set an interlock in use. R582: under the wake conditions the main die
is released into WAKE with an empty START area, and otherwise nothing happens. R585: a lost crystal shows. R586: the backup
time counter is set to T. R587: DIE_TEMP shows the measured temperature. -/
def Obligations.SuppliesStandbyAndWake : Prop :=
  (∀ (r : Fin 10) (mv : Nat) (s : State), let state := Obj.RAIL_STATE r.val
    let rail (v : Nat) (t : State) : Prop := t.store = s.store ∧ t.dev.conv.rows = s.dev.conv.rows ∧
      t.dev.get state = v ∧ t.dev.get (Obj.VOLTAGE_MV r.val) = mv
    s.dev.mode ≠ .off → s.dev.keeper.standby = false →
    (s.dev.get state = 0 → ∃ t, exec (.supplyWarn r mv) s = .next t ∧ rail 1 t ∧
      t.dev.get (Obj.WARNS r.val) = (s.dev.get (Obj.WARNS r.val) + 1) % 2 ^ 32 ∧
      (s.dev.jobOpen = false ∨ 2048 ≤ s.dev.journalFree →
        t.dev.mode = if s.dev.mode = .write ∨ s.dev.mode = .mend then .hold else s.dev.mode)) ∧
    (s.dev.get state ≠ 0 → ∀ below, (∃ t, exec (.supplyRecovered r mv below true) s = .next t ∧ rail 0 t ∧
        t.dev.mode = s.dev.mode) ∧
      ∃ t, exec (.supplyRecovered r mv below false) s = .next t ∧ rail 1 t ∧ t.dev.mode = s.dev.mode)) ∧
  (∀ s : State, s.dev.mode ≠ .off → s.dev.keeper.standby = false →
    (s.dev.keeper.pwrFailLow = false → ∃ t, exec (.pwrFail .fall) s = .next t ∧ t.store = s.store ∧
      t.dev.keeper.pwrFailLow = true ∧ t.dev.get Obj.PWR_FAIL_LEVEL = 1) ∧
    (s.dev.keeper.pwrFailLow = true → s.dev.keeper.pwrFailWarn = false → ∃ t, exec (.pwrFail .filtered) s = .next t ∧
      t.store = s.store ∧ t.dev.warnPresent = true) ∧
    (s.dev.keeper.pwrFailLow = true → ∀ low, ∃ t, exec (.pwrFail (.rise low)) s = .next t ∧ t.store = s.store ∧
      t.dev.keeper.pwrFailLow = false ∧ t.dev.keeper.pwrFailWarn = false ∧ t.dev.get Obj.PWR_FAIL_LEVEL = 0)) ∧
  (∀ (v : SentinelInputs) (n : Fin 4) (s : State), s.dev.mode = .keep →
    let up := ∃ r, r < 9 ∧ s.dev.get (Obj.RESET_MV r) < v.rails.getD r 0
    (s.dev.keeper.standby = true ∨ s.dev.railsDown = true → ∃ t, exec (.sentinelSample v) s = .next t ∧ t.store = s.store ∧
      t.dev.mode = .keep ∧ t.dev.ledger = s.dev.ledger ∧ t.dev.keeper.ticks = s.dev.keeper.ticks + 4096 ∧
      (t.dev.keeper.standby = true ↔ ¬ up) ∧
      (s.dev.keeper.standby = true → s.dev.get (Obj.ILK_ROLE n.val) ≠ 0 →
        bitAt s.dev.keeper.sampled n.val = bitAt (sampleWord v) n.val →
        t.dev.bit Obj.ILK_STATE n.val = bitAt (sampleWord v) n.val)) ∧
    (s.dev.keeper.standby = false → s.dev.railsDown = false → exec (.sentinelSample v) s = .next s)) ∧
  (∀ (kept ticks : Nat) (low : Bool) (s : State),
    (s.dev.mayWake low = true → ∃ t, exec (.mainReleased kept ticks low) s = .next t ∧ t.store = s.store ∧ t.dev.mode = .wake ∧
      t.dev.objs.filter (fun e => e.1 ≠ Obj.DROPPED) = s.dev.objs.filter (fun e => e.1 ≠ Obj.DROPPED) ∧
      t.dev.ledger = s.dev.ledger ∧ t.dev.recorder.start = [] ∧ t.dev.keeper.ticks = s.dev.keeper.ticks + ticks) ∧
    (s.dev.mayWake low = false → exec (.mainReleased kept ticks low) s = .next s)) ∧
  (∀ (confirmed : Bool) (s : State), s.dev.mode ≠ .off →
    (s.dev.get Obj.CRYSTAL ≠ 0 → ∃ t, exec (.clockLost true confirmed) s = .next t ∧ t.store = s.store ∧
      t.dev.get Obj.CRYSTAL = 0 ∧ t.dev.keeper = s.dev.keeper) ∧
    (s.dev.get Obj.CRYSTAL = 0 → exec (.clockLost true confirmed) s = .next s) ∧
    (s.dev.running = true → ∃ t, exec .backupBaseSet s = .next t ∧ t.store = s.store ∧ t.dev.backupNs = s.dev.tNs ∧
      t.dev.objs = s.dev.objs ∧ t.dev.clock = s.dev.clock)) ∧
  ∀ (die keeper : Int) (rails : List Nat) (confirmed : Bool) (s : State), s.dev.running = true → s.dev.keeper.standby = false →
    die ≤ 830 → die < 10 * (s.dev.get Obj.TEMP_SHUTDOWN : Int) →
    ∃ t, exec (.dieTempUpdate die keeper rails confirmed) s = .next t ∧ t.store = s.store ∧ t.dev.mode = s.dev.mode ∧
      t.dev.conv = s.dev.conv ∧ t.dev.get Obj.DIE_TEMP = ofSigned 16 die ∧ t.dev.get Obj.KEEPER_TEMP = ofSigned 16 keeper ∧
      t.dev.keeper.hot = false ∧ ∀ r, r < 10 → t.dev.get (Obj.VOLTAGE_MV r) = rails.getD r 0

/-- R575, R576, R579: a reset of the main die, by any of its sources, asserts BLANK_ALL_N and brings the mode to KEEP; sessions,
RAW, counters, tags and stripes in progress are lost, the journal's job and records stay, and the store's bytes stay where
self-refresh was confirmed (R473; that they are gone otherwise is the model's choice, log entry 3). The source is counted and,
with no job open, 0xB802 names it. R572: below RESET VKEEP stops the keeper, and a power-on starts it in KEEP without a
store. R580: RESET_COMMAND resets in TEST, SETUP, READY and SERVICE, and STANDBY holds the main die; elsewhere it is refused. -/
def Obligations.ResetsOfTheMainDie : Prop :=
  (∀ (s : State) (confirmed : Bool),
    let resets (source cause : Nat) (t : State) : Prop :=
      t.dev.mode = .keep ∧ t.dev.blanked = true ∧ t.dev.cop.sessions = [] ∧ t.dev.clock.raw = 0 ∧ t.dev.counters = [] ∧
      t.dev.tag.records = [] ∧ t.dev.stripes = [] ∧ t.dev.ledger.job = s.dev.ledger.job ∧
      t.dev.ledger.records = s.dev.ledger.records ∧ (confirmed = true → t.store = s.store) ∧
      (confirmed = false → t.store = []) ∧
      (s.dev.jobOpen = false → s.dev.get (Obj.SERVO_SOURCE 1) < 200 →
        t.dev.get Obj.LAST_SOURCE = source ∧ t.dev.get Obj.LAST_CAUSE = cause ∧
        t.dev.get (Obj.RESET_COUNTS (source - 1)) = (s.dev.get (Obj.RESET_COUNTS (source - 1)) + 1) % 2 ^ 32)
    s.dev.running = true →
    (∀ (r : Fin 9) (mv : Nat), s.dev.keeper.standby = false → s.dev.get (Obj.RAIL_STATE r.val) ≠ 2 →
      ∃ t, exec (.supplyReset r mv confirmed) s = .next t ∧ resets 2 0 t) ∧
    (∃ t, exec (.resetN confirmed) s = .next t ∧ resets 3 0 t) ∧
    (s.dev.service.change = none → ∃ t, exec (.watchdog confirmed) s = .next t ∧ resets 6 0 t) ∧
    (s.dev.keeper.pwrFailLow = true → s.dev.keeper.standby = false → s.dev.get Obj.PWR_FAIL_ACTION = 1 →
      ∃ t, exec (.pwrFailDelay confirmed) s = .next t ∧ resets 7 1 t) ∧
    (∃ t, exec (.clockLost false confirmed) s = .next t ∧ resets 7 3 t) ∧
    (∀ (die keeper : Int) (rails : List Nat), s.dev.keeper.standby = false → 10 * (s.dev.get Obj.TEMP_SHUTDOWN : Int) ≤ die →
      ∃ t, exec (.dieTempUpdate die keeper rails confirmed) s = .next t ∧ resets 7 2 t) ∧
    ∀ r : Req, let q := r.write 0xB803 0
      s.dev.Admits q →
      (s.dev.mode = .test ∨ s.dev.mode = .setup ∨ s.dev.mode = .ready ∨ s.dev.mode = .service →
        (∃ t, exec (.resetCommandReset r confirmed) s = .next t ∧ resets 5 0 t ∧ t.dev.keeper.standbyHeld = false) ∧
        ∃ t, exec (.resetCommandStandby r confirmed) s = .next t ∧ resets 5 0 t ∧ t.dev.keeper.standbyHeld = true) ∧
      (s.dev.mode ≠ .test → s.dev.mode ≠ .setup → s.dev.mode ≠ .ready → s.dev.mode ≠ .service →
        let refused := { s with dev := (s.dev.heard q).refuse q .stateForbids }
        exec (.resetCommandReset r confirmed) s = .next refused ∧ exec (.resetCommandStandby r confirmed) s = .next refused)) ∧
  ∀ s : State,
    (s.dev.mode ≠ .off → ∀ mv, ∃ t, exec (.vkeepFall mv) s = .next t ∧ t.dev.mode = .off ∧ t.dev.blanked = true ∧
      t.dev.cop.sessions = [] ∧ t.dev.ledger.job = s.dev.ledger.job ∧ t.dev.ledger.records = s.dev.ledger.records) ∧
    (s.dev.mode ≠ .off → exec .vkeepRise s = .next s) ∧
    (s.dev.mode = .off → ∃ t, exec .vkeepRise s = .next t ∧ t.dev.mode = .keep ∧ t.store = [] ∧ t.dev.keeper = Keeper.reset ∧
      t.dev.ledger.job = s.dev.ledger.job ∧ t.dev.get Obj.LAST_SOURCE = 1 ∧ t.dev.get (Obj.RESET_COUNTS 0) = 1)
end

