-- ==== Sys2Proof/Laws/Bits.lean ====
section
/-!
SUPPORT. Sys2Proof/Laws/Bits.lean: what every CRC-32C keeps.
-/
namespace Sys2Proof.Machine

/-- The register stays 32 bits wide. -/
theorem crcSteps_lt (n c : Nat) (h : c < 2 ^ 32) : crcSteps crcPoly n c < 2 ^ 32 := by
  induction n generalizing c with
  | zero => exact h
  | succ n ih =>
    refine ih _ ?_
    split
    · exact Nat.xor_lt_two_pow (by omega) (by decide)
    · omega

theorem crcRun_lt (m : List Byte) (c : Nat) (h : c < 2 ^ 32) : crcRun crcPoly c m < 2 ^ 32 := by
  induction m generalizing c with
  | nil => exact h
  | cons b m ih => exact ih _ (crcSteps_lt _ _ (Nat.xor_lt_two_pow h (by have := b.isLt; omega)))

/-- A CRC-32C has 32 bits. -/
theorem crc32c_lt (m : List Byte) : crc32c m < 2 ^ 32 :=
  Nat.xor_lt_two_pow (crcRun_lt _ _ (by decide)) (by decide)

end Sys2Proof.Machine
end

