-- ==== Sys2Proof/Laws/Map.lean ====
section
/-!
SUPPORT. Sys2Proof/Laws/Map.lean: reading after writing a map, and the canonical form that every write keeps.
-/
namespace Sys2Proof.Machine

variable {α : Type}

@[simp] theorem Map.get_nil (d : α) (k : Nat) : Map.get d [] k = d := rfl

@[simp] theorem Map.find_nil (k : Nat) : Map.find ([] : Map α) k = none := rfl

theorem Map.get_insert (d : α) (k j : Nat) (v : α) (m : Map α) :
    Map.get d (Map.insert k v m) j = if j = k then v else Map.get d m j := by
  induction m with
  | nil => simp only [Map.insert, Map.get]; grind
  | cons e m ih =>
    obtain ⟨i, w⟩ := e
    simp only [Map.insert]
    split
    · next h => subst h; simp only [Map.get]; grind
    · split
      · simp only [Map.get]; grind
      · simp only [Map.get, ih]; grind

theorem Map.find_insert (k j : Nat) (v : α) (m : Map α) :
    Map.find (Map.insert k v m) j = if j = k then some v else Map.find m j := by
  induction m with
  | nil => simp only [Map.insert, Map.find]; grind
  | cons e m ih =>
    obtain ⟨i, w⟩ := e
    simp only [Map.insert]
    split
    · next h => subst h; simp only [Map.find]; grind
    · split
      · simp only [Map.find]; grind
      · simp only [Map.find, ih]; grind

theorem Map.get_erase (d : α) (k j : Nat) (m : Map α) :
    Map.get d (Map.erase k m) j = if j = k then d else Map.get d m j := by
  induction m with
  | nil => simp [Map.erase]
  | cons e m ih =>
    obtain ⟨i, w⟩ := e
    simp only [Map.erase]
    split
    · rw [ih]; simp only [Map.get]; grind
    · simp only [Map.get, ih]; grind

/-- Reading after a write: the value written at its number, the value before at every other. -/
theorem Map.get_put [DecidableEq α] (d : α) (k j : Nat) (v : α) (m : Map α) :
    Map.get d (Map.put d k v m) j = if j = k then v else Map.get d m j := by
  unfold Map.put
  split
  · next h => subst h; exact Map.get_erase v k j m
  · exact Map.get_insert d k j v m

@[simp] theorem Map.get_put_same [DecidableEq α] (d : α) (k : Nat) (v : α) (m : Map α) :
    Map.get d (Map.put d k v m) k = v := by simp [Map.get_put]

theorem Map.get_put_other [DecidableEq α] (d : α) {k j : Nat} (h : j ≠ k) (v : α) (m : Map α) :
    Map.get d (Map.put d k v m) j = Map.get d m j := by simp [Map.get_put, h]

/-- A write leaves every other number, also one that reads with another default. -/
theorem Map.get_put_else [DecidableEq α] (d e : α) {k j : Nat} (h : j ≠ k) (v : α) (m : Map α) :
    Map.get e (Map.put d k v m) j = Map.get e m j := by
  unfold Map.put
  split
  · rw [Map.get_erase, if_neg h]
  · rw [Map.get_insert, if_neg h]

/-- Reading after a run of writes: the run's value inside it, the value before outside. -/
theorem Map.get_puts [DecidableEq α] (d : α) (vs : List α) (k j : Nat) (m : Map α) :
    Map.get d (Map.puts d k vs m) j = if k ≤ j ∧ j < k + vs.length then vs.getD (j - k) d else Map.get d m j := by
  induction vs generalizing k m with
  | nil => simp only [Map.puts, List.length_nil, Nat.add_zero]; split <;> grind
  | cons v vs ih =>
    rw [Map.puts, ih]
    by_cases h : j = k
    · subst h; first | (simp; done) | (simp; omega)
    · have e : j - k = j - (k + 1) + 1 ∨ j < k := by omega
      rw [Map.get_put_other d h]
      obtain e | e := e
      · rw [e, List.getD_cons_succ]; simp only [List.length_cons]; grind
      · simp only [List.length_cons]; grind

theorem Map.above_iff (k : Nat) (m : Map α) : Map.above k m = true ↔ ∀ e ∈ m, k < e.1 := by
  simp [Map.above]

theorem Map.above_insert {k j : Nat} (v : α) {m : Map α} (h : Map.above k m = true) (hj : k < j) :
    Map.above k (Map.insert j v m) = true := by
  induction m with
  | nil => simp [Map.insert, Map.above, hj]
  | cons e m ih =>
    obtain ⟨i, w⟩ := e
    simp only [Map.above, List.all_cons, Bool.and_eq_true, decide_eq_true_eq] at h ih
    simp only [Map.insert]
    split
    · simp only [Map.above, List.all_cons, Bool.and_eq_true, decide_eq_true_eq]; grind
    · split
      · simp only [Map.above, List.all_cons, Bool.and_eq_true, decide_eq_true_eq]; grind
      · simp only [Map.above, List.all_cons, Bool.and_eq_true, decide_eq_true_eq]; grind

theorem Map.above_erase {k : Nat} (j : Nat) {m : Map α} (h : Map.above k m = true) :
    Map.above k (Map.erase j m) = true := by
  induction m with
  | nil => rfl
  | cons e m ih =>
    obtain ⟨i, w⟩ := e
    simp only [Map.above, List.all_cons, Bool.and_eq_true, decide_eq_true_eq] at h ih
    simp only [Map.erase]
    split
    · exact ih h.2
    · simp only [Map.above, List.all_cons, Bool.and_eq_true, decide_eq_true_eq]; grind

theorem Map.above_le {j k : Nat} {m : Map α} (h : Map.above k m = true) (hj : j ≤ k) : Map.above j m = true := by
  rw [Map.above_iff] at *; intro e he; exact Nat.lt_of_le_of_lt hj (h e he)

/-- A map that lists a pair is canonical when the pair's value is no default, the rest is above it, and the rest is
canonical. -/
theorem Map.wf_cons [DecidableEq α] (d : α) (j : Nat) (v : α) (m : Map α) :
    Map.wf d ((j, v) :: m) = true ↔ v ≠ d ∧ Map.above j m = true ∧ Map.wf d m = true := by
  simp [Map.wf, and_assoc]

theorem Map.wf_insert [DecidableEq α] (d : α) (k : Nat) {v : α} {m : Map α} (hv : v ≠ d) (h : Map.wf d m = true) :
    Map.wf d (Map.insert k v m) = true := by
  induction m with
  | nil => simp [Map.insert, Map.wf, Map.above, hv]
  | cons e m ih =>
    obtain ⟨i, w⟩ := e
    rw [Map.wf_cons] at h
    simp only [Map.insert]
    split
    · next e => subst e; rw [Map.wf_cons]; exact ⟨hv, h.2⟩
    · split
      · next lt =>
        rw [Map.wf_cons, Map.wf_cons]
        refine ⟨hv, ?_, h⟩
        have := Map.above_le h.2.1 (Nat.le_of_lt lt)
        simp only [Map.above, List.all_cons, Bool.and_eq_true, decide_eq_true_eq] at this ⊢
        exact ⟨lt, this⟩
      · rw [Map.wf_cons]; exact ⟨h.1, Map.above_insert v h.2.1 (by omega), ih h.2.2⟩

theorem Map.wf_erase [DecidableEq α] (d : α) (k : Nat) {m : Map α} (h : Map.wf d m = true) :
    Map.wf d (Map.erase k m) = true := by
  induction m with
  | nil => rfl
  | cons e m ih =>
    obtain ⟨i, w⟩ := e
    rw [Map.wf_cons] at h
    simp only [Map.erase]
    split
    · exact ih h.2.2
    · rw [Map.wf_cons]; exact ⟨h.1, Map.above_erase k h.2.1, ih h.2.2⟩

/-- A write keeps the canonical form. -/
theorem Map.wf_put [DecidableEq α] (d : α) (k : Nat) (v : α) {m : Map α} (h : Map.wf d m = true) :
    Map.wf d (Map.put d k v m) = true := by
  unfold Map.put
  split
  · exact Map.wf_erase d k h
  · next hv => exact Map.wf_insert d k hv h

/-- A run of writes keeps the canonical form. -/
theorem Map.wf_puts [DecidableEq α] (d : α) (vs : List α) (k : Nat) {m : Map α} (h : Map.wf d m = true) :
    Map.wf d (Map.puts d k vs m) = true := by
  induction vs generalizing k m with
  | nil => exact h
  | cons v vs ih => exact ih (k + 1) (Map.wf_put d k v h)

theorem Map.above_filter {k : Nat} (p : Nat × α → Bool) {m : Map α} (h : Map.above k m = true) :
    Map.above k (m.filter p) = true := by
  rw [Map.above_iff] at *; intro e he; exact h e (List.mem_filter.mp he).1

/-- Removing pairs keeps the canonical form. -/
theorem Map.wf_filter [DecidableEq α] (d : α) (p : Nat × α → Bool) {m : Map α} (h : Map.wf d m = true) :
    Map.wf d (m.filter p) = true := by
  induction m with
  | nil => rfl
  | cons e m ih =>
    obtain ⟨i, w⟩ := e
    rw [Map.wf_cons] at h
    by_cases c : p (i, w) = true
    · rw [List.filter_cons_of_pos c, Map.wf_cons]; exact ⟨h.1, Map.above_filter p h.2.1, ih h.2.2⟩
    · rw [List.filter_cons_of_neg c]; exact ih h.2.2

end Sys2Proof.Machine
end

