-- ==== Sys2Proof/Laws/State.lean ====
section
/-!
SUPPORT. Sys2Proof/Laws/State.lean: what each named update of the device leaves as it was, one lemma per field.
-/
namespace Sys2Proof.Machine

@[simp] theorem State.with_dev_store (s : State) (d : Dev) : ({ s with dev := d } : State).store = s.store := rfl
@[simp] theorem State.with_dev_pending (s : State) (d : Dev) : ({ s with dev := d } : State).pending = s.pending := rfl
@[simp] theorem State.with_dev_dev (s : State) (d : Dev) : ({ s with dev := d } : State).dev = d := rfl

@[simp] theorem Dev.put_mode (k v : Nat) (d : Dev) : (d.put k v).mode = d.mode := rfl
@[simp] theorem Dev.put_highRate (k v : Nat) (d : Dev) : (d.put k v).highRate = d.highRate := rfl
@[simp] theorem Dev.put_blobs (k v : Nat) (d : Dev) : (d.put k v).blobs = d.blobs := rfl
@[simp] theorem Dev.put_effGains (k v : Nat) (d : Dev) : (d.put k v).effGains = d.effGains := rfl
@[simp] theorem Dev.put_eff (k v : Nat) (d : Dev) : (d.put k v).eff = d.eff := rfl
@[simp] theorem Dev.put_effBlobs (k v : Nat) (d : Dev) : (d.put k v).effBlobs = d.effBlobs := rfl
@[simp] theorem Dev.put_gains (k v : Nat) (d : Dev) : (d.put k v).gains = d.gains := rfl
@[simp] theorem Dev.put_free (k v : Nat) (d : Dev) : (d.put k v).free = d.free := rfl
@[simp] theorem Dev.put_blanked (k v : Nat) (d : Dev) : (d.put k v).blanked = d.blanked := rfl
@[simp] theorem Dev.put_out (k v : Nat) (d : Dev) : (d.put k v).out = d.out := rfl
@[simp] theorem Dev.put_cop (k v : Nat) (d : Dev) : (d.put k v).cop = d.cop := rfl
@[simp] theorem Dev.put_recorder (k v : Nat) (d : Dev) : (d.put k v).recorder = d.recorder := rfl
@[simp] theorem Dev.put_counters (k v : Nat) (d : Dev) : (d.put k v).counters = d.counters := rfl
@[simp] theorem Dev.put_tag (k v : Nat) (d : Dev) : (d.put k v).tag = d.tag := rfl
@[simp] theorem Dev.put_clock (k v : Nat) (d : Dev) : (d.put k v).clock = d.clock := rfl
@[simp] theorem Dev.put_ledger (k v : Nat) (d : Dev) : (d.put k v).ledger = d.ledger := rfl
@[simp] theorem Dev.put_keeper (k v : Nat) (d : Dev) : (d.put k v).keeper = d.keeper := rfl
@[simp] theorem Dev.put_stripes (k v : Nat) (d : Dev) : (d.put k v).stripes = d.stripes := rfl
@[simp] theorem Dev.put_nextUid (k v : Nat) (d : Dev) : (d.put k v).nextUid = d.nextUid := rfl
@[simp] theorem Dev.put_nextEntry (k v : Nat) (d : Dev) : (d.put k v).nextEntry = d.nextEntry := rfl
@[simp] theorem Dev.put_unfold (k v : Nat) (d : Dev) : (d.put k v).unfold = d.unfold := rfl
@[simp] theorem Dev.put_dram (k v : Nat) (d : Dev) : (d.put k v).dram = d.dram := rfl
@[simp] theorem Dev.put_conv (k v : Nat) (d : Dev) : (d.put k v).conv = d.conv := rfl
@[simp] theorem Dev.put_link (k v : Nat) (d : Dev) : (d.put k v).link = d.link := rfl
@[simp] theorem Dev.put_stage (k v : Nat) (d : Dev) : (d.put k v).stage = d.stage := rfl
@[simp] theorem Dev.put_servo (k v : Nat) (d : Dev) : (d.put k v).servo = d.servo := rfl
@[simp] theorem Dev.put_rescue (k v : Nat) (d : Dev) : (d.put k v).rescue = d.rescue := rfl
@[simp] theorem Dev.put_service (k v : Nat) (d : Dev) : (d.put k v).service = d.service := rfl
@[simp] theorem Dev.put_axes (k v : Nat) (d : Dev) : (d.put k v).axes = d.axes := rfl
@[simp] theorem Dev.put_feed (k v : Nat) (d : Dev) : (d.put k v).feed = d.feed := rfl
@[simp] theorem Dev.put_rinse (k v : Nat) (d : Dev) : (d.put k v).rinse = d.rinse := rfl
@[simp] theorem Dev.put_soaking (k v : Nat) (d : Dev) : (d.put k v).soaking = d.soaking := rfl
@[simp] theorem Dev.put_march (k v : Nat) (d : Dev) : (d.put k v).march = d.march := rfl
@[simp] theorem Dev.put_sequence (k v : Nat) (d : Dev) : (d.put k v).sequence = d.sequence := rfl
@[simp] theorem Dev.put_measuring (k v : Nat) (d : Dev) : (d.put k v).measuring = d.measuring := rfl
@[simp] theorem Dev.put_tap (k v : Nat) (d : Dev) : (d.put k v).tap = d.tap := rfl
@[simp] theorem Dev.put_boundary (k v : Nat) (d : Dev) : (d.put k v).boundary = d.boundary := rfl

@[simp] theorem Dev.puti_mode (w k : Nat) (v : Int) (d : Dev) : (d.puti w k v).mode = d.mode := rfl
@[simp] theorem Dev.puti_highRate (w k : Nat) (v : Int) (d : Dev) : (d.puti w k v).highRate = d.highRate := rfl
@[simp] theorem Dev.puti_blobs (w k : Nat) (v : Int) (d : Dev) : (d.puti w k v).blobs = d.blobs := rfl
@[simp] theorem Dev.puti_effGains (w k : Nat) (v : Int) (d : Dev) : (d.puti w k v).effGains = d.effGains := rfl
@[simp] theorem Dev.puti_eff (w k : Nat) (v : Int) (d : Dev) : (d.puti w k v).eff = d.eff := rfl
@[simp] theorem Dev.puti_effBlobs (w k : Nat) (v : Int) (d : Dev) : (d.puti w k v).effBlobs = d.effBlobs := rfl
@[simp] theorem Dev.puti_gains (w k : Nat) (v : Int) (d : Dev) : (d.puti w k v).gains = d.gains := rfl
@[simp] theorem Dev.puti_free (w k : Nat) (v : Int) (d : Dev) : (d.puti w k v).free = d.free := rfl
@[simp] theorem Dev.puti_blanked (w k : Nat) (v : Int) (d : Dev) : (d.puti w k v).blanked = d.blanked := rfl
@[simp] theorem Dev.puti_out (w k : Nat) (v : Int) (d : Dev) : (d.puti w k v).out = d.out := rfl
@[simp] theorem Dev.puti_cop (w k : Nat) (v : Int) (d : Dev) : (d.puti w k v).cop = d.cop := rfl
@[simp] theorem Dev.puti_recorder (w k : Nat) (v : Int) (d : Dev) : (d.puti w k v).recorder = d.recorder := rfl
@[simp] theorem Dev.puti_counters (w k : Nat) (v : Int) (d : Dev) : (d.puti w k v).counters = d.counters := rfl
@[simp] theorem Dev.puti_tag (w k : Nat) (v : Int) (d : Dev) : (d.puti w k v).tag = d.tag := rfl
@[simp] theorem Dev.puti_clock (w k : Nat) (v : Int) (d : Dev) : (d.puti w k v).clock = d.clock := rfl
@[simp] theorem Dev.puti_ledger (w k : Nat) (v : Int) (d : Dev) : (d.puti w k v).ledger = d.ledger := rfl
@[simp] theorem Dev.puti_keeper (w k : Nat) (v : Int) (d : Dev) : (d.puti w k v).keeper = d.keeper := rfl
@[simp] theorem Dev.puti_stripes (w k : Nat) (v : Int) (d : Dev) : (d.puti w k v).stripes = d.stripes := rfl
@[simp] theorem Dev.puti_nextUid (w k : Nat) (v : Int) (d : Dev) : (d.puti w k v).nextUid = d.nextUid := rfl
@[simp] theorem Dev.puti_nextEntry (w k : Nat) (v : Int) (d : Dev) : (d.puti w k v).nextEntry = d.nextEntry := rfl
@[simp] theorem Dev.puti_unfold (w k : Nat) (v : Int) (d : Dev) : (d.puti w k v).unfold = d.unfold := rfl
@[simp] theorem Dev.puti_dram (w k : Nat) (v : Int) (d : Dev) : (d.puti w k v).dram = d.dram := rfl
@[simp] theorem Dev.puti_conv (w k : Nat) (v : Int) (d : Dev) : (d.puti w k v).conv = d.conv := rfl
@[simp] theorem Dev.puti_link (w k : Nat) (v : Int) (d : Dev) : (d.puti w k v).link = d.link := rfl
@[simp] theorem Dev.puti_stage (w k : Nat) (v : Int) (d : Dev) : (d.puti w k v).stage = d.stage := rfl
@[simp] theorem Dev.puti_servo (w k : Nat) (v : Int) (d : Dev) : (d.puti w k v).servo = d.servo := rfl
@[simp] theorem Dev.puti_rescue (w k : Nat) (v : Int) (d : Dev) : (d.puti w k v).rescue = d.rescue := rfl
@[simp] theorem Dev.puti_service (w k : Nat) (v : Int) (d : Dev) : (d.puti w k v).service = d.service := rfl
@[simp] theorem Dev.puti_axes (w k : Nat) (v : Int) (d : Dev) : (d.puti w k v).axes = d.axes := rfl
@[simp] theorem Dev.puti_feed (w k : Nat) (v : Int) (d : Dev) : (d.puti w k v).feed = d.feed := rfl
@[simp] theorem Dev.puti_rinse (w k : Nat) (v : Int) (d : Dev) : (d.puti w k v).rinse = d.rinse := rfl
@[simp] theorem Dev.puti_soaking (w k : Nat) (v : Int) (d : Dev) : (d.puti w k v).soaking = d.soaking := rfl
@[simp] theorem Dev.puti_march (w k : Nat) (v : Int) (d : Dev) : (d.puti w k v).march = d.march := rfl
@[simp] theorem Dev.puti_sequence (w k : Nat) (v : Int) (d : Dev) : (d.puti w k v).sequence = d.sequence := rfl
@[simp] theorem Dev.puti_measuring (w k : Nat) (v : Int) (d : Dev) : (d.puti w k v).measuring = d.measuring := rfl
@[simp] theorem Dev.puti_tap (w k : Nat) (v : Int) (d : Dev) : (d.puti w k v).tap = d.tap := rfl
@[simp] theorem Dev.puti_boundary (w k : Nat) (v : Int) (d : Dev) : (d.puti w k v).boundary = d.boundary := rfl

@[simp] theorem Dev.add_mode (w k n : Nat) (d : Dev) : (d.add w k n).mode = d.mode := rfl
@[simp] theorem Dev.add_highRate (w k n : Nat) (d : Dev) : (d.add w k n).highRate = d.highRate := rfl
@[simp] theorem Dev.add_blobs (w k n : Nat) (d : Dev) : (d.add w k n).blobs = d.blobs := rfl
@[simp] theorem Dev.add_effGains (w k n : Nat) (d : Dev) : (d.add w k n).effGains = d.effGains := rfl
@[simp] theorem Dev.add_eff (w k n : Nat) (d : Dev) : (d.add w k n).eff = d.eff := rfl
@[simp] theorem Dev.add_effBlobs (w k n : Nat) (d : Dev) : (d.add w k n).effBlobs = d.effBlobs := rfl
@[simp] theorem Dev.add_gains (w k n : Nat) (d : Dev) : (d.add w k n).gains = d.gains := rfl
@[simp] theorem Dev.add_free (w k n : Nat) (d : Dev) : (d.add w k n).free = d.free := rfl
@[simp] theorem Dev.add_blanked (w k n : Nat) (d : Dev) : (d.add w k n).blanked = d.blanked := rfl
@[simp] theorem Dev.add_out (w k n : Nat) (d : Dev) : (d.add w k n).out = d.out := rfl
@[simp] theorem Dev.add_cop (w k n : Nat) (d : Dev) : (d.add w k n).cop = d.cop := rfl
@[simp] theorem Dev.add_recorder (w k n : Nat) (d : Dev) : (d.add w k n).recorder = d.recorder := rfl
@[simp] theorem Dev.add_counters (w k n : Nat) (d : Dev) : (d.add w k n).counters = d.counters := rfl
@[simp] theorem Dev.add_tag (w k n : Nat) (d : Dev) : (d.add w k n).tag = d.tag := rfl
@[simp] theorem Dev.add_clock (w k n : Nat) (d : Dev) : (d.add w k n).clock = d.clock := rfl
@[simp] theorem Dev.add_ledger (w k n : Nat) (d : Dev) : (d.add w k n).ledger = d.ledger := rfl
@[simp] theorem Dev.add_keeper (w k n : Nat) (d : Dev) : (d.add w k n).keeper = d.keeper := rfl
@[simp] theorem Dev.add_stripes (w k n : Nat) (d : Dev) : (d.add w k n).stripes = d.stripes := rfl
@[simp] theorem Dev.add_nextUid (w k n : Nat) (d : Dev) : (d.add w k n).nextUid = d.nextUid := rfl
@[simp] theorem Dev.add_nextEntry (w k n : Nat) (d : Dev) : (d.add w k n).nextEntry = d.nextEntry := rfl
@[simp] theorem Dev.add_unfold (w k n : Nat) (d : Dev) : (d.add w k n).unfold = d.unfold := rfl
@[simp] theorem Dev.add_dram (w k n : Nat) (d : Dev) : (d.add w k n).dram = d.dram := rfl
@[simp] theorem Dev.add_conv (w k n : Nat) (d : Dev) : (d.add w k n).conv = d.conv := rfl
@[simp] theorem Dev.add_link (w k n : Nat) (d : Dev) : (d.add w k n).link = d.link := rfl
@[simp] theorem Dev.add_stage (w k n : Nat) (d : Dev) : (d.add w k n).stage = d.stage := rfl
@[simp] theorem Dev.add_servo (w k n : Nat) (d : Dev) : (d.add w k n).servo = d.servo := rfl
@[simp] theorem Dev.add_rescue (w k n : Nat) (d : Dev) : (d.add w k n).rescue = d.rescue := rfl
@[simp] theorem Dev.add_service (w k n : Nat) (d : Dev) : (d.add w k n).service = d.service := rfl
@[simp] theorem Dev.add_axes (w k n : Nat) (d : Dev) : (d.add w k n).axes = d.axes := rfl
@[simp] theorem Dev.add_feed (w k n : Nat) (d : Dev) : (d.add w k n).feed = d.feed := rfl
@[simp] theorem Dev.add_rinse (w k n : Nat) (d : Dev) : (d.add w k n).rinse = d.rinse := rfl
@[simp] theorem Dev.add_soaking (w k n : Nat) (d : Dev) : (d.add w k n).soaking = d.soaking := rfl
@[simp] theorem Dev.add_march (w k n : Nat) (d : Dev) : (d.add w k n).march = d.march := rfl
@[simp] theorem Dev.add_sequence (w k n : Nat) (d : Dev) : (d.add w k n).sequence = d.sequence := rfl
@[simp] theorem Dev.add_measuring (w k n : Nat) (d : Dev) : (d.add w k n).measuring = d.measuring := rfl
@[simp] theorem Dev.add_tap (w k n : Nat) (d : Dev) : (d.add w k n).tap = d.tap := rfl
@[simp] theorem Dev.add_boundary (w k n : Nat) (d : Dev) : (d.add w k n).boundary = d.boundary := rfl

@[simp] theorem Dev.bump_mode (k : Nat) (d : Dev) : (d.bump k).mode = d.mode := rfl
@[simp] theorem Dev.bump_highRate (k : Nat) (d : Dev) : (d.bump k).highRate = d.highRate := rfl
@[simp] theorem Dev.bump_blobs (k : Nat) (d : Dev) : (d.bump k).blobs = d.blobs := rfl
@[simp] theorem Dev.bump_effGains (k : Nat) (d : Dev) : (d.bump k).effGains = d.effGains := rfl
@[simp] theorem Dev.bump_eff (k : Nat) (d : Dev) : (d.bump k).eff = d.eff := rfl
@[simp] theorem Dev.bump_effBlobs (k : Nat) (d : Dev) : (d.bump k).effBlobs = d.effBlobs := rfl
@[simp] theorem Dev.bump_gains (k : Nat) (d : Dev) : (d.bump k).gains = d.gains := rfl
@[simp] theorem Dev.bump_free (k : Nat) (d : Dev) : (d.bump k).free = d.free := rfl
@[simp] theorem Dev.bump_blanked (k : Nat) (d : Dev) : (d.bump k).blanked = d.blanked := rfl
@[simp] theorem Dev.bump_out (k : Nat) (d : Dev) : (d.bump k).out = d.out := rfl
@[simp] theorem Dev.bump_cop (k : Nat) (d : Dev) : (d.bump k).cop = d.cop := rfl
@[simp] theorem Dev.bump_recorder (k : Nat) (d : Dev) : (d.bump k).recorder = d.recorder := rfl
@[simp] theorem Dev.bump_counters (k : Nat) (d : Dev) : (d.bump k).counters = d.counters := rfl
@[simp] theorem Dev.bump_tag (k : Nat) (d : Dev) : (d.bump k).tag = d.tag := rfl
@[simp] theorem Dev.bump_clock (k : Nat) (d : Dev) : (d.bump k).clock = d.clock := rfl
@[simp] theorem Dev.bump_ledger (k : Nat) (d : Dev) : (d.bump k).ledger = d.ledger := rfl
@[simp] theorem Dev.bump_keeper (k : Nat) (d : Dev) : (d.bump k).keeper = d.keeper := rfl
@[simp] theorem Dev.bump_stripes (k : Nat) (d : Dev) : (d.bump k).stripes = d.stripes := rfl
@[simp] theorem Dev.bump_nextUid (k : Nat) (d : Dev) : (d.bump k).nextUid = d.nextUid := rfl
@[simp] theorem Dev.bump_nextEntry (k : Nat) (d : Dev) : (d.bump k).nextEntry = d.nextEntry := rfl
@[simp] theorem Dev.bump_unfold (k : Nat) (d : Dev) : (d.bump k).unfold = d.unfold := rfl
@[simp] theorem Dev.bump_dram (k : Nat) (d : Dev) : (d.bump k).dram = d.dram := rfl
@[simp] theorem Dev.bump_conv (k : Nat) (d : Dev) : (d.bump k).conv = d.conv := rfl
@[simp] theorem Dev.bump_link (k : Nat) (d : Dev) : (d.bump k).link = d.link := rfl
@[simp] theorem Dev.bump_stage (k : Nat) (d : Dev) : (d.bump k).stage = d.stage := rfl
@[simp] theorem Dev.bump_servo (k : Nat) (d : Dev) : (d.bump k).servo = d.servo := rfl
@[simp] theorem Dev.bump_rescue (k : Nat) (d : Dev) : (d.bump k).rescue = d.rescue := rfl
@[simp] theorem Dev.bump_service (k : Nat) (d : Dev) : (d.bump k).service = d.service := rfl
@[simp] theorem Dev.bump_axes (k : Nat) (d : Dev) : (d.bump k).axes = d.axes := rfl
@[simp] theorem Dev.bump_feed (k : Nat) (d : Dev) : (d.bump k).feed = d.feed := rfl
@[simp] theorem Dev.bump_rinse (k : Nat) (d : Dev) : (d.bump k).rinse = d.rinse := rfl
@[simp] theorem Dev.bump_soaking (k : Nat) (d : Dev) : (d.bump k).soaking = d.soaking := rfl
@[simp] theorem Dev.bump_march (k : Nat) (d : Dev) : (d.bump k).march = d.march := rfl
@[simp] theorem Dev.bump_sequence (k : Nat) (d : Dev) : (d.bump k).sequence = d.sequence := rfl
@[simp] theorem Dev.bump_measuring (k : Nat) (d : Dev) : (d.bump k).measuring = d.measuring := rfl
@[simp] theorem Dev.bump_tap (k : Nat) (d : Dev) : (d.bump k).tap = d.tap := rfl
@[simp] theorem Dev.bump_boundary (k : Nat) (d : Dev) : (d.bump k).boundary = d.boundary := rfl

@[simp] theorem Dev.putBit_mode (k n : Nat) (b : Bool) (d : Dev) : (d.putBit k n b).mode = d.mode := rfl
@[simp] theorem Dev.putBit_highRate (k n : Nat) (b : Bool) (d : Dev) : (d.putBit k n b).highRate = d.highRate := rfl
@[simp] theorem Dev.putBit_blobs (k n : Nat) (b : Bool) (d : Dev) : (d.putBit k n b).blobs = d.blobs := rfl
@[simp] theorem Dev.putBit_effGains (k n : Nat) (b : Bool) (d : Dev) : (d.putBit k n b).effGains = d.effGains := rfl
@[simp] theorem Dev.putBit_eff (k n : Nat) (b : Bool) (d : Dev) : (d.putBit k n b).eff = d.eff := rfl
@[simp] theorem Dev.putBit_effBlobs (k n : Nat) (b : Bool) (d : Dev) : (d.putBit k n b).effBlobs = d.effBlobs := rfl
@[simp] theorem Dev.putBit_gains (k n : Nat) (b : Bool) (d : Dev) : (d.putBit k n b).gains = d.gains := rfl
@[simp] theorem Dev.putBit_free (k n : Nat) (b : Bool) (d : Dev) : (d.putBit k n b).free = d.free := rfl
@[simp] theorem Dev.putBit_blanked (k n : Nat) (b : Bool) (d : Dev) : (d.putBit k n b).blanked = d.blanked := rfl
@[simp] theorem Dev.putBit_out (k n : Nat) (b : Bool) (d : Dev) : (d.putBit k n b).out = d.out := rfl
@[simp] theorem Dev.putBit_cop (k n : Nat) (b : Bool) (d : Dev) : (d.putBit k n b).cop = d.cop := rfl
@[simp] theorem Dev.putBit_recorder (k n : Nat) (b : Bool) (d : Dev) : (d.putBit k n b).recorder = d.recorder := rfl
@[simp] theorem Dev.putBit_counters (k n : Nat) (b : Bool) (d : Dev) : (d.putBit k n b).counters = d.counters := rfl
@[simp] theorem Dev.putBit_tag (k n : Nat) (b : Bool) (d : Dev) : (d.putBit k n b).tag = d.tag := rfl
@[simp] theorem Dev.putBit_clock (k n : Nat) (b : Bool) (d : Dev) : (d.putBit k n b).clock = d.clock := rfl
@[simp] theorem Dev.putBit_ledger (k n : Nat) (b : Bool) (d : Dev) : (d.putBit k n b).ledger = d.ledger := rfl
@[simp] theorem Dev.putBit_keeper (k n : Nat) (b : Bool) (d : Dev) : (d.putBit k n b).keeper = d.keeper := rfl
@[simp] theorem Dev.putBit_stripes (k n : Nat) (b : Bool) (d : Dev) : (d.putBit k n b).stripes = d.stripes := rfl
@[simp] theorem Dev.putBit_nextUid (k n : Nat) (b : Bool) (d : Dev) : (d.putBit k n b).nextUid = d.nextUid := rfl
@[simp] theorem Dev.putBit_nextEntry (k n : Nat) (b : Bool) (d : Dev) : (d.putBit k n b).nextEntry = d.nextEntry := rfl
@[simp] theorem Dev.putBit_unfold (k n : Nat) (b : Bool) (d : Dev) : (d.putBit k n b).unfold = d.unfold := rfl
@[simp] theorem Dev.putBit_dram (k n : Nat) (b : Bool) (d : Dev) : (d.putBit k n b).dram = d.dram := rfl
@[simp] theorem Dev.putBit_conv (k n : Nat) (b : Bool) (d : Dev) : (d.putBit k n b).conv = d.conv := rfl
@[simp] theorem Dev.putBit_link (k n : Nat) (b : Bool) (d : Dev) : (d.putBit k n b).link = d.link := rfl
@[simp] theorem Dev.putBit_stage (k n : Nat) (b : Bool) (d : Dev) : (d.putBit k n b).stage = d.stage := rfl
@[simp] theorem Dev.putBit_servo (k n : Nat) (b : Bool) (d : Dev) : (d.putBit k n b).servo = d.servo := rfl
@[simp] theorem Dev.putBit_rescue (k n : Nat) (b : Bool) (d : Dev) : (d.putBit k n b).rescue = d.rescue := rfl
@[simp] theorem Dev.putBit_service (k n : Nat) (b : Bool) (d : Dev) : (d.putBit k n b).service = d.service := rfl
@[simp] theorem Dev.putBit_axes (k n : Nat) (b : Bool) (d : Dev) : (d.putBit k n b).axes = d.axes := rfl
@[simp] theorem Dev.putBit_feed (k n : Nat) (b : Bool) (d : Dev) : (d.putBit k n b).feed = d.feed := rfl
@[simp] theorem Dev.putBit_rinse (k n : Nat) (b : Bool) (d : Dev) : (d.putBit k n b).rinse = d.rinse := rfl
@[simp] theorem Dev.putBit_soaking (k n : Nat) (b : Bool) (d : Dev) : (d.putBit k n b).soaking = d.soaking := rfl
@[simp] theorem Dev.putBit_march (k n : Nat) (b : Bool) (d : Dev) : (d.putBit k n b).march = d.march := rfl
@[simp] theorem Dev.putBit_sequence (k n : Nat) (b : Bool) (d : Dev) : (d.putBit k n b).sequence = d.sequence := rfl
@[simp] theorem Dev.putBit_measuring (k n : Nat) (b : Bool) (d : Dev) : (d.putBit k n b).measuring = d.measuring := rfl
@[simp] theorem Dev.putBit_tap (k n : Nat) (b : Bool) (d : Dev) : (d.putBit k n b).tap = d.tap := rfl
@[simp] theorem Dev.putBit_boundary (k n : Nat) (b : Bool) (d : Dev) : (d.putBit k n b).boundary = d.boundary := rfl

@[simp] theorem Dev.claim_mode (k o : Nat) (d : Dev) : (d.claim k o).mode = d.mode := rfl
@[simp] theorem Dev.claim_highRate (k o : Nat) (d : Dev) : (d.claim k o).highRate = d.highRate := rfl
@[simp] theorem Dev.claim_blobs (k o : Nat) (d : Dev) : (d.claim k o).blobs = d.blobs := rfl
@[simp] theorem Dev.claim_effGains (k o : Nat) (d : Dev) : (d.claim k o).effGains = d.effGains := rfl
@[simp] theorem Dev.claim_eff (k o : Nat) (d : Dev) : (d.claim k o).eff = d.eff := rfl
@[simp] theorem Dev.claim_effBlobs (k o : Nat) (d : Dev) : (d.claim k o).effBlobs = d.effBlobs := rfl
@[simp] theorem Dev.claim_gains (k o : Nat) (d : Dev) : (d.claim k o).gains = d.gains := rfl
@[simp] theorem Dev.claim_free (k o : Nat) (d : Dev) : (d.claim k o).free = d.free := rfl
@[simp] theorem Dev.claim_blanked (k o : Nat) (d : Dev) : (d.claim k o).blanked = d.blanked := rfl
@[simp] theorem Dev.claim_out (k o : Nat) (d : Dev) : (d.claim k o).out = d.out := rfl
@[simp] theorem Dev.claim_cop (k o : Nat) (d : Dev) : (d.claim k o).cop = d.cop := rfl
@[simp] theorem Dev.claim_recorder (k o : Nat) (d : Dev) : (d.claim k o).recorder = d.recorder := rfl
@[simp] theorem Dev.claim_counters (k o : Nat) (d : Dev) : (d.claim k o).counters = d.counters := rfl
@[simp] theorem Dev.claim_tag (k o : Nat) (d : Dev) : (d.claim k o).tag = d.tag := rfl
@[simp] theorem Dev.claim_clock (k o : Nat) (d : Dev) : (d.claim k o).clock = d.clock := rfl
@[simp] theorem Dev.claim_ledger (k o : Nat) (d : Dev) : (d.claim k o).ledger = d.ledger := rfl
@[simp] theorem Dev.claim_keeper (k o : Nat) (d : Dev) : (d.claim k o).keeper = d.keeper := rfl
@[simp] theorem Dev.claim_stripes (k o : Nat) (d : Dev) : (d.claim k o).stripes = d.stripes := rfl
@[simp] theorem Dev.claim_nextUid (k o : Nat) (d : Dev) : (d.claim k o).nextUid = d.nextUid := rfl
@[simp] theorem Dev.claim_nextEntry (k o : Nat) (d : Dev) : (d.claim k o).nextEntry = d.nextEntry := rfl
@[simp] theorem Dev.claim_unfold (k o : Nat) (d : Dev) : (d.claim k o).unfold = d.unfold := rfl
@[simp] theorem Dev.claim_dram (k o : Nat) (d : Dev) : (d.claim k o).dram = d.dram := rfl
@[simp] theorem Dev.claim_conv (k o : Nat) (d : Dev) : (d.claim k o).conv = d.conv := rfl
@[simp] theorem Dev.claim_link (k o : Nat) (d : Dev) : (d.claim k o).link = d.link := rfl
@[simp] theorem Dev.claim_stage (k o : Nat) (d : Dev) : (d.claim k o).stage = d.stage := rfl
@[simp] theorem Dev.claim_servo (k o : Nat) (d : Dev) : (d.claim k o).servo = d.servo := rfl
@[simp] theorem Dev.claim_rescue (k o : Nat) (d : Dev) : (d.claim k o).rescue = d.rescue := rfl
@[simp] theorem Dev.claim_service (k o : Nat) (d : Dev) : (d.claim k o).service = d.service := rfl
@[simp] theorem Dev.claim_axes (k o : Nat) (d : Dev) : (d.claim k o).axes = d.axes := rfl
@[simp] theorem Dev.claim_feed (k o : Nat) (d : Dev) : (d.claim k o).feed = d.feed := rfl
@[simp] theorem Dev.claim_rinse (k o : Nat) (d : Dev) : (d.claim k o).rinse = d.rinse := rfl
@[simp] theorem Dev.claim_soaking (k o : Nat) (d : Dev) : (d.claim k o).soaking = d.soaking := rfl
@[simp] theorem Dev.claim_march (k o : Nat) (d : Dev) : (d.claim k o).march = d.march := rfl
@[simp] theorem Dev.claim_sequence (k o : Nat) (d : Dev) : (d.claim k o).sequence = d.sequence := rfl
@[simp] theorem Dev.claim_measuring (k o : Nat) (d : Dev) : (d.claim k o).measuring = d.measuring := rfl
@[simp] theorem Dev.claim_tap (k o : Nat) (d : Dev) : (d.claim k o).tap = d.tap := rfl
@[simp] theorem Dev.claim_boundary (k o : Nat) (d : Dev) : (d.claim k o).boundary = d.boundary := rfl

@[simp] theorem Dev.unclaim_mode (k o : Nat) (d : Dev) : (d.unclaim k o).mode = d.mode := by unfold Dev.unclaim; split <;> rfl
@[simp] theorem Dev.unclaim_highRate (k o : Nat) (d : Dev) : (d.unclaim k o).highRate = d.highRate := by unfold Dev.unclaim; split <;> rfl
@[simp] theorem Dev.unclaim_blobs (k o : Nat) (d : Dev) : (d.unclaim k o).blobs = d.blobs := by unfold Dev.unclaim; split <;> rfl
@[simp] theorem Dev.unclaim_effGains (k o : Nat) (d : Dev) : (d.unclaim k o).effGains = d.effGains := by unfold Dev.unclaim; split <;> rfl
@[simp] theorem Dev.unclaim_eff (k o : Nat) (d : Dev) : (d.unclaim k o).eff = d.eff := by unfold Dev.unclaim; split <;> rfl
@[simp] theorem Dev.unclaim_effBlobs (k o : Nat) (d : Dev) : (d.unclaim k o).effBlobs = d.effBlobs := by unfold Dev.unclaim; split <;> rfl
@[simp] theorem Dev.unclaim_gains (k o : Nat) (d : Dev) : (d.unclaim k o).gains = d.gains := by unfold Dev.unclaim; split <;> rfl
@[simp] theorem Dev.unclaim_free (k o : Nat) (d : Dev) : (d.unclaim k o).free = d.free := by unfold Dev.unclaim; split <;> rfl
@[simp] theorem Dev.unclaim_blanked (k o : Nat) (d : Dev) : (d.unclaim k o).blanked = d.blanked := by unfold Dev.unclaim; split <;> rfl
@[simp] theorem Dev.unclaim_out (k o : Nat) (d : Dev) : (d.unclaim k o).out = d.out := by unfold Dev.unclaim; split <;> rfl
@[simp] theorem Dev.unclaim_cop (k o : Nat) (d : Dev) : (d.unclaim k o).cop = d.cop := by unfold Dev.unclaim; split <;> rfl
@[simp] theorem Dev.unclaim_recorder (k o : Nat) (d : Dev) : (d.unclaim k o).recorder = d.recorder := by unfold Dev.unclaim; split <;> rfl
@[simp] theorem Dev.unclaim_counters (k o : Nat) (d : Dev) : (d.unclaim k o).counters = d.counters := by unfold Dev.unclaim; split <;> rfl
@[simp] theorem Dev.unclaim_tag (k o : Nat) (d : Dev) : (d.unclaim k o).tag = d.tag := by unfold Dev.unclaim; split <;> rfl
@[simp] theorem Dev.unclaim_clock (k o : Nat) (d : Dev) : (d.unclaim k o).clock = d.clock := by unfold Dev.unclaim; split <;> rfl
@[simp] theorem Dev.unclaim_ledger (k o : Nat) (d : Dev) : (d.unclaim k o).ledger = d.ledger := by unfold Dev.unclaim; split <;> rfl
@[simp] theorem Dev.unclaim_keeper (k o : Nat) (d : Dev) : (d.unclaim k o).keeper = d.keeper := by unfold Dev.unclaim; split <;> rfl
@[simp] theorem Dev.unclaim_stripes (k o : Nat) (d : Dev) : (d.unclaim k o).stripes = d.stripes := by unfold Dev.unclaim; split <;> rfl
@[simp] theorem Dev.unclaim_nextUid (k o : Nat) (d : Dev) : (d.unclaim k o).nextUid = d.nextUid := by unfold Dev.unclaim; split <;> rfl
@[simp] theorem Dev.unclaim_nextEntry (k o : Nat) (d : Dev) : (d.unclaim k o).nextEntry = d.nextEntry := by unfold Dev.unclaim; split <;> rfl
@[simp] theorem Dev.unclaim_unfold (k o : Nat) (d : Dev) : (d.unclaim k o).unfold = d.unfold := by unfold Dev.unclaim; split <;> rfl
@[simp] theorem Dev.unclaim_dram (k o : Nat) (d : Dev) : (d.unclaim k o).dram = d.dram := by unfold Dev.unclaim; split <;> rfl
@[simp] theorem Dev.unclaim_conv (k o : Nat) (d : Dev) : (d.unclaim k o).conv = d.conv := by unfold Dev.unclaim; split <;> rfl
@[simp] theorem Dev.unclaim_link (k o : Nat) (d : Dev) : (d.unclaim k o).link = d.link := by unfold Dev.unclaim; split <;> rfl
@[simp] theorem Dev.unclaim_stage (k o : Nat) (d : Dev) : (d.unclaim k o).stage = d.stage := by unfold Dev.unclaim; split <;> rfl
@[simp] theorem Dev.unclaim_servo (k o : Nat) (d : Dev) : (d.unclaim k o).servo = d.servo := by unfold Dev.unclaim; split <;> rfl
@[simp] theorem Dev.unclaim_rescue (k o : Nat) (d : Dev) : (d.unclaim k o).rescue = d.rescue := by unfold Dev.unclaim; split <;> rfl
@[simp] theorem Dev.unclaim_service (k o : Nat) (d : Dev) : (d.unclaim k o).service = d.service := by unfold Dev.unclaim; split <;> rfl
@[simp] theorem Dev.unclaim_axes (k o : Nat) (d : Dev) : (d.unclaim k o).axes = d.axes := by unfold Dev.unclaim; split <;> rfl
@[simp] theorem Dev.unclaim_feed (k o : Nat) (d : Dev) : (d.unclaim k o).feed = d.feed := by unfold Dev.unclaim; split <;> rfl
@[simp] theorem Dev.unclaim_rinse (k o : Nat) (d : Dev) : (d.unclaim k o).rinse = d.rinse := by unfold Dev.unclaim; split <;> rfl
@[simp] theorem Dev.unclaim_soaking (k o : Nat) (d : Dev) : (d.unclaim k o).soaking = d.soaking := by unfold Dev.unclaim; split <;> rfl
@[simp] theorem Dev.unclaim_march (k o : Nat) (d : Dev) : (d.unclaim k o).march = d.march := by unfold Dev.unclaim; split <;> rfl
@[simp] theorem Dev.unclaim_sequence (k o : Nat) (d : Dev) : (d.unclaim k o).sequence = d.sequence := by unfold Dev.unclaim; split <;> rfl
@[simp] theorem Dev.unclaim_measuring (k o : Nat) (d : Dev) : (d.unclaim k o).measuring = d.measuring := by unfold Dev.unclaim; split <;> rfl
@[simp] theorem Dev.unclaim_tap (k o : Nat) (d : Dev) : (d.unclaim k o).tap = d.tap := by unfold Dev.unclaim; split <;> rfl
@[simp] theorem Dev.unclaim_boundary (k o : Nat) (d : Dev) : (d.unclaim k o).boundary = d.boundary := by unfold Dev.unclaim; split <;> rfl

@[simp] theorem Dev.putBlob_mode (k : Nat) (b : List Byte) (d : Dev) : (d.putBlob k b).mode = d.mode := rfl
@[simp] theorem Dev.putBlob_highRate (k : Nat) (b : List Byte) (d : Dev) : (d.putBlob k b).highRate = d.highRate := rfl
@[simp] theorem Dev.putBlob_objs (k : Nat) (b : List Byte) (d : Dev) : (d.putBlob k b).objs = d.objs := rfl
@[simp] theorem Dev.putBlob_effGains (k : Nat) (b : List Byte) (d : Dev) : (d.putBlob k b).effGains = d.effGains := rfl
@[simp] theorem Dev.putBlob_eff (k : Nat) (b : List Byte) (d : Dev) : (d.putBlob k b).eff = d.eff := rfl
@[simp] theorem Dev.putBlob_effBlobs (k : Nat) (b : List Byte) (d : Dev) : (d.putBlob k b).effBlobs = d.effBlobs := rfl
@[simp] theorem Dev.putBlob_gains (k : Nat) (b : List Byte) (d : Dev) : (d.putBlob k b).gains = d.gains := rfl
@[simp] theorem Dev.putBlob_free (k : Nat) (b : List Byte) (d : Dev) : (d.putBlob k b).free = d.free := rfl
@[simp] theorem Dev.putBlob_blanked (k : Nat) (b : List Byte) (d : Dev) : (d.putBlob k b).blanked = d.blanked := rfl
@[simp] theorem Dev.putBlob_out (k : Nat) (b : List Byte) (d : Dev) : (d.putBlob k b).out = d.out := rfl
@[simp] theorem Dev.putBlob_cop (k : Nat) (b : List Byte) (d : Dev) : (d.putBlob k b).cop = d.cop := rfl
@[simp] theorem Dev.putBlob_recorder (k : Nat) (b : List Byte) (d : Dev) : (d.putBlob k b).recorder = d.recorder := rfl
@[simp] theorem Dev.putBlob_counters (k : Nat) (b : List Byte) (d : Dev) : (d.putBlob k b).counters = d.counters := rfl
@[simp] theorem Dev.putBlob_tag (k : Nat) (b : List Byte) (d : Dev) : (d.putBlob k b).tag = d.tag := rfl
@[simp] theorem Dev.putBlob_clock (k : Nat) (b : List Byte) (d : Dev) : (d.putBlob k b).clock = d.clock := rfl
@[simp] theorem Dev.putBlob_ledger (k : Nat) (b : List Byte) (d : Dev) : (d.putBlob k b).ledger = d.ledger := rfl
@[simp] theorem Dev.putBlob_keeper (k : Nat) (b : List Byte) (d : Dev) : (d.putBlob k b).keeper = d.keeper := rfl
@[simp] theorem Dev.putBlob_stripes (k : Nat) (b : List Byte) (d : Dev) : (d.putBlob k b).stripes = d.stripes := rfl
@[simp] theorem Dev.putBlob_nextUid (k : Nat) (b : List Byte) (d : Dev) : (d.putBlob k b).nextUid = d.nextUid := rfl
@[simp] theorem Dev.putBlob_nextEntry (k : Nat) (b : List Byte) (d : Dev) : (d.putBlob k b).nextEntry = d.nextEntry := rfl
@[simp] theorem Dev.putBlob_unfold (k : Nat) (b : List Byte) (d : Dev) : (d.putBlob k b).unfold = d.unfold := rfl
@[simp] theorem Dev.putBlob_dram (k : Nat) (b : List Byte) (d : Dev) : (d.putBlob k b).dram = d.dram := rfl
@[simp] theorem Dev.putBlob_conv (k : Nat) (b : List Byte) (d : Dev) : (d.putBlob k b).conv = d.conv := rfl
@[simp] theorem Dev.putBlob_link (k : Nat) (b : List Byte) (d : Dev) : (d.putBlob k b).link = d.link := rfl
@[simp] theorem Dev.putBlob_stage (k : Nat) (b : List Byte) (d : Dev) : (d.putBlob k b).stage = d.stage := rfl
@[simp] theorem Dev.putBlob_servo (k : Nat) (b : List Byte) (d : Dev) : (d.putBlob k b).servo = d.servo := rfl
@[simp] theorem Dev.putBlob_rescue (k : Nat) (b : List Byte) (d : Dev) : (d.putBlob k b).rescue = d.rescue := rfl
@[simp] theorem Dev.putBlob_service (k : Nat) (b : List Byte) (d : Dev) : (d.putBlob k b).service = d.service := rfl
@[simp] theorem Dev.putBlob_axes (k : Nat) (b : List Byte) (d : Dev) : (d.putBlob k b).axes = d.axes := rfl
@[simp] theorem Dev.putBlob_feed (k : Nat) (b : List Byte) (d : Dev) : (d.putBlob k b).feed = d.feed := rfl
@[simp] theorem Dev.putBlob_rinse (k : Nat) (b : List Byte) (d : Dev) : (d.putBlob k b).rinse = d.rinse := rfl
@[simp] theorem Dev.putBlob_soaking (k : Nat) (b : List Byte) (d : Dev) : (d.putBlob k b).soaking = d.soaking := rfl
@[simp] theorem Dev.putBlob_march (k : Nat) (b : List Byte) (d : Dev) : (d.putBlob k b).march = d.march := rfl
@[simp] theorem Dev.putBlob_sequence (k : Nat) (b : List Byte) (d : Dev) : (d.putBlob k b).sequence = d.sequence := rfl
@[simp] theorem Dev.putBlob_measuring (k : Nat) (b : List Byte) (d : Dev) : (d.putBlob k b).measuring = d.measuring := rfl
@[simp] theorem Dev.putBlob_tap (k : Nat) (b : List Byte) (d : Dev) : (d.putBlob k b).tap = d.tap := rfl
@[simp] theorem Dev.putBlob_boundary (k : Nat) (b : List Byte) (d : Dev) : (d.putBlob k b).boundary = d.boundary := rfl

@[simp] theorem Dev.putBar2_mode (k v : Nat) (d : Dev) : (d.putBar2 k v).mode = d.mode := rfl
@[simp] theorem Dev.putBar2_highRate (k v : Nat) (d : Dev) : (d.putBar2 k v).highRate = d.highRate := rfl
@[simp] theorem Dev.putBar2_objs (k v : Nat) (d : Dev) : (d.putBar2 k v).objs = d.objs := rfl
@[simp] theorem Dev.putBar2_blobs (k v : Nat) (d : Dev) : (d.putBar2 k v).blobs = d.blobs := rfl
@[simp] theorem Dev.putBar2_effGains (k v : Nat) (d : Dev) : (d.putBar2 k v).effGains = d.effGains := rfl
@[simp] theorem Dev.putBar2_eff (k v : Nat) (d : Dev) : (d.putBar2 k v).eff = d.eff := rfl
@[simp] theorem Dev.putBar2_effBlobs (k v : Nat) (d : Dev) : (d.putBar2 k v).effBlobs = d.effBlobs := rfl
@[simp] theorem Dev.putBar2_gains (k v : Nat) (d : Dev) : (d.putBar2 k v).gains = d.gains := rfl
@[simp] theorem Dev.putBar2_free (k v : Nat) (d : Dev) : (d.putBar2 k v).free = d.free := rfl
@[simp] theorem Dev.putBar2_blanked (k v : Nat) (d : Dev) : (d.putBar2 k v).blanked = d.blanked := rfl
@[simp] theorem Dev.putBar2_out (k v : Nat) (d : Dev) : (d.putBar2 k v).out = d.out := rfl
@[simp] theorem Dev.putBar2_recorder (k v : Nat) (d : Dev) : (d.putBar2 k v).recorder = d.recorder := rfl
@[simp] theorem Dev.putBar2_counters (k v : Nat) (d : Dev) : (d.putBar2 k v).counters = d.counters := rfl
@[simp] theorem Dev.putBar2_tag (k v : Nat) (d : Dev) : (d.putBar2 k v).tag = d.tag := rfl
@[simp] theorem Dev.putBar2_clock (k v : Nat) (d : Dev) : (d.putBar2 k v).clock = d.clock := rfl
@[simp] theorem Dev.putBar2_ledger (k v : Nat) (d : Dev) : (d.putBar2 k v).ledger = d.ledger := rfl
@[simp] theorem Dev.putBar2_keeper (k v : Nat) (d : Dev) : (d.putBar2 k v).keeper = d.keeper := rfl
@[simp] theorem Dev.putBar2_stripes (k v : Nat) (d : Dev) : (d.putBar2 k v).stripes = d.stripes := rfl
@[simp] theorem Dev.putBar2_nextUid (k v : Nat) (d : Dev) : (d.putBar2 k v).nextUid = d.nextUid := rfl
@[simp] theorem Dev.putBar2_nextEntry (k v : Nat) (d : Dev) : (d.putBar2 k v).nextEntry = d.nextEntry := rfl
@[simp] theorem Dev.putBar2_unfold (k v : Nat) (d : Dev) : (d.putBar2 k v).unfold = d.unfold := rfl
@[simp] theorem Dev.putBar2_dram (k v : Nat) (d : Dev) : (d.putBar2 k v).dram = d.dram := rfl
@[simp] theorem Dev.putBar2_conv (k v : Nat) (d : Dev) : (d.putBar2 k v).conv = d.conv := rfl
@[simp] theorem Dev.putBar2_link (k v : Nat) (d : Dev) : (d.putBar2 k v).link = d.link := rfl
@[simp] theorem Dev.putBar2_stage (k v : Nat) (d : Dev) : (d.putBar2 k v).stage = d.stage := rfl
@[simp] theorem Dev.putBar2_servo (k v : Nat) (d : Dev) : (d.putBar2 k v).servo = d.servo := rfl
@[simp] theorem Dev.putBar2_rescue (k v : Nat) (d : Dev) : (d.putBar2 k v).rescue = d.rescue := rfl
@[simp] theorem Dev.putBar2_service (k v : Nat) (d : Dev) : (d.putBar2 k v).service = d.service := rfl
@[simp] theorem Dev.putBar2_axes (k v : Nat) (d : Dev) : (d.putBar2 k v).axes = d.axes := rfl
@[simp] theorem Dev.putBar2_feed (k v : Nat) (d : Dev) : (d.putBar2 k v).feed = d.feed := rfl
@[simp] theorem Dev.putBar2_rinse (k v : Nat) (d : Dev) : (d.putBar2 k v).rinse = d.rinse := rfl
@[simp] theorem Dev.putBar2_soaking (k v : Nat) (d : Dev) : (d.putBar2 k v).soaking = d.soaking := rfl
@[simp] theorem Dev.putBar2_march (k v : Nat) (d : Dev) : (d.putBar2 k v).march = d.march := rfl
@[simp] theorem Dev.putBar2_sequence (k v : Nat) (d : Dev) : (d.putBar2 k v).sequence = d.sequence := rfl
@[simp] theorem Dev.putBar2_measuring (k v : Nat) (d : Dev) : (d.putBar2 k v).measuring = d.measuring := rfl
@[simp] theorem Dev.putBar2_tap (k v : Nat) (d : Dev) : (d.putBar2 k v).tap = d.tap := rfl
@[simp] theorem Dev.putBar2_boundary (k v : Nat) (d : Dev) : (d.putBar2 k v).boundary = d.boundary := rfl

@[simp] theorem Dev.putArea_mode (k : Nat) (b : List Byte) (d : Dev) : (d.putArea k b).mode = d.mode := rfl
@[simp] theorem Dev.putArea_highRate (k : Nat) (b : List Byte) (d : Dev) : (d.putArea k b).highRate = d.highRate := rfl
@[simp] theorem Dev.putArea_objs (k : Nat) (b : List Byte) (d : Dev) : (d.putArea k b).objs = d.objs := rfl
@[simp] theorem Dev.putArea_blobs (k : Nat) (b : List Byte) (d : Dev) : (d.putArea k b).blobs = d.blobs := rfl
@[simp] theorem Dev.putArea_effGains (k : Nat) (b : List Byte) (d : Dev) : (d.putArea k b).effGains = d.effGains := rfl
@[simp] theorem Dev.putArea_eff (k : Nat) (b : List Byte) (d : Dev) : (d.putArea k b).eff = d.eff := rfl
@[simp] theorem Dev.putArea_effBlobs (k : Nat) (b : List Byte) (d : Dev) : (d.putArea k b).effBlobs = d.effBlobs := rfl
@[simp] theorem Dev.putArea_gains (k : Nat) (b : List Byte) (d : Dev) : (d.putArea k b).gains = d.gains := rfl
@[simp] theorem Dev.putArea_free (k : Nat) (b : List Byte) (d : Dev) : (d.putArea k b).free = d.free := rfl
@[simp] theorem Dev.putArea_blanked (k : Nat) (b : List Byte) (d : Dev) : (d.putArea k b).blanked = d.blanked := rfl
@[simp] theorem Dev.putArea_out (k : Nat) (b : List Byte) (d : Dev) : (d.putArea k b).out = d.out := rfl
@[simp] theorem Dev.putArea_recorder (k : Nat) (b : List Byte) (d : Dev) : (d.putArea k b).recorder = d.recorder := rfl
@[simp] theorem Dev.putArea_counters (k : Nat) (b : List Byte) (d : Dev) : (d.putArea k b).counters = d.counters := rfl
@[simp] theorem Dev.putArea_tag (k : Nat) (b : List Byte) (d : Dev) : (d.putArea k b).tag = d.tag := rfl
@[simp] theorem Dev.putArea_clock (k : Nat) (b : List Byte) (d : Dev) : (d.putArea k b).clock = d.clock := rfl
@[simp] theorem Dev.putArea_ledger (k : Nat) (b : List Byte) (d : Dev) : (d.putArea k b).ledger = d.ledger := rfl
@[simp] theorem Dev.putArea_keeper (k : Nat) (b : List Byte) (d : Dev) : (d.putArea k b).keeper = d.keeper := rfl
@[simp] theorem Dev.putArea_stripes (k : Nat) (b : List Byte) (d : Dev) : (d.putArea k b).stripes = d.stripes := rfl
@[simp] theorem Dev.putArea_nextUid (k : Nat) (b : List Byte) (d : Dev) : (d.putArea k b).nextUid = d.nextUid := rfl
@[simp] theorem Dev.putArea_nextEntry (k : Nat) (b : List Byte) (d : Dev) : (d.putArea k b).nextEntry = d.nextEntry := rfl
@[simp] theorem Dev.putArea_unfold (k : Nat) (b : List Byte) (d : Dev) : (d.putArea k b).unfold = d.unfold := rfl
@[simp] theorem Dev.putArea_dram (k : Nat) (b : List Byte) (d : Dev) : (d.putArea k b).dram = d.dram := rfl
@[simp] theorem Dev.putArea_conv (k : Nat) (b : List Byte) (d : Dev) : (d.putArea k b).conv = d.conv := rfl
@[simp] theorem Dev.putArea_link (k : Nat) (b : List Byte) (d : Dev) : (d.putArea k b).link = d.link := rfl
@[simp] theorem Dev.putArea_stage (k : Nat) (b : List Byte) (d : Dev) : (d.putArea k b).stage = d.stage := rfl
@[simp] theorem Dev.putArea_servo (k : Nat) (b : List Byte) (d : Dev) : (d.putArea k b).servo = d.servo := rfl
@[simp] theorem Dev.putArea_rescue (k : Nat) (b : List Byte) (d : Dev) : (d.putArea k b).rescue = d.rescue := rfl
@[simp] theorem Dev.putArea_service (k : Nat) (b : List Byte) (d : Dev) : (d.putArea k b).service = d.service := rfl
@[simp] theorem Dev.putArea_axes (k : Nat) (b : List Byte) (d : Dev) : (d.putArea k b).axes = d.axes := rfl
@[simp] theorem Dev.putArea_feed (k : Nat) (b : List Byte) (d : Dev) : (d.putArea k b).feed = d.feed := rfl
@[simp] theorem Dev.putArea_rinse (k : Nat) (b : List Byte) (d : Dev) : (d.putArea k b).rinse = d.rinse := rfl
@[simp] theorem Dev.putArea_soaking (k : Nat) (b : List Byte) (d : Dev) : (d.putArea k b).soaking = d.soaking := rfl
@[simp] theorem Dev.putArea_march (k : Nat) (b : List Byte) (d : Dev) : (d.putArea k b).march = d.march := rfl
@[simp] theorem Dev.putArea_sequence (k : Nat) (b : List Byte) (d : Dev) : (d.putArea k b).sequence = d.sequence := rfl
@[simp] theorem Dev.putArea_measuring (k : Nat) (b : List Byte) (d : Dev) : (d.putArea k b).measuring = d.measuring := rfl
@[simp] theorem Dev.putArea_tap (k : Nat) (b : List Byte) (d : Dev) : (d.putArea k b).tap = d.tap := rfl
@[simp] theorem Dev.putArea_boundary (k : Nat) (b : List Byte) (d : Dev) : (d.putArea k b).boundary = d.boundary := rfl

@[simp] theorem Dev.send_mode (o : Out) (d : Dev) : (d.send o).mode = d.mode := rfl
@[simp] theorem Dev.send_highRate (o : Out) (d : Dev) : (d.send o).highRate = d.highRate := rfl
@[simp] theorem Dev.send_objs (o : Out) (d : Dev) : (d.send o).objs = d.objs := rfl
@[simp] theorem Dev.send_blobs (o : Out) (d : Dev) : (d.send o).blobs = d.blobs := rfl
@[simp] theorem Dev.send_effGains (o : Out) (d : Dev) : (d.send o).effGains = d.effGains := rfl
@[simp] theorem Dev.send_eff (o : Out) (d : Dev) : (d.send o).eff = d.eff := rfl
@[simp] theorem Dev.send_effBlobs (o : Out) (d : Dev) : (d.send o).effBlobs = d.effBlobs := rfl
@[simp] theorem Dev.send_gains (o : Out) (d : Dev) : (d.send o).gains = d.gains := rfl
@[simp] theorem Dev.send_free (o : Out) (d : Dev) : (d.send o).free = d.free := rfl
@[simp] theorem Dev.send_blanked (o : Out) (d : Dev) : (d.send o).blanked = d.blanked := rfl
@[simp] theorem Dev.send_cop (o : Out) (d : Dev) : (d.send o).cop = d.cop := rfl
@[simp] theorem Dev.send_recorder (o : Out) (d : Dev) : (d.send o).recorder = d.recorder := rfl
@[simp] theorem Dev.send_counters (o : Out) (d : Dev) : (d.send o).counters = d.counters := rfl
@[simp] theorem Dev.send_tag (o : Out) (d : Dev) : (d.send o).tag = d.tag := rfl
@[simp] theorem Dev.send_clock (o : Out) (d : Dev) : (d.send o).clock = d.clock := rfl
@[simp] theorem Dev.send_ledger (o : Out) (d : Dev) : (d.send o).ledger = d.ledger := rfl
@[simp] theorem Dev.send_keeper (o : Out) (d : Dev) : (d.send o).keeper = d.keeper := rfl
@[simp] theorem Dev.send_stripes (o : Out) (d : Dev) : (d.send o).stripes = d.stripes := rfl
@[simp] theorem Dev.send_nextUid (o : Out) (d : Dev) : (d.send o).nextUid = d.nextUid := rfl
@[simp] theorem Dev.send_nextEntry (o : Out) (d : Dev) : (d.send o).nextEntry = d.nextEntry := rfl
@[simp] theorem Dev.send_unfold (o : Out) (d : Dev) : (d.send o).unfold = d.unfold := rfl
@[simp] theorem Dev.send_dram (o : Out) (d : Dev) : (d.send o).dram = d.dram := rfl
@[simp] theorem Dev.send_conv (o : Out) (d : Dev) : (d.send o).conv = d.conv := rfl
@[simp] theorem Dev.send_link (o : Out) (d : Dev) : (d.send o).link = d.link := rfl
@[simp] theorem Dev.send_stage (o : Out) (d : Dev) : (d.send o).stage = d.stage := rfl
@[simp] theorem Dev.send_servo (o : Out) (d : Dev) : (d.send o).servo = d.servo := rfl
@[simp] theorem Dev.send_rescue (o : Out) (d : Dev) : (d.send o).rescue = d.rescue := rfl
@[simp] theorem Dev.send_service (o : Out) (d : Dev) : (d.send o).service = d.service := rfl
@[simp] theorem Dev.send_axes (o : Out) (d : Dev) : (d.send o).axes = d.axes := rfl
@[simp] theorem Dev.send_feed (o : Out) (d : Dev) : (d.send o).feed = d.feed := rfl
@[simp] theorem Dev.send_rinse (o : Out) (d : Dev) : (d.send o).rinse = d.rinse := rfl
@[simp] theorem Dev.send_soaking (o : Out) (d : Dev) : (d.send o).soaking = d.soaking := rfl
@[simp] theorem Dev.send_march (o : Out) (d : Dev) : (d.send o).march = d.march := rfl
@[simp] theorem Dev.send_sequence (o : Out) (d : Dev) : (d.send o).sequence = d.sequence := rfl
@[simp] theorem Dev.send_measuring (o : Out) (d : Dev) : (d.send o).measuring = d.measuring := rfl
@[simp] theorem Dev.send_tap (o : Out) (d : Dev) : (d.send o).tap = d.tap := rfl
@[simp] theorem Dev.send_boundary (o : Out) (d : Dev) : (d.send o).boundary = d.boundary := rfl

@[simp] theorem Dev.count_mode (c : Nat) (d : Dev) : (d.count c).mode = d.mode := by unfold Dev.count; split <;> rfl
@[simp] theorem Dev.count_highRate (c : Nat) (d : Dev) : (d.count c).highRate = d.highRate := by unfold Dev.count; split <;> rfl
@[simp] theorem Dev.count_objs (c : Nat) (d : Dev) : (d.count c).objs = d.objs := by unfold Dev.count; split <;> rfl
@[simp] theorem Dev.count_blobs (c : Nat) (d : Dev) : (d.count c).blobs = d.blobs := by unfold Dev.count; split <;> rfl
@[simp] theorem Dev.count_effGains (c : Nat) (d : Dev) : (d.count c).effGains = d.effGains := by unfold Dev.count; split <;> rfl
@[simp] theorem Dev.count_eff (c : Nat) (d : Dev) : (d.count c).eff = d.eff := by unfold Dev.count; split <;> rfl
@[simp] theorem Dev.count_effBlobs (c : Nat) (d : Dev) : (d.count c).effBlobs = d.effBlobs := by unfold Dev.count; split <;> rfl
@[simp] theorem Dev.count_gains (c : Nat) (d : Dev) : (d.count c).gains = d.gains := by unfold Dev.count; split <;> rfl
@[simp] theorem Dev.count_free (c : Nat) (d : Dev) : (d.count c).free = d.free := by unfold Dev.count; split <;> rfl
@[simp] theorem Dev.count_blanked (c : Nat) (d : Dev) : (d.count c).blanked = d.blanked := by unfold Dev.count; split <;> rfl
@[simp] theorem Dev.count_out (c : Nat) (d : Dev) : (d.count c).out = d.out := by unfold Dev.count; split <;> rfl
@[simp] theorem Dev.count_cop (c : Nat) (d : Dev) : (d.count c).cop = d.cop := by unfold Dev.count; split <;> rfl
@[simp] theorem Dev.count_recorder (c : Nat) (d : Dev) : (d.count c).recorder = d.recorder := by unfold Dev.count; split <;> rfl
@[simp] theorem Dev.count_tag (c : Nat) (d : Dev) : (d.count c).tag = d.tag := by unfold Dev.count; split <;> rfl
@[simp] theorem Dev.count_clock (c : Nat) (d : Dev) : (d.count c).clock = d.clock := by unfold Dev.count; split <;> rfl
@[simp] theorem Dev.count_ledger (c : Nat) (d : Dev) : (d.count c).ledger = d.ledger := by unfold Dev.count; split <;> rfl
@[simp] theorem Dev.count_keeper (c : Nat) (d : Dev) : (d.count c).keeper = d.keeper := by unfold Dev.count; split <;> rfl
@[simp] theorem Dev.count_stripes (c : Nat) (d : Dev) : (d.count c).stripes = d.stripes := by unfold Dev.count; split <;> rfl
@[simp] theorem Dev.count_nextUid (c : Nat) (d : Dev) : (d.count c).nextUid = d.nextUid := by unfold Dev.count; split <;> rfl
@[simp] theorem Dev.count_nextEntry (c : Nat) (d : Dev) : (d.count c).nextEntry = d.nextEntry := by unfold Dev.count; split <;> rfl
@[simp] theorem Dev.count_unfold (c : Nat) (d : Dev) : (d.count c).unfold = d.unfold := by unfold Dev.count; split <;> rfl
@[simp] theorem Dev.count_dram (c : Nat) (d : Dev) : (d.count c).dram = d.dram := by unfold Dev.count; split <;> rfl
@[simp] theorem Dev.count_conv (c : Nat) (d : Dev) : (d.count c).conv = d.conv := by unfold Dev.count; split <;> rfl
@[simp] theorem Dev.count_link (c : Nat) (d : Dev) : (d.count c).link = d.link := by unfold Dev.count; split <;> rfl
@[simp] theorem Dev.count_stage (c : Nat) (d : Dev) : (d.count c).stage = d.stage := by unfold Dev.count; split <;> rfl
@[simp] theorem Dev.count_servo (c : Nat) (d : Dev) : (d.count c).servo = d.servo := by unfold Dev.count; split <;> rfl
@[simp] theorem Dev.count_rescue (c : Nat) (d : Dev) : (d.count c).rescue = d.rescue := by unfold Dev.count; split <;> rfl
@[simp] theorem Dev.count_service (c : Nat) (d : Dev) : (d.count c).service = d.service := by unfold Dev.count; split <;> rfl
@[simp] theorem Dev.count_axes (c : Nat) (d : Dev) : (d.count c).axes = d.axes := by unfold Dev.count; split <;> rfl
@[simp] theorem Dev.count_feed (c : Nat) (d : Dev) : (d.count c).feed = d.feed := by unfold Dev.count; split <;> rfl
@[simp] theorem Dev.count_rinse (c : Nat) (d : Dev) : (d.count c).rinse = d.rinse := by unfold Dev.count; split <;> rfl
@[simp] theorem Dev.count_soaking (c : Nat) (d : Dev) : (d.count c).soaking = d.soaking := by unfold Dev.count; split <;> rfl
@[simp] theorem Dev.count_march (c : Nat) (d : Dev) : (d.count c).march = d.march := by unfold Dev.count; split <;> rfl
@[simp] theorem Dev.count_sequence (c : Nat) (d : Dev) : (d.count c).sequence = d.sequence := by unfold Dev.count; split <;> rfl
@[simp] theorem Dev.count_measuring (c : Nat) (d : Dev) : (d.count c).measuring = d.measuring := by unfold Dev.count; split <;> rfl
@[simp] theorem Dev.count_tap (c : Nat) (d : Dev) : (d.count c).tap = d.tap := by unfold Dev.count; split <;> rfl
@[simp] theorem Dev.count_boundary (c : Nat) (d : Dev) : (d.count c).boundary = d.boundary := by unfold Dev.count; split <;> rfl

@[simp] theorem Dev.record_mode (a c : Nat) (p : List Nat) (d : Dev) : (d.record a c p).mode = d.mode := by unfold Dev.record; dsimp only; split <;> rfl
@[simp] theorem Dev.record_highRate (a c : Nat) (p : List Nat) (d : Dev) : (d.record a c p).highRate = d.highRate := by unfold Dev.record; dsimp only; split <;> rfl
@[simp] theorem Dev.record_blobs (a c : Nat) (p : List Nat) (d : Dev) : (d.record a c p).blobs = d.blobs := by unfold Dev.record; dsimp only; split <;> rfl
@[simp] theorem Dev.record_effGains (a c : Nat) (p : List Nat) (d : Dev) : (d.record a c p).effGains = d.effGains := by unfold Dev.record; dsimp only; split <;> rfl
@[simp] theorem Dev.record_eff (a c : Nat) (p : List Nat) (d : Dev) : (d.record a c p).eff = d.eff := by unfold Dev.record; dsimp only; split <;> rfl
@[simp] theorem Dev.record_effBlobs (a c : Nat) (p : List Nat) (d : Dev) : (d.record a c p).effBlobs = d.effBlobs := by unfold Dev.record; dsimp only; split <;> rfl
@[simp] theorem Dev.record_gains (a c : Nat) (p : List Nat) (d : Dev) : (d.record a c p).gains = d.gains := by unfold Dev.record; dsimp only; split <;> rfl
@[simp] theorem Dev.record_free (a c : Nat) (p : List Nat) (d : Dev) : (d.record a c p).free = d.free := by unfold Dev.record; dsimp only; split <;> rfl
@[simp] theorem Dev.record_blanked (a c : Nat) (p : List Nat) (d : Dev) : (d.record a c p).blanked = d.blanked := by unfold Dev.record; dsimp only; split <;> rfl
@[simp] theorem Dev.record_out (a c : Nat) (p : List Nat) (d : Dev) : (d.record a c p).out = d.out := by unfold Dev.record; dsimp only; split <;> rfl
@[simp] theorem Dev.record_cop (a c : Nat) (p : List Nat) (d : Dev) : (d.record a c p).cop = d.cop := by unfold Dev.record; dsimp only; split <;> rfl
@[simp] theorem Dev.record_counters (a c : Nat) (p : List Nat) (d : Dev) : (d.record a c p).counters = d.counters := by unfold Dev.record; dsimp only; split <;> rfl
@[simp] theorem Dev.record_tag (a c : Nat) (p : List Nat) (d : Dev) : (d.record a c p).tag = d.tag := by unfold Dev.record; dsimp only; split <;> rfl
@[simp] theorem Dev.record_clock (a c : Nat) (p : List Nat) (d : Dev) : (d.record a c p).clock = d.clock := by unfold Dev.record; dsimp only; split <;> rfl
@[simp] theorem Dev.record_ledger (a c : Nat) (p : List Nat) (d : Dev) : (d.record a c p).ledger = d.ledger := by unfold Dev.record; dsimp only; split <;> rfl
@[simp] theorem Dev.record_keeper (a c : Nat) (p : List Nat) (d : Dev) : (d.record a c p).keeper = d.keeper := by unfold Dev.record; dsimp only; split <;> rfl
@[simp] theorem Dev.record_stripes (a c : Nat) (p : List Nat) (d : Dev) : (d.record a c p).stripes = d.stripes := by unfold Dev.record; dsimp only; split <;> rfl
@[simp] theorem Dev.record_nextUid (a c : Nat) (p : List Nat) (d : Dev) : (d.record a c p).nextUid = d.nextUid := by unfold Dev.record; dsimp only; split <;> rfl
@[simp] theorem Dev.record_nextEntry (a c : Nat) (p : List Nat) (d : Dev) : (d.record a c p).nextEntry = d.nextEntry := by unfold Dev.record; dsimp only; split <;> rfl
@[simp] theorem Dev.record_unfold (a c : Nat) (p : List Nat) (d : Dev) : (d.record a c p).unfold = d.unfold := by unfold Dev.record; dsimp only; split <;> rfl
@[simp] theorem Dev.record_dram (a c : Nat) (p : List Nat) (d : Dev) : (d.record a c p).dram = d.dram := by unfold Dev.record; dsimp only; split <;> rfl
@[simp] theorem Dev.record_conv (a c : Nat) (p : List Nat) (d : Dev) : (d.record a c p).conv = d.conv := by unfold Dev.record; dsimp only; split <;> rfl
@[simp] theorem Dev.record_link (a c : Nat) (p : List Nat) (d : Dev) : (d.record a c p).link = d.link := by unfold Dev.record; dsimp only; split <;> rfl
@[simp] theorem Dev.record_stage (a c : Nat) (p : List Nat) (d : Dev) : (d.record a c p).stage = d.stage := by unfold Dev.record; dsimp only; split <;> rfl
@[simp] theorem Dev.record_servo (a c : Nat) (p : List Nat) (d : Dev) : (d.record a c p).servo = d.servo := by unfold Dev.record; dsimp only; split <;> rfl
@[simp] theorem Dev.record_rescue (a c : Nat) (p : List Nat) (d : Dev) : (d.record a c p).rescue = d.rescue := by unfold Dev.record; dsimp only; split <;> rfl
@[simp] theorem Dev.record_service (a c : Nat) (p : List Nat) (d : Dev) : (d.record a c p).service = d.service := by unfold Dev.record; dsimp only; split <;> rfl
@[simp] theorem Dev.record_axes (a c : Nat) (p : List Nat) (d : Dev) : (d.record a c p).axes = d.axes := by unfold Dev.record; dsimp only; split <;> rfl
@[simp] theorem Dev.record_feed (a c : Nat) (p : List Nat) (d : Dev) : (d.record a c p).feed = d.feed := by unfold Dev.record; dsimp only; split <;> rfl
@[simp] theorem Dev.record_rinse (a c : Nat) (p : List Nat) (d : Dev) : (d.record a c p).rinse = d.rinse := by unfold Dev.record; dsimp only; split <;> rfl
@[simp] theorem Dev.record_soaking (a c : Nat) (p : List Nat) (d : Dev) : (d.record a c p).soaking = d.soaking := by unfold Dev.record; dsimp only; split <;> rfl
@[simp] theorem Dev.record_march (a c : Nat) (p : List Nat) (d : Dev) : (d.record a c p).march = d.march := by unfold Dev.record; dsimp only; split <;> rfl
@[simp] theorem Dev.record_sequence (a c : Nat) (p : List Nat) (d : Dev) : (d.record a c p).sequence = d.sequence := by unfold Dev.record; dsimp only; split <;> rfl
@[simp] theorem Dev.record_measuring (a c : Nat) (p : List Nat) (d : Dev) : (d.record a c p).measuring = d.measuring := by unfold Dev.record; dsimp only; split <;> rfl
@[simp] theorem Dev.record_tap (a c : Nat) (p : List Nat) (d : Dev) : (d.record a c p).tap = d.tap := by unfold Dev.record; dsimp only; split <;> rfl
@[simp] theorem Dev.record_boundary (a c : Nat) (p : List Nat) (d : Dev) : (d.record a c p).boundary = d.boundary := by unfold Dev.record; dsimp only; split <;> rfl

@[simp] theorem Dev.raise_mode (a c : Nat) (p : List Nat) (d : Dev) : (d.raise a c p).mode = d.mode := by simp [Dev.raise]
@[simp] theorem Dev.raise_highRate (a c : Nat) (p : List Nat) (d : Dev) : (d.raise a c p).highRate = d.highRate := by simp [Dev.raise]
@[simp] theorem Dev.raise_blobs (a c : Nat) (p : List Nat) (d : Dev) : (d.raise a c p).blobs = d.blobs := by simp [Dev.raise]
@[simp] theorem Dev.raise_effGains (a c : Nat) (p : List Nat) (d : Dev) : (d.raise a c p).effGains = d.effGains := by simp [Dev.raise]
@[simp] theorem Dev.raise_eff (a c : Nat) (p : List Nat) (d : Dev) : (d.raise a c p).eff = d.eff := by simp [Dev.raise]
@[simp] theorem Dev.raise_effBlobs (a c : Nat) (p : List Nat) (d : Dev) : (d.raise a c p).effBlobs = d.effBlobs := by simp [Dev.raise]
@[simp] theorem Dev.raise_gains (a c : Nat) (p : List Nat) (d : Dev) : (d.raise a c p).gains = d.gains := by simp [Dev.raise]
@[simp] theorem Dev.raise_free (a c : Nat) (p : List Nat) (d : Dev) : (d.raise a c p).free = d.free := by simp [Dev.raise]
@[simp] theorem Dev.raise_blanked (a c : Nat) (p : List Nat) (d : Dev) : (d.raise a c p).blanked = d.blanked := by simp [Dev.raise]
@[simp] theorem Dev.raise_out (a c : Nat) (p : List Nat) (d : Dev) : (d.raise a c p).out = d.out := by simp [Dev.raise]
@[simp] theorem Dev.raise_cop (a c : Nat) (p : List Nat) (d : Dev) : (d.raise a c p).cop = d.cop := by simp [Dev.raise]
@[simp] theorem Dev.raise_tag (a c : Nat) (p : List Nat) (d : Dev) : (d.raise a c p).tag = d.tag := by simp [Dev.raise]
@[simp] theorem Dev.raise_clock (a c : Nat) (p : List Nat) (d : Dev) : (d.raise a c p).clock = d.clock := by simp [Dev.raise]
@[simp] theorem Dev.raise_ledger (a c : Nat) (p : List Nat) (d : Dev) : (d.raise a c p).ledger = d.ledger := by simp [Dev.raise]
@[simp] theorem Dev.raise_keeper (a c : Nat) (p : List Nat) (d : Dev) : (d.raise a c p).keeper = d.keeper := by simp [Dev.raise]
@[simp] theorem Dev.raise_stripes (a c : Nat) (p : List Nat) (d : Dev) : (d.raise a c p).stripes = d.stripes := by simp [Dev.raise]
@[simp] theorem Dev.raise_nextUid (a c : Nat) (p : List Nat) (d : Dev) : (d.raise a c p).nextUid = d.nextUid := by simp [Dev.raise]
@[simp] theorem Dev.raise_nextEntry (a c : Nat) (p : List Nat) (d : Dev) : (d.raise a c p).nextEntry = d.nextEntry := by simp [Dev.raise]
@[simp] theorem Dev.raise_unfold (a c : Nat) (p : List Nat) (d : Dev) : (d.raise a c p).unfold = d.unfold := by simp [Dev.raise]
@[simp] theorem Dev.raise_dram (a c : Nat) (p : List Nat) (d : Dev) : (d.raise a c p).dram = d.dram := by simp [Dev.raise]
@[simp] theorem Dev.raise_conv (a c : Nat) (p : List Nat) (d : Dev) : (d.raise a c p).conv = d.conv := by simp [Dev.raise]
@[simp] theorem Dev.raise_link (a c : Nat) (p : List Nat) (d : Dev) : (d.raise a c p).link = d.link := by simp [Dev.raise]
@[simp] theorem Dev.raise_stage (a c : Nat) (p : List Nat) (d : Dev) : (d.raise a c p).stage = d.stage := by simp [Dev.raise]
@[simp] theorem Dev.raise_servo (a c : Nat) (p : List Nat) (d : Dev) : (d.raise a c p).servo = d.servo := by simp [Dev.raise]
@[simp] theorem Dev.raise_rescue (a c : Nat) (p : List Nat) (d : Dev) : (d.raise a c p).rescue = d.rescue := by simp [Dev.raise]
@[simp] theorem Dev.raise_service (a c : Nat) (p : List Nat) (d : Dev) : (d.raise a c p).service = d.service := by simp [Dev.raise]
@[simp] theorem Dev.raise_axes (a c : Nat) (p : List Nat) (d : Dev) : (d.raise a c p).axes = d.axes := by simp [Dev.raise]
@[simp] theorem Dev.raise_feed (a c : Nat) (p : List Nat) (d : Dev) : (d.raise a c p).feed = d.feed := by simp [Dev.raise]
@[simp] theorem Dev.raise_rinse (a c : Nat) (p : List Nat) (d : Dev) : (d.raise a c p).rinse = d.rinse := by simp [Dev.raise]
@[simp] theorem Dev.raise_soaking (a c : Nat) (p : List Nat) (d : Dev) : (d.raise a c p).soaking = d.soaking := by simp [Dev.raise]
@[simp] theorem Dev.raise_march (a c : Nat) (p : List Nat) (d : Dev) : (d.raise a c p).march = d.march := by simp [Dev.raise]
@[simp] theorem Dev.raise_sequence (a c : Nat) (p : List Nat) (d : Dev) : (d.raise a c p).sequence = d.sequence := by simp [Dev.raise]
@[simp] theorem Dev.raise_measuring (a c : Nat) (p : List Nat) (d : Dev) : (d.raise a c p).measuring = d.measuring := by simp [Dev.raise]
@[simp] theorem Dev.raise_tap (a c : Nat) (p : List Nat) (d : Dev) : (d.raise a c p).tap = d.tap := by simp [Dev.raise]
@[simp] theorem Dev.raise_boundary (a c : Nat) (p : List Nat) (d : Dev) : (d.raise a c p).boundary = d.boundary := by simp [Dev.raise]

@[simp] theorem Dev.append_mode (c n : Nat) (b : JournalBody) (d : Dev) : (d.append c n b).mode = d.mode := by unfold Dev.append; split <;> rfl
@[simp] theorem Dev.append_highRate (c n : Nat) (b : JournalBody) (d : Dev) : (d.append c n b).highRate = d.highRate := by unfold Dev.append; split <;> rfl
@[simp] theorem Dev.append_objs (c n : Nat) (b : JournalBody) (d : Dev) : (d.append c n b).objs = d.objs := by unfold Dev.append; split <;> rfl
@[simp] theorem Dev.append_blobs (c n : Nat) (b : JournalBody) (d : Dev) : (d.append c n b).blobs = d.blobs := by unfold Dev.append; split <;> rfl
@[simp] theorem Dev.append_effGains (c n : Nat) (b : JournalBody) (d : Dev) : (d.append c n b).effGains = d.effGains := by unfold Dev.append; split <;> rfl
@[simp] theorem Dev.append_eff (c n : Nat) (b : JournalBody) (d : Dev) : (d.append c n b).eff = d.eff := by unfold Dev.append; split <;> rfl
@[simp] theorem Dev.append_effBlobs (c n : Nat) (b : JournalBody) (d : Dev) : (d.append c n b).effBlobs = d.effBlobs := by unfold Dev.append; split <;> rfl
@[simp] theorem Dev.append_gains (c n : Nat) (b : JournalBody) (d : Dev) : (d.append c n b).gains = d.gains := by unfold Dev.append; split <;> rfl
@[simp] theorem Dev.append_free (c n : Nat) (b : JournalBody) (d : Dev) : (d.append c n b).free = d.free := by unfold Dev.append; split <;> rfl
@[simp] theorem Dev.append_blanked (c n : Nat) (b : JournalBody) (d : Dev) : (d.append c n b).blanked = d.blanked := by unfold Dev.append; split <;> rfl
@[simp] theorem Dev.append_out (c n : Nat) (b : JournalBody) (d : Dev) : (d.append c n b).out = d.out := by unfold Dev.append; split <;> rfl
@[simp] theorem Dev.append_cop (c n : Nat) (b : JournalBody) (d : Dev) : (d.append c n b).cop = d.cop := by unfold Dev.append; split <;> rfl
@[simp] theorem Dev.append_recorder (c n : Nat) (b : JournalBody) (d : Dev) : (d.append c n b).recorder = d.recorder := by unfold Dev.append; split <;> rfl
@[simp] theorem Dev.append_counters (c n : Nat) (b : JournalBody) (d : Dev) : (d.append c n b).counters = d.counters := by unfold Dev.append; split <;> rfl
@[simp] theorem Dev.append_tag (c n : Nat) (b : JournalBody) (d : Dev) : (d.append c n b).tag = d.tag := by unfold Dev.append; split <;> rfl
@[simp] theorem Dev.append_clock (c n : Nat) (b : JournalBody) (d : Dev) : (d.append c n b).clock = d.clock := by unfold Dev.append; split <;> rfl
@[simp] theorem Dev.append_keeper (c n : Nat) (b : JournalBody) (d : Dev) : (d.append c n b).keeper = d.keeper := by unfold Dev.append; split <;> rfl
@[simp] theorem Dev.append_stripes (c n : Nat) (b : JournalBody) (d : Dev) : (d.append c n b).stripes = d.stripes := by unfold Dev.append; split <;> rfl
@[simp] theorem Dev.append_nextUid (c n : Nat) (b : JournalBody) (d : Dev) : (d.append c n b).nextUid = d.nextUid := by unfold Dev.append; split <;> rfl
@[simp] theorem Dev.append_nextEntry (c n : Nat) (b : JournalBody) (d : Dev) : (d.append c n b).nextEntry = d.nextEntry := by unfold Dev.append; split <;> rfl
@[simp] theorem Dev.append_unfold (c n : Nat) (b : JournalBody) (d : Dev) : (d.append c n b).unfold = d.unfold := by unfold Dev.append; split <;> rfl
@[simp] theorem Dev.append_dram (c n : Nat) (b : JournalBody) (d : Dev) : (d.append c n b).dram = d.dram := by unfold Dev.append; split <;> rfl
@[simp] theorem Dev.append_conv (c n : Nat) (b : JournalBody) (d : Dev) : (d.append c n b).conv = d.conv := by unfold Dev.append; split <;> rfl
@[simp] theorem Dev.append_link (c n : Nat) (b : JournalBody) (d : Dev) : (d.append c n b).link = d.link := by unfold Dev.append; split <;> rfl
@[simp] theorem Dev.append_stage (c n : Nat) (b : JournalBody) (d : Dev) : (d.append c n b).stage = d.stage := by unfold Dev.append; split <;> rfl
@[simp] theorem Dev.append_servo (c n : Nat) (b : JournalBody) (d : Dev) : (d.append c n b).servo = d.servo := by unfold Dev.append; split <;> rfl
@[simp] theorem Dev.append_rescue (c n : Nat) (b : JournalBody) (d : Dev) : (d.append c n b).rescue = d.rescue := by unfold Dev.append; split <;> rfl
@[simp] theorem Dev.append_service (c n : Nat) (b : JournalBody) (d : Dev) : (d.append c n b).service = d.service := by unfold Dev.append; split <;> rfl
@[simp] theorem Dev.append_axes (c n : Nat) (b : JournalBody) (d : Dev) : (d.append c n b).axes = d.axes := by unfold Dev.append; split <;> rfl
@[simp] theorem Dev.append_feed (c n : Nat) (b : JournalBody) (d : Dev) : (d.append c n b).feed = d.feed := by unfold Dev.append; split <;> rfl
@[simp] theorem Dev.append_rinse (c n : Nat) (b : JournalBody) (d : Dev) : (d.append c n b).rinse = d.rinse := by unfold Dev.append; split <;> rfl
@[simp] theorem Dev.append_soaking (c n : Nat) (b : JournalBody) (d : Dev) : (d.append c n b).soaking = d.soaking := by unfold Dev.append; split <;> rfl
@[simp] theorem Dev.append_march (c n : Nat) (b : JournalBody) (d : Dev) : (d.append c n b).march = d.march := by unfold Dev.append; split <;> rfl
@[simp] theorem Dev.append_sequence (c n : Nat) (b : JournalBody) (d : Dev) : (d.append c n b).sequence = d.sequence := by unfold Dev.append; split <;> rfl
@[simp] theorem Dev.append_measuring (c n : Nat) (b : JournalBody) (d : Dev) : (d.append c n b).measuring = d.measuring := by unfold Dev.append; split <;> rfl
@[simp] theorem Dev.append_tap (c n : Nat) (b : JournalBody) (d : Dev) : (d.append c n b).tap = d.tap := by unfold Dev.append; split <;> rfl
@[simp] theorem Dev.append_boundary (c n : Nat) (b : JournalBody) (d : Dev) : (d.append c n b).boundary = d.boundary := by unfold Dev.append; split <;> rfl

@[simp] theorem Dev.noteCommand_mode (q : Query) (n w : Nat) (d : Dev) : (d.noteCommand q n w).mode = d.mode := by simp [Dev.noteCommand]
@[simp] theorem Dev.noteCommand_highRate (q : Query) (n w : Nat) (d : Dev) : (d.noteCommand q n w).highRate = d.highRate := by simp [Dev.noteCommand]
@[simp] theorem Dev.noteCommand_blobs (q : Query) (n w : Nat) (d : Dev) : (d.noteCommand q n w).blobs = d.blobs := by simp [Dev.noteCommand]
@[simp] theorem Dev.noteCommand_effGains (q : Query) (n w : Nat) (d : Dev) : (d.noteCommand q n w).effGains = d.effGains := by simp [Dev.noteCommand]
@[simp] theorem Dev.noteCommand_eff (q : Query) (n w : Nat) (d : Dev) : (d.noteCommand q n w).eff = d.eff := by simp [Dev.noteCommand]
@[simp] theorem Dev.noteCommand_effBlobs (q : Query) (n w : Nat) (d : Dev) : (d.noteCommand q n w).effBlobs = d.effBlobs := by simp [Dev.noteCommand]
@[simp] theorem Dev.noteCommand_gains (q : Query) (n w : Nat) (d : Dev) : (d.noteCommand q n w).gains = d.gains := by simp [Dev.noteCommand]
@[simp] theorem Dev.noteCommand_free (q : Query) (n w : Nat) (d : Dev) : (d.noteCommand q n w).free = d.free := by simp [Dev.noteCommand]
@[simp] theorem Dev.noteCommand_blanked (q : Query) (n w : Nat) (d : Dev) : (d.noteCommand q n w).blanked = d.blanked := by simp [Dev.noteCommand]
@[simp] theorem Dev.noteCommand_out (q : Query) (n w : Nat) (d : Dev) : (d.noteCommand q n w).out = d.out := by simp [Dev.noteCommand]
@[simp] theorem Dev.noteCommand_cop (q : Query) (n w : Nat) (d : Dev) : (d.noteCommand q n w).cop = d.cop := by simp [Dev.noteCommand]
@[simp] theorem Dev.noteCommand_tag (q : Query) (n w : Nat) (d : Dev) : (d.noteCommand q n w).tag = d.tag := by simp [Dev.noteCommand]
@[simp] theorem Dev.noteCommand_clock (q : Query) (n w : Nat) (d : Dev) : (d.noteCommand q n w).clock = d.clock := by simp [Dev.noteCommand]
@[simp] theorem Dev.noteCommand_ledger (q : Query) (n w : Nat) (d : Dev) : (d.noteCommand q n w).ledger = d.ledger := by simp [Dev.noteCommand]
@[simp] theorem Dev.noteCommand_keeper (q : Query) (n w : Nat) (d : Dev) : (d.noteCommand q n w).keeper = d.keeper := by simp [Dev.noteCommand]
@[simp] theorem Dev.noteCommand_stripes (q : Query) (n w : Nat) (d : Dev) : (d.noteCommand q n w).stripes = d.stripes := by simp [Dev.noteCommand]
@[simp] theorem Dev.noteCommand_nextUid (q : Query) (n w : Nat) (d : Dev) : (d.noteCommand q n w).nextUid = d.nextUid := by simp [Dev.noteCommand]
@[simp] theorem Dev.noteCommand_nextEntry (q : Query) (n w : Nat) (d : Dev) : (d.noteCommand q n w).nextEntry = d.nextEntry := by simp [Dev.noteCommand]
@[simp] theorem Dev.noteCommand_unfold (q : Query) (n w : Nat) (d : Dev) : (d.noteCommand q n w).unfold = d.unfold := by simp [Dev.noteCommand]
@[simp] theorem Dev.noteCommand_dram (q : Query) (n w : Nat) (d : Dev) : (d.noteCommand q n w).dram = d.dram := by simp [Dev.noteCommand]
@[simp] theorem Dev.noteCommand_conv (q : Query) (n w : Nat) (d : Dev) : (d.noteCommand q n w).conv = d.conv := by simp [Dev.noteCommand]
@[simp] theorem Dev.noteCommand_link (q : Query) (n w : Nat) (d : Dev) : (d.noteCommand q n w).link = d.link := by simp [Dev.noteCommand]
@[simp] theorem Dev.noteCommand_stage (q : Query) (n w : Nat) (d : Dev) : (d.noteCommand q n w).stage = d.stage := by simp [Dev.noteCommand]
@[simp] theorem Dev.noteCommand_servo (q : Query) (n w : Nat) (d : Dev) : (d.noteCommand q n w).servo = d.servo := by simp [Dev.noteCommand]
@[simp] theorem Dev.noteCommand_rescue (q : Query) (n w : Nat) (d : Dev) : (d.noteCommand q n w).rescue = d.rescue := by simp [Dev.noteCommand]
@[simp] theorem Dev.noteCommand_service (q : Query) (n w : Nat) (d : Dev) : (d.noteCommand q n w).service = d.service := by simp [Dev.noteCommand]
@[simp] theorem Dev.noteCommand_axes (q : Query) (n w : Nat) (d : Dev) : (d.noteCommand q n w).axes = d.axes := by simp [Dev.noteCommand]
@[simp] theorem Dev.noteCommand_feed (q : Query) (n w : Nat) (d : Dev) : (d.noteCommand q n w).feed = d.feed := by simp [Dev.noteCommand]
@[simp] theorem Dev.noteCommand_rinse (q : Query) (n w : Nat) (d : Dev) : (d.noteCommand q n w).rinse = d.rinse := by simp [Dev.noteCommand]
@[simp] theorem Dev.noteCommand_soaking (q : Query) (n w : Nat) (d : Dev) : (d.noteCommand q n w).soaking = d.soaking := by simp [Dev.noteCommand]
@[simp] theorem Dev.noteCommand_march (q : Query) (n w : Nat) (d : Dev) : (d.noteCommand q n w).march = d.march := by simp [Dev.noteCommand]
@[simp] theorem Dev.noteCommand_sequence (q : Query) (n w : Nat) (d : Dev) : (d.noteCommand q n w).sequence = d.sequence := by simp [Dev.noteCommand]
@[simp] theorem Dev.noteCommand_measuring (q : Query) (n w : Nat) (d : Dev) : (d.noteCommand q n w).measuring = d.measuring := by simp [Dev.noteCommand]
@[simp] theorem Dev.noteCommand_tap (q : Query) (n w : Nat) (d : Dev) : (d.noteCommand q n w).tap = d.tap := by simp [Dev.noteCommand]
@[simp] theorem Dev.noteCommand_boundary (q : Query) (n w : Nat) (d : Dev) : (d.noteCommand q n w).boundary = d.boundary := by simp [Dev.noteCommand]

@[simp] theorem Dev.noteWrite_mode (q : Query) (a b : List Byte) (d : Dev) : (d.noteWrite q a b).mode = d.mode := by unfold Dev.noteWrite; split <;> simp
@[simp] theorem Dev.noteWrite_highRate (q : Query) (a b : List Byte) (d : Dev) : (d.noteWrite q a b).highRate = d.highRate := by unfold Dev.noteWrite; split <;> simp
@[simp] theorem Dev.noteWrite_blobs (q : Query) (a b : List Byte) (d : Dev) : (d.noteWrite q a b).blobs = d.blobs := by unfold Dev.noteWrite; split <;> simp
@[simp] theorem Dev.noteWrite_effGains (q : Query) (a b : List Byte) (d : Dev) : (d.noteWrite q a b).effGains = d.effGains := by unfold Dev.noteWrite; split <;> simp
@[simp] theorem Dev.noteWrite_eff (q : Query) (a b : List Byte) (d : Dev) : (d.noteWrite q a b).eff = d.eff := by unfold Dev.noteWrite; split <;> simp
@[simp] theorem Dev.noteWrite_effBlobs (q : Query) (a b : List Byte) (d : Dev) : (d.noteWrite q a b).effBlobs = d.effBlobs := by unfold Dev.noteWrite; split <;> simp
@[simp] theorem Dev.noteWrite_gains (q : Query) (a b : List Byte) (d : Dev) : (d.noteWrite q a b).gains = d.gains := by unfold Dev.noteWrite; split <;> simp
@[simp] theorem Dev.noteWrite_free (q : Query) (a b : List Byte) (d : Dev) : (d.noteWrite q a b).free = d.free := by unfold Dev.noteWrite; split <;> simp
@[simp] theorem Dev.noteWrite_blanked (q : Query) (a b : List Byte) (d : Dev) : (d.noteWrite q a b).blanked = d.blanked := by unfold Dev.noteWrite; split <;> simp
@[simp] theorem Dev.noteWrite_out (q : Query) (a b : List Byte) (d : Dev) : (d.noteWrite q a b).out = d.out := by unfold Dev.noteWrite; split <;> simp
@[simp] theorem Dev.noteWrite_cop (q : Query) (a b : List Byte) (d : Dev) : (d.noteWrite q a b).cop = d.cop := by unfold Dev.noteWrite; split <;> simp
@[simp] theorem Dev.noteWrite_tag (q : Query) (a b : List Byte) (d : Dev) : (d.noteWrite q a b).tag = d.tag := by unfold Dev.noteWrite; split <;> simp
@[simp] theorem Dev.noteWrite_clock (q : Query) (a b : List Byte) (d : Dev) : (d.noteWrite q a b).clock = d.clock := by unfold Dev.noteWrite; split <;> simp
@[simp] theorem Dev.noteWrite_ledger (q : Query) (a b : List Byte) (d : Dev) : (d.noteWrite q a b).ledger = d.ledger := by unfold Dev.noteWrite; split <;> simp
@[simp] theorem Dev.noteWrite_keeper (q : Query) (a b : List Byte) (d : Dev) : (d.noteWrite q a b).keeper = d.keeper := by unfold Dev.noteWrite; split <;> simp
@[simp] theorem Dev.noteWrite_stripes (q : Query) (a b : List Byte) (d : Dev) : (d.noteWrite q a b).stripes = d.stripes := by unfold Dev.noteWrite; split <;> simp
@[simp] theorem Dev.noteWrite_nextUid (q : Query) (a b : List Byte) (d : Dev) : (d.noteWrite q a b).nextUid = d.nextUid := by unfold Dev.noteWrite; split <;> simp
@[simp] theorem Dev.noteWrite_nextEntry (q : Query) (a b : List Byte) (d : Dev) : (d.noteWrite q a b).nextEntry = d.nextEntry := by unfold Dev.noteWrite; split <;> simp
@[simp] theorem Dev.noteWrite_unfold (q : Query) (a b : List Byte) (d : Dev) : (d.noteWrite q a b).unfold = d.unfold := by unfold Dev.noteWrite; split <;> simp
@[simp] theorem Dev.noteWrite_dram (q : Query) (a b : List Byte) (d : Dev) : (d.noteWrite q a b).dram = d.dram := by unfold Dev.noteWrite; split <;> simp
@[simp] theorem Dev.noteWrite_conv (q : Query) (a b : List Byte) (d : Dev) : (d.noteWrite q a b).conv = d.conv := by unfold Dev.noteWrite; split <;> simp
@[simp] theorem Dev.noteWrite_link (q : Query) (a b : List Byte) (d : Dev) : (d.noteWrite q a b).link = d.link := by unfold Dev.noteWrite; split <;> simp
@[simp] theorem Dev.noteWrite_stage (q : Query) (a b : List Byte) (d : Dev) : (d.noteWrite q a b).stage = d.stage := by unfold Dev.noteWrite; split <;> simp
@[simp] theorem Dev.noteWrite_servo (q : Query) (a b : List Byte) (d : Dev) : (d.noteWrite q a b).servo = d.servo := by unfold Dev.noteWrite; split <;> simp
@[simp] theorem Dev.noteWrite_rescue (q : Query) (a b : List Byte) (d : Dev) : (d.noteWrite q a b).rescue = d.rescue := by unfold Dev.noteWrite; split <;> simp
@[simp] theorem Dev.noteWrite_service (q : Query) (a b : List Byte) (d : Dev) : (d.noteWrite q a b).service = d.service := by unfold Dev.noteWrite; split <;> simp
@[simp] theorem Dev.noteWrite_axes (q : Query) (a b : List Byte) (d : Dev) : (d.noteWrite q a b).axes = d.axes := by unfold Dev.noteWrite; split <;> simp
@[simp] theorem Dev.noteWrite_feed (q : Query) (a b : List Byte) (d : Dev) : (d.noteWrite q a b).feed = d.feed := by unfold Dev.noteWrite; split <;> simp
@[simp] theorem Dev.noteWrite_rinse (q : Query) (a b : List Byte) (d : Dev) : (d.noteWrite q a b).rinse = d.rinse := by unfold Dev.noteWrite; split <;> simp
@[simp] theorem Dev.noteWrite_soaking (q : Query) (a b : List Byte) (d : Dev) : (d.noteWrite q a b).soaking = d.soaking := by unfold Dev.noteWrite; split <;> simp
@[simp] theorem Dev.noteWrite_march (q : Query) (a b : List Byte) (d : Dev) : (d.noteWrite q a b).march = d.march := by unfold Dev.noteWrite; split <;> simp
@[simp] theorem Dev.noteWrite_sequence (q : Query) (a b : List Byte) (d : Dev) : (d.noteWrite q a b).sequence = d.sequence := by unfold Dev.noteWrite; split <;> simp
@[simp] theorem Dev.noteWrite_measuring (q : Query) (a b : List Byte) (d : Dev) : (d.noteWrite q a b).measuring = d.measuring := by unfold Dev.noteWrite; split <;> simp
@[simp] theorem Dev.noteWrite_tap (q : Query) (a b : List Byte) (d : Dev) : (d.noteWrite q a b).tap = d.tap := by unfold Dev.noteWrite; split <;> simp
@[simp] theorem Dev.noteWrite_boundary (q : Query) (a b : List Byte) (d : Dev) : (d.noteWrite q a b).boundary = d.boundary := by unfold Dev.noteWrite; split <;> simp

@[simp] theorem Dev.onSession_mode (n : Nat) (f : Session → Session) (d : Dev) : (d.onSession n f).mode = d.mode := by unfold Dev.onSession; split <;> rfl
@[simp] theorem Dev.onSession_highRate (n : Nat) (f : Session → Session) (d : Dev) : (d.onSession n f).highRate = d.highRate := by unfold Dev.onSession; split <;> rfl
@[simp] theorem Dev.onSession_objs (n : Nat) (f : Session → Session) (d : Dev) : (d.onSession n f).objs = d.objs := by unfold Dev.onSession; split <;> rfl
@[simp] theorem Dev.onSession_blobs (n : Nat) (f : Session → Session) (d : Dev) : (d.onSession n f).blobs = d.blobs := by unfold Dev.onSession; split <;> rfl
@[simp] theorem Dev.onSession_effGains (n : Nat) (f : Session → Session) (d : Dev) : (d.onSession n f).effGains = d.effGains := by unfold Dev.onSession; split <;> rfl
@[simp] theorem Dev.onSession_eff (n : Nat) (f : Session → Session) (d : Dev) : (d.onSession n f).eff = d.eff := by unfold Dev.onSession; split <;> rfl
@[simp] theorem Dev.onSession_effBlobs (n : Nat) (f : Session → Session) (d : Dev) : (d.onSession n f).effBlobs = d.effBlobs := by unfold Dev.onSession; split <;> rfl
@[simp] theorem Dev.onSession_gains (n : Nat) (f : Session → Session) (d : Dev) : (d.onSession n f).gains = d.gains := by unfold Dev.onSession; split <;> rfl
@[simp] theorem Dev.onSession_free (n : Nat) (f : Session → Session) (d : Dev) : (d.onSession n f).free = d.free := by unfold Dev.onSession; split <;> rfl
@[simp] theorem Dev.onSession_blanked (n : Nat) (f : Session → Session) (d : Dev) : (d.onSession n f).blanked = d.blanked := by unfold Dev.onSession; split <;> rfl
@[simp] theorem Dev.onSession_out (n : Nat) (f : Session → Session) (d : Dev) : (d.onSession n f).out = d.out := by unfold Dev.onSession; split <;> rfl
@[simp] theorem Dev.onSession_recorder (n : Nat) (f : Session → Session) (d : Dev) : (d.onSession n f).recorder = d.recorder := by unfold Dev.onSession; split <;> rfl
@[simp] theorem Dev.onSession_counters (n : Nat) (f : Session → Session) (d : Dev) : (d.onSession n f).counters = d.counters := by unfold Dev.onSession; split <;> rfl
@[simp] theorem Dev.onSession_tag (n : Nat) (f : Session → Session) (d : Dev) : (d.onSession n f).tag = d.tag := by unfold Dev.onSession; split <;> rfl
@[simp] theorem Dev.onSession_clock (n : Nat) (f : Session → Session) (d : Dev) : (d.onSession n f).clock = d.clock := by unfold Dev.onSession; split <;> rfl
@[simp] theorem Dev.onSession_ledger (n : Nat) (f : Session → Session) (d : Dev) : (d.onSession n f).ledger = d.ledger := by unfold Dev.onSession; split <;> rfl
@[simp] theorem Dev.onSession_keeper (n : Nat) (f : Session → Session) (d : Dev) : (d.onSession n f).keeper = d.keeper := by unfold Dev.onSession; split <;> rfl
@[simp] theorem Dev.onSession_stripes (n : Nat) (f : Session → Session) (d : Dev) : (d.onSession n f).stripes = d.stripes := by unfold Dev.onSession; split <;> rfl
@[simp] theorem Dev.onSession_nextUid (n : Nat) (f : Session → Session) (d : Dev) : (d.onSession n f).nextUid = d.nextUid := by unfold Dev.onSession; split <;> rfl
@[simp] theorem Dev.onSession_nextEntry (n : Nat) (f : Session → Session) (d : Dev) : (d.onSession n f).nextEntry = d.nextEntry := by unfold Dev.onSession; split <;> rfl
@[simp] theorem Dev.onSession_unfold (n : Nat) (f : Session → Session) (d : Dev) : (d.onSession n f).unfold = d.unfold := by unfold Dev.onSession; split <;> rfl
@[simp] theorem Dev.onSession_dram (n : Nat) (f : Session → Session) (d : Dev) : (d.onSession n f).dram = d.dram := by unfold Dev.onSession; split <;> rfl
@[simp] theorem Dev.onSession_conv (n : Nat) (f : Session → Session) (d : Dev) : (d.onSession n f).conv = d.conv := by unfold Dev.onSession; split <;> rfl
@[simp] theorem Dev.onSession_link (n : Nat) (f : Session → Session) (d : Dev) : (d.onSession n f).link = d.link := by unfold Dev.onSession; split <;> rfl
@[simp] theorem Dev.onSession_stage (n : Nat) (f : Session → Session) (d : Dev) : (d.onSession n f).stage = d.stage := by unfold Dev.onSession; split <;> rfl
@[simp] theorem Dev.onSession_servo (n : Nat) (f : Session → Session) (d : Dev) : (d.onSession n f).servo = d.servo := by unfold Dev.onSession; split <;> rfl
@[simp] theorem Dev.onSession_rescue (n : Nat) (f : Session → Session) (d : Dev) : (d.onSession n f).rescue = d.rescue := by unfold Dev.onSession; split <;> rfl
@[simp] theorem Dev.onSession_service (n : Nat) (f : Session → Session) (d : Dev) : (d.onSession n f).service = d.service := by unfold Dev.onSession; split <;> rfl
@[simp] theorem Dev.onSession_axes (n : Nat) (f : Session → Session) (d : Dev) : (d.onSession n f).axes = d.axes := by unfold Dev.onSession; split <;> rfl
@[simp] theorem Dev.onSession_feed (n : Nat) (f : Session → Session) (d : Dev) : (d.onSession n f).feed = d.feed := by unfold Dev.onSession; split <;> rfl
@[simp] theorem Dev.onSession_rinse (n : Nat) (f : Session → Session) (d : Dev) : (d.onSession n f).rinse = d.rinse := by unfold Dev.onSession; split <;> rfl
@[simp] theorem Dev.onSession_soaking (n : Nat) (f : Session → Session) (d : Dev) : (d.onSession n f).soaking = d.soaking := by unfold Dev.onSession; split <;> rfl
@[simp] theorem Dev.onSession_march (n : Nat) (f : Session → Session) (d : Dev) : (d.onSession n f).march = d.march := by unfold Dev.onSession; split <;> rfl
@[simp] theorem Dev.onSession_sequence (n : Nat) (f : Session → Session) (d : Dev) : (d.onSession n f).sequence = d.sequence := by unfold Dev.onSession; split <;> rfl
@[simp] theorem Dev.onSession_measuring (n : Nat) (f : Session → Session) (d : Dev) : (d.onSession n f).measuring = d.measuring := by unfold Dev.onSession; split <;> rfl
@[simp] theorem Dev.onSession_tap (n : Nat) (f : Session → Session) (d : Dev) : (d.onSession n f).tap = d.tap := by unfold Dev.onSession; split <;> rfl
@[simp] theorem Dev.onSession_boundary (n : Nat) (f : Session → Session) (d : Dev) : (d.onSession n f).boundary = d.boundary := by unfold Dev.onSession; split <;> rfl

@[simp] theorem Dev.onOwn_mode (q : Query) (f : Session → Session) (d : Dev) : (d.onOwn q f).mode = d.mode := by unfold Dev.onOwn; split <;> simp
@[simp] theorem Dev.onOwn_highRate (q : Query) (f : Session → Session) (d : Dev) : (d.onOwn q f).highRate = d.highRate := by unfold Dev.onOwn; split <;> simp
@[simp] theorem Dev.onOwn_objs (q : Query) (f : Session → Session) (d : Dev) : (d.onOwn q f).objs = d.objs := by unfold Dev.onOwn; split <;> simp
@[simp] theorem Dev.onOwn_blobs (q : Query) (f : Session → Session) (d : Dev) : (d.onOwn q f).blobs = d.blobs := by unfold Dev.onOwn; split <;> simp
@[simp] theorem Dev.onOwn_effGains (q : Query) (f : Session → Session) (d : Dev) : (d.onOwn q f).effGains = d.effGains := by unfold Dev.onOwn; split <;> simp
@[simp] theorem Dev.onOwn_eff (q : Query) (f : Session → Session) (d : Dev) : (d.onOwn q f).eff = d.eff := by unfold Dev.onOwn; split <;> simp
@[simp] theorem Dev.onOwn_effBlobs (q : Query) (f : Session → Session) (d : Dev) : (d.onOwn q f).effBlobs = d.effBlobs := by unfold Dev.onOwn; split <;> simp
@[simp] theorem Dev.onOwn_gains (q : Query) (f : Session → Session) (d : Dev) : (d.onOwn q f).gains = d.gains := by unfold Dev.onOwn; split <;> simp
@[simp] theorem Dev.onOwn_free (q : Query) (f : Session → Session) (d : Dev) : (d.onOwn q f).free = d.free := by unfold Dev.onOwn; split <;> simp
@[simp] theorem Dev.onOwn_blanked (q : Query) (f : Session → Session) (d : Dev) : (d.onOwn q f).blanked = d.blanked := by unfold Dev.onOwn; split <;> simp
@[simp] theorem Dev.onOwn_out (q : Query) (f : Session → Session) (d : Dev) : (d.onOwn q f).out = d.out := by unfold Dev.onOwn; split <;> simp
@[simp] theorem Dev.onOwn_recorder (q : Query) (f : Session → Session) (d : Dev) : (d.onOwn q f).recorder = d.recorder := by unfold Dev.onOwn; split <;> simp
@[simp] theorem Dev.onOwn_counters (q : Query) (f : Session → Session) (d : Dev) : (d.onOwn q f).counters = d.counters := by unfold Dev.onOwn; split <;> simp
@[simp] theorem Dev.onOwn_tag (q : Query) (f : Session → Session) (d : Dev) : (d.onOwn q f).tag = d.tag := by unfold Dev.onOwn; split <;> simp
@[simp] theorem Dev.onOwn_clock (q : Query) (f : Session → Session) (d : Dev) : (d.onOwn q f).clock = d.clock := by unfold Dev.onOwn; split <;> simp
@[simp] theorem Dev.onOwn_ledger (q : Query) (f : Session → Session) (d : Dev) : (d.onOwn q f).ledger = d.ledger := by unfold Dev.onOwn; split <;> simp
@[simp] theorem Dev.onOwn_keeper (q : Query) (f : Session → Session) (d : Dev) : (d.onOwn q f).keeper = d.keeper := by unfold Dev.onOwn; split <;> simp
@[simp] theorem Dev.onOwn_stripes (q : Query) (f : Session → Session) (d : Dev) : (d.onOwn q f).stripes = d.stripes := by unfold Dev.onOwn; split <;> simp
@[simp] theorem Dev.onOwn_nextUid (q : Query) (f : Session → Session) (d : Dev) : (d.onOwn q f).nextUid = d.nextUid := by unfold Dev.onOwn; split <;> simp
@[simp] theorem Dev.onOwn_nextEntry (q : Query) (f : Session → Session) (d : Dev) : (d.onOwn q f).nextEntry = d.nextEntry := by unfold Dev.onOwn; split <;> simp
@[simp] theorem Dev.onOwn_unfold (q : Query) (f : Session → Session) (d : Dev) : (d.onOwn q f).unfold = d.unfold := by unfold Dev.onOwn; split <;> simp
@[simp] theorem Dev.onOwn_dram (q : Query) (f : Session → Session) (d : Dev) : (d.onOwn q f).dram = d.dram := by unfold Dev.onOwn; split <;> simp
@[simp] theorem Dev.onOwn_conv (q : Query) (f : Session → Session) (d : Dev) : (d.onOwn q f).conv = d.conv := by unfold Dev.onOwn; split <;> simp
@[simp] theorem Dev.onOwn_link (q : Query) (f : Session → Session) (d : Dev) : (d.onOwn q f).link = d.link := by unfold Dev.onOwn; split <;> simp
@[simp] theorem Dev.onOwn_stage (q : Query) (f : Session → Session) (d : Dev) : (d.onOwn q f).stage = d.stage := by unfold Dev.onOwn; split <;> simp
@[simp] theorem Dev.onOwn_servo (q : Query) (f : Session → Session) (d : Dev) : (d.onOwn q f).servo = d.servo := by unfold Dev.onOwn; split <;> simp
@[simp] theorem Dev.onOwn_rescue (q : Query) (f : Session → Session) (d : Dev) : (d.onOwn q f).rescue = d.rescue := by unfold Dev.onOwn; split <;> simp
@[simp] theorem Dev.onOwn_service (q : Query) (f : Session → Session) (d : Dev) : (d.onOwn q f).service = d.service := by unfold Dev.onOwn; split <;> simp
@[simp] theorem Dev.onOwn_axes (q : Query) (f : Session → Session) (d : Dev) : (d.onOwn q f).axes = d.axes := by unfold Dev.onOwn; split <;> simp
@[simp] theorem Dev.onOwn_feed (q : Query) (f : Session → Session) (d : Dev) : (d.onOwn q f).feed = d.feed := by unfold Dev.onOwn; split <;> simp
@[simp] theorem Dev.onOwn_rinse (q : Query) (f : Session → Session) (d : Dev) : (d.onOwn q f).rinse = d.rinse := by unfold Dev.onOwn; split <;> simp
@[simp] theorem Dev.onOwn_soaking (q : Query) (f : Session → Session) (d : Dev) : (d.onOwn q f).soaking = d.soaking := by unfold Dev.onOwn; split <;> simp
@[simp] theorem Dev.onOwn_march (q : Query) (f : Session → Session) (d : Dev) : (d.onOwn q f).march = d.march := by unfold Dev.onOwn; split <;> simp
@[simp] theorem Dev.onOwn_sequence (q : Query) (f : Session → Session) (d : Dev) : (d.onOwn q f).sequence = d.sequence := by unfold Dev.onOwn; split <;> simp
@[simp] theorem Dev.onOwn_measuring (q : Query) (f : Session → Session) (d : Dev) : (d.onOwn q f).measuring = d.measuring := by unfold Dev.onOwn; split <;> simp
@[simp] theorem Dev.onOwn_tap (q : Query) (f : Session → Session) (d : Dev) : (d.onOwn q f).tap = d.tap := by unfold Dev.onOwn; split <;> simp
@[simp] theorem Dev.onOwn_boundary (q : Query) (f : Session → Session) (d : Dev) : (d.onOwn q f).boundary = d.boundary := by unfold Dev.onOwn; split <;> simp

@[simp] theorem Dev.heard_mode (q : Query) (d : Dev) : (d.heard q).mode = d.mode := by simp [Dev.heard]
@[simp] theorem Dev.heard_highRate (q : Query) (d : Dev) : (d.heard q).highRate = d.highRate := by simp [Dev.heard]
@[simp] theorem Dev.heard_objs (q : Query) (d : Dev) : (d.heard q).objs = d.objs := by simp [Dev.heard]
@[simp] theorem Dev.heard_blobs (q : Query) (d : Dev) : (d.heard q).blobs = d.blobs := by simp [Dev.heard]
@[simp] theorem Dev.heard_effGains (q : Query) (d : Dev) : (d.heard q).effGains = d.effGains := by simp [Dev.heard]
@[simp] theorem Dev.heard_eff (q : Query) (d : Dev) : (d.heard q).eff = d.eff := by simp [Dev.heard]
@[simp] theorem Dev.heard_effBlobs (q : Query) (d : Dev) : (d.heard q).effBlobs = d.effBlobs := by simp [Dev.heard]
@[simp] theorem Dev.heard_gains (q : Query) (d : Dev) : (d.heard q).gains = d.gains := by simp [Dev.heard]
@[simp] theorem Dev.heard_free (q : Query) (d : Dev) : (d.heard q).free = d.free := by simp [Dev.heard]
@[simp] theorem Dev.heard_blanked (q : Query) (d : Dev) : (d.heard q).blanked = d.blanked := by simp [Dev.heard]
@[simp] theorem Dev.heard_out (q : Query) (d : Dev) : (d.heard q).out = d.out := by simp [Dev.heard]
@[simp] theorem Dev.heard_recorder (q : Query) (d : Dev) : (d.heard q).recorder = d.recorder := by simp [Dev.heard]
@[simp] theorem Dev.heard_counters (q : Query) (d : Dev) : (d.heard q).counters = d.counters := by simp [Dev.heard]
@[simp] theorem Dev.heard_tag (q : Query) (d : Dev) : (d.heard q).tag = d.tag := by simp [Dev.heard]
@[simp] theorem Dev.heard_clock (q : Query) (d : Dev) : (d.heard q).clock = d.clock := by simp [Dev.heard]
@[simp] theorem Dev.heard_ledger (q : Query) (d : Dev) : (d.heard q).ledger = d.ledger := by simp [Dev.heard]
@[simp] theorem Dev.heard_keeper (q : Query) (d : Dev) : (d.heard q).keeper = d.keeper := by simp [Dev.heard]
@[simp] theorem Dev.heard_stripes (q : Query) (d : Dev) : (d.heard q).stripes = d.stripes := by simp [Dev.heard]
@[simp] theorem Dev.heard_nextUid (q : Query) (d : Dev) : (d.heard q).nextUid = d.nextUid := by simp [Dev.heard]
@[simp] theorem Dev.heard_nextEntry (q : Query) (d : Dev) : (d.heard q).nextEntry = d.nextEntry := by simp [Dev.heard]
@[simp] theorem Dev.heard_unfold (q : Query) (d : Dev) : (d.heard q).unfold = d.unfold := by simp [Dev.heard]
@[simp] theorem Dev.heard_dram (q : Query) (d : Dev) : (d.heard q).dram = d.dram := by simp [Dev.heard]
@[simp] theorem Dev.heard_conv (q : Query) (d : Dev) : (d.heard q).conv = d.conv := by simp [Dev.heard]
@[simp] theorem Dev.heard_link (q : Query) (d : Dev) : (d.heard q).link = d.link := by simp [Dev.heard]
@[simp] theorem Dev.heard_stage (q : Query) (d : Dev) : (d.heard q).stage = d.stage := by simp [Dev.heard]
@[simp] theorem Dev.heard_servo (q : Query) (d : Dev) : (d.heard q).servo = d.servo := by simp [Dev.heard]
@[simp] theorem Dev.heard_rescue (q : Query) (d : Dev) : (d.heard q).rescue = d.rescue := by simp [Dev.heard]
@[simp] theorem Dev.heard_service (q : Query) (d : Dev) : (d.heard q).service = d.service := by simp [Dev.heard]
@[simp] theorem Dev.heard_axes (q : Query) (d : Dev) : (d.heard q).axes = d.axes := by simp [Dev.heard]
@[simp] theorem Dev.heard_feed (q : Query) (d : Dev) : (d.heard q).feed = d.feed := by simp [Dev.heard]
@[simp] theorem Dev.heard_rinse (q : Query) (d : Dev) : (d.heard q).rinse = d.rinse := by simp [Dev.heard]
@[simp] theorem Dev.heard_soaking (q : Query) (d : Dev) : (d.heard q).soaking = d.soaking := by simp [Dev.heard]
@[simp] theorem Dev.heard_march (q : Query) (d : Dev) : (d.heard q).march = d.march := by simp [Dev.heard]
@[simp] theorem Dev.heard_sequence (q : Query) (d : Dev) : (d.heard q).sequence = d.sequence := by simp [Dev.heard]
@[simp] theorem Dev.heard_measuring (q : Query) (d : Dev) : (d.heard q).measuring = d.measuring := by simp [Dev.heard]
@[simp] theorem Dev.heard_tap (q : Query) (d : Dev) : (d.heard q).tap = d.tap := by simp [Dev.heard]
@[simp] theorem Dev.heard_boundary (q : Query) (d : Dev) : (d.heard q).boundary = d.boundary := by simp [Dev.heard]

@[simp] theorem Dev.vector_mode (n : Nat) (d : Dev) : (d.vector n).mode = d.mode := by unfold Dev.vector; split <;> (try split) <;> rfl
@[simp] theorem Dev.vector_highRate (n : Nat) (d : Dev) : (d.vector n).highRate = d.highRate := by unfold Dev.vector; split <;> (try split) <;> rfl
@[simp] theorem Dev.vector_objs (n : Nat) (d : Dev) : (d.vector n).objs = d.objs := by unfold Dev.vector; split <;> (try split) <;> rfl
@[simp] theorem Dev.vector_blobs (n : Nat) (d : Dev) : (d.vector n).blobs = d.blobs := by unfold Dev.vector; split <;> (try split) <;> rfl
@[simp] theorem Dev.vector_effGains (n : Nat) (d : Dev) : (d.vector n).effGains = d.effGains := by unfold Dev.vector; split <;> (try split) <;> rfl
@[simp] theorem Dev.vector_eff (n : Nat) (d : Dev) : (d.vector n).eff = d.eff := by unfold Dev.vector; split <;> (try split) <;> rfl
@[simp] theorem Dev.vector_effBlobs (n : Nat) (d : Dev) : (d.vector n).effBlobs = d.effBlobs := by unfold Dev.vector; split <;> (try split) <;> rfl
@[simp] theorem Dev.vector_gains (n : Nat) (d : Dev) : (d.vector n).gains = d.gains := by unfold Dev.vector; split <;> (try split) <;> rfl
@[simp] theorem Dev.vector_free (n : Nat) (d : Dev) : (d.vector n).free = d.free := by unfold Dev.vector; split <;> (try split) <;> rfl
@[simp] theorem Dev.vector_blanked (n : Nat) (d : Dev) : (d.vector n).blanked = d.blanked := by unfold Dev.vector; split <;> (try split) <;> rfl
@[simp] theorem Dev.vector_cop (n : Nat) (d : Dev) : (d.vector n).cop = d.cop := by unfold Dev.vector; split <;> (try split) <;> rfl
@[simp] theorem Dev.vector_recorder (n : Nat) (d : Dev) : (d.vector n).recorder = d.recorder := by unfold Dev.vector; split <;> (try split) <;> rfl
@[simp] theorem Dev.vector_counters (n : Nat) (d : Dev) : (d.vector n).counters = d.counters := by unfold Dev.vector; split <;> (try split) <;> rfl
@[simp] theorem Dev.vector_tag (n : Nat) (d : Dev) : (d.vector n).tag = d.tag := by unfold Dev.vector; split <;> (try split) <;> rfl
@[simp] theorem Dev.vector_clock (n : Nat) (d : Dev) : (d.vector n).clock = d.clock := by unfold Dev.vector; split <;> (try split) <;> rfl
@[simp] theorem Dev.vector_ledger (n : Nat) (d : Dev) : (d.vector n).ledger = d.ledger := by unfold Dev.vector; split <;> (try split) <;> rfl
@[simp] theorem Dev.vector_keeper (n : Nat) (d : Dev) : (d.vector n).keeper = d.keeper := by unfold Dev.vector; split <;> (try split) <;> rfl
@[simp] theorem Dev.vector_stripes (n : Nat) (d : Dev) : (d.vector n).stripes = d.stripes := by unfold Dev.vector; split <;> (try split) <;> rfl
@[simp] theorem Dev.vector_nextUid (n : Nat) (d : Dev) : (d.vector n).nextUid = d.nextUid := by unfold Dev.vector; split <;> (try split) <;> rfl
@[simp] theorem Dev.vector_nextEntry (n : Nat) (d : Dev) : (d.vector n).nextEntry = d.nextEntry := by unfold Dev.vector; split <;> (try split) <;> rfl
@[simp] theorem Dev.vector_unfold (n : Nat) (d : Dev) : (d.vector n).unfold = d.unfold := by unfold Dev.vector; split <;> (try split) <;> rfl
@[simp] theorem Dev.vector_dram (n : Nat) (d : Dev) : (d.vector n).dram = d.dram := by unfold Dev.vector; split <;> (try split) <;> rfl
@[simp] theorem Dev.vector_conv (n : Nat) (d : Dev) : (d.vector n).conv = d.conv := by unfold Dev.vector; split <;> (try split) <;> rfl
@[simp] theorem Dev.vector_link (n : Nat) (d : Dev) : (d.vector n).link = d.link := by unfold Dev.vector; split <;> (try split) <;> rfl
@[simp] theorem Dev.vector_stage (n : Nat) (d : Dev) : (d.vector n).stage = d.stage := by unfold Dev.vector; split <;> (try split) <;> rfl
@[simp] theorem Dev.vector_servo (n : Nat) (d : Dev) : (d.vector n).servo = d.servo := by unfold Dev.vector; split <;> (try split) <;> rfl
@[simp] theorem Dev.vector_rescue (n : Nat) (d : Dev) : (d.vector n).rescue = d.rescue := by unfold Dev.vector; split <;> (try split) <;> rfl
@[simp] theorem Dev.vector_service (n : Nat) (d : Dev) : (d.vector n).service = d.service := by unfold Dev.vector; split <;> (try split) <;> rfl
@[simp] theorem Dev.vector_axes (n : Nat) (d : Dev) : (d.vector n).axes = d.axes := by unfold Dev.vector; split <;> (try split) <;> rfl
@[simp] theorem Dev.vector_rinse (n : Nat) (d : Dev) : (d.vector n).rinse = d.rinse := by unfold Dev.vector; split <;> (try split) <;> rfl
@[simp] theorem Dev.vector_soaking (n : Nat) (d : Dev) : (d.vector n).soaking = d.soaking := by unfold Dev.vector; split <;> (try split) <;> rfl
@[simp] theorem Dev.vector_march (n : Nat) (d : Dev) : (d.vector n).march = d.march := by unfold Dev.vector; split <;> (try split) <;> rfl
@[simp] theorem Dev.vector_sequence (n : Nat) (d : Dev) : (d.vector n).sequence = d.sequence := by unfold Dev.vector; split <;> (try split) <;> rfl
@[simp] theorem Dev.vector_measuring (n : Nat) (d : Dev) : (d.vector n).measuring = d.measuring := by unfold Dev.vector; split <;> (try split) <;> rfl
@[simp] theorem Dev.vector_tap (n : Nat) (d : Dev) : (d.vector n).tap = d.tap := by unfold Dev.vector; split <;> (try split) <;> rfl
@[simp] theorem Dev.vector_boundary (n : Nat) (d : Dev) : (d.vector n).boundary = d.boundary := by unfold Dev.vector; split <;> (try split) <;> rfl

@[simp] theorem Dev.mbSet_mode (n b : Nat) (d : Dev) : (d.mbSet n b).mode = d.mode := by unfold Dev.mbSet; dsimp only; split <;> simp
@[simp] theorem Dev.mbSet_highRate (n b : Nat) (d : Dev) : (d.mbSet n b).highRate = d.highRate := by unfold Dev.mbSet; dsimp only; split <;> simp
@[simp] theorem Dev.mbSet_objs (n b : Nat) (d : Dev) : (d.mbSet n b).objs = d.objs := by unfold Dev.mbSet; dsimp only; split <;> simp
@[simp] theorem Dev.mbSet_blobs (n b : Nat) (d : Dev) : (d.mbSet n b).blobs = d.blobs := by unfold Dev.mbSet; dsimp only; split <;> simp
@[simp] theorem Dev.mbSet_effGains (n b : Nat) (d : Dev) : (d.mbSet n b).effGains = d.effGains := by unfold Dev.mbSet; dsimp only; split <;> simp
@[simp] theorem Dev.mbSet_eff (n b : Nat) (d : Dev) : (d.mbSet n b).eff = d.eff := by unfold Dev.mbSet; dsimp only; split <;> simp
@[simp] theorem Dev.mbSet_effBlobs (n b : Nat) (d : Dev) : (d.mbSet n b).effBlobs = d.effBlobs := by unfold Dev.mbSet; dsimp only; split <;> simp
@[simp] theorem Dev.mbSet_gains (n b : Nat) (d : Dev) : (d.mbSet n b).gains = d.gains := by unfold Dev.mbSet; dsimp only; split <;> simp
@[simp] theorem Dev.mbSet_free (n b : Nat) (d : Dev) : (d.mbSet n b).free = d.free := by unfold Dev.mbSet; dsimp only; split <;> simp
@[simp] theorem Dev.mbSet_blanked (n b : Nat) (d : Dev) : (d.mbSet n b).blanked = d.blanked := by unfold Dev.mbSet; dsimp only; split <;> simp
@[simp] theorem Dev.mbSet_recorder (n b : Nat) (d : Dev) : (d.mbSet n b).recorder = d.recorder := by unfold Dev.mbSet; dsimp only; split <;> simp
@[simp] theorem Dev.mbSet_counters (n b : Nat) (d : Dev) : (d.mbSet n b).counters = d.counters := by unfold Dev.mbSet; dsimp only; split <;> simp
@[simp] theorem Dev.mbSet_tag (n b : Nat) (d : Dev) : (d.mbSet n b).tag = d.tag := by unfold Dev.mbSet; dsimp only; split <;> simp
@[simp] theorem Dev.mbSet_clock (n b : Nat) (d : Dev) : (d.mbSet n b).clock = d.clock := by unfold Dev.mbSet; dsimp only; split <;> simp
@[simp] theorem Dev.mbSet_ledger (n b : Nat) (d : Dev) : (d.mbSet n b).ledger = d.ledger := by unfold Dev.mbSet; dsimp only; split <;> simp
@[simp] theorem Dev.mbSet_keeper (n b : Nat) (d : Dev) : (d.mbSet n b).keeper = d.keeper := by unfold Dev.mbSet; dsimp only; split <;> simp
@[simp] theorem Dev.mbSet_stripes (n b : Nat) (d : Dev) : (d.mbSet n b).stripes = d.stripes := by unfold Dev.mbSet; dsimp only; split <;> simp
@[simp] theorem Dev.mbSet_nextUid (n b : Nat) (d : Dev) : (d.mbSet n b).nextUid = d.nextUid := by unfold Dev.mbSet; dsimp only; split <;> simp
@[simp] theorem Dev.mbSet_nextEntry (n b : Nat) (d : Dev) : (d.mbSet n b).nextEntry = d.nextEntry := by unfold Dev.mbSet; dsimp only; split <;> simp
@[simp] theorem Dev.mbSet_unfold (n b : Nat) (d : Dev) : (d.mbSet n b).unfold = d.unfold := by unfold Dev.mbSet; dsimp only; split <;> simp
@[simp] theorem Dev.mbSet_dram (n b : Nat) (d : Dev) : (d.mbSet n b).dram = d.dram := by unfold Dev.mbSet; dsimp only; split <;> simp
@[simp] theorem Dev.mbSet_conv (n b : Nat) (d : Dev) : (d.mbSet n b).conv = d.conv := by unfold Dev.mbSet; dsimp only; split <;> simp
@[simp] theorem Dev.mbSet_link (n b : Nat) (d : Dev) : (d.mbSet n b).link = d.link := by unfold Dev.mbSet; dsimp only; split <;> simp
@[simp] theorem Dev.mbSet_stage (n b : Nat) (d : Dev) : (d.mbSet n b).stage = d.stage := by unfold Dev.mbSet; dsimp only; split <;> simp
@[simp] theorem Dev.mbSet_servo (n b : Nat) (d : Dev) : (d.mbSet n b).servo = d.servo := by unfold Dev.mbSet; dsimp only; split <;> simp
@[simp] theorem Dev.mbSet_rescue (n b : Nat) (d : Dev) : (d.mbSet n b).rescue = d.rescue := by unfold Dev.mbSet; dsimp only; split <;> simp
@[simp] theorem Dev.mbSet_service (n b : Nat) (d : Dev) : (d.mbSet n b).service = d.service := by unfold Dev.mbSet; dsimp only; split <;> simp
@[simp] theorem Dev.mbSet_axes (n b : Nat) (d : Dev) : (d.mbSet n b).axes = d.axes := by unfold Dev.mbSet; dsimp only; split <;> simp
@[simp] theorem Dev.mbSet_rinse (n b : Nat) (d : Dev) : (d.mbSet n b).rinse = d.rinse := by unfold Dev.mbSet; dsimp only; split <;> simp
@[simp] theorem Dev.mbSet_soaking (n b : Nat) (d : Dev) : (d.mbSet n b).soaking = d.soaking := by unfold Dev.mbSet; dsimp only; split <;> simp
@[simp] theorem Dev.mbSet_march (n b : Nat) (d : Dev) : (d.mbSet n b).march = d.march := by unfold Dev.mbSet; dsimp only; split <;> simp
@[simp] theorem Dev.mbSet_sequence (n b : Nat) (d : Dev) : (d.mbSet n b).sequence = d.sequence := by unfold Dev.mbSet; dsimp only; split <;> simp
@[simp] theorem Dev.mbSet_measuring (n b : Nat) (d : Dev) : (d.mbSet n b).measuring = d.measuring := by unfold Dev.mbSet; dsimp only; split <;> simp
@[simp] theorem Dev.mbSet_tap (n b : Nat) (d : Dev) : (d.mbSet n b).tap = d.tap := by unfold Dev.mbSet; dsimp only; split <;> simp
@[simp] theorem Dev.mbSet_boundary (n b : Nat) (d : Dev) : (d.mbSet n b).boundary = d.boundary := by unfold Dev.mbSet; dsimp only; split <;> simp

@[simp] theorem Dev.mbClearBits_mode (n m : Nat) (d : Dev) : (d.mbClearBits n m).mode = d.mode := rfl
@[simp] theorem Dev.mbClearBits_highRate (n m : Nat) (d : Dev) : (d.mbClearBits n m).highRate = d.highRate := rfl
@[simp] theorem Dev.mbClearBits_objs (n m : Nat) (d : Dev) : (d.mbClearBits n m).objs = d.objs := rfl
@[simp] theorem Dev.mbClearBits_blobs (n m : Nat) (d : Dev) : (d.mbClearBits n m).blobs = d.blobs := rfl
@[simp] theorem Dev.mbClearBits_effGains (n m : Nat) (d : Dev) : (d.mbClearBits n m).effGains = d.effGains := rfl
@[simp] theorem Dev.mbClearBits_eff (n m : Nat) (d : Dev) : (d.mbClearBits n m).eff = d.eff := rfl
@[simp] theorem Dev.mbClearBits_effBlobs (n m : Nat) (d : Dev) : (d.mbClearBits n m).effBlobs = d.effBlobs := rfl
@[simp] theorem Dev.mbClearBits_gains (n m : Nat) (d : Dev) : (d.mbClearBits n m).gains = d.gains := rfl
@[simp] theorem Dev.mbClearBits_free (n m : Nat) (d : Dev) : (d.mbClearBits n m).free = d.free := rfl
@[simp] theorem Dev.mbClearBits_blanked (n m : Nat) (d : Dev) : (d.mbClearBits n m).blanked = d.blanked := rfl
@[simp] theorem Dev.mbClearBits_out (n m : Nat) (d : Dev) : (d.mbClearBits n m).out = d.out := rfl
@[simp] theorem Dev.mbClearBits_recorder (n m : Nat) (d : Dev) : (d.mbClearBits n m).recorder = d.recorder := rfl
@[simp] theorem Dev.mbClearBits_counters (n m : Nat) (d : Dev) : (d.mbClearBits n m).counters = d.counters := rfl
@[simp] theorem Dev.mbClearBits_tag (n m : Nat) (d : Dev) : (d.mbClearBits n m).tag = d.tag := rfl
@[simp] theorem Dev.mbClearBits_clock (n m : Nat) (d : Dev) : (d.mbClearBits n m).clock = d.clock := rfl
@[simp] theorem Dev.mbClearBits_ledger (n m : Nat) (d : Dev) : (d.mbClearBits n m).ledger = d.ledger := rfl
@[simp] theorem Dev.mbClearBits_keeper (n m : Nat) (d : Dev) : (d.mbClearBits n m).keeper = d.keeper := rfl
@[simp] theorem Dev.mbClearBits_stripes (n m : Nat) (d : Dev) : (d.mbClearBits n m).stripes = d.stripes := rfl
@[simp] theorem Dev.mbClearBits_nextUid (n m : Nat) (d : Dev) : (d.mbClearBits n m).nextUid = d.nextUid := rfl
@[simp] theorem Dev.mbClearBits_nextEntry (n m : Nat) (d : Dev) : (d.mbClearBits n m).nextEntry = d.nextEntry := rfl
@[simp] theorem Dev.mbClearBits_unfold (n m : Nat) (d : Dev) : (d.mbClearBits n m).unfold = d.unfold := rfl
@[simp] theorem Dev.mbClearBits_dram (n m : Nat) (d : Dev) : (d.mbClearBits n m).dram = d.dram := rfl
@[simp] theorem Dev.mbClearBits_conv (n m : Nat) (d : Dev) : (d.mbClearBits n m).conv = d.conv := rfl
@[simp] theorem Dev.mbClearBits_link (n m : Nat) (d : Dev) : (d.mbClearBits n m).link = d.link := rfl
@[simp] theorem Dev.mbClearBits_stage (n m : Nat) (d : Dev) : (d.mbClearBits n m).stage = d.stage := rfl
@[simp] theorem Dev.mbClearBits_servo (n m : Nat) (d : Dev) : (d.mbClearBits n m).servo = d.servo := rfl
@[simp] theorem Dev.mbClearBits_rescue (n m : Nat) (d : Dev) : (d.mbClearBits n m).rescue = d.rescue := rfl
@[simp] theorem Dev.mbClearBits_service (n m : Nat) (d : Dev) : (d.mbClearBits n m).service = d.service := rfl
@[simp] theorem Dev.mbClearBits_axes (n m : Nat) (d : Dev) : (d.mbClearBits n m).axes = d.axes := rfl
@[simp] theorem Dev.mbClearBits_feed (n m : Nat) (d : Dev) : (d.mbClearBits n m).feed = d.feed := rfl
@[simp] theorem Dev.mbClearBits_rinse (n m : Nat) (d : Dev) : (d.mbClearBits n m).rinse = d.rinse := rfl
@[simp] theorem Dev.mbClearBits_soaking (n m : Nat) (d : Dev) : (d.mbClearBits n m).soaking = d.soaking := rfl
@[simp] theorem Dev.mbClearBits_march (n m : Nat) (d : Dev) : (d.mbClearBits n m).march = d.march := rfl
@[simp] theorem Dev.mbClearBits_sequence (n m : Nat) (d : Dev) : (d.mbClearBits n m).sequence = d.sequence := rfl
@[simp] theorem Dev.mbClearBits_measuring (n m : Nat) (d : Dev) : (d.mbClearBits n m).measuring = d.measuring := rfl
@[simp] theorem Dev.mbClearBits_tap (n m : Nat) (d : Dev) : (d.mbClearBits n m).tap = d.tap := rfl
@[simp] theorem Dev.mbClearBits_boundary (n m : Nat) (d : Dev) : (d.mbClearBits n m).boundary = d.boundary := rfl

@[simp] theorem Dev.reply_mode (q : Query) (m : Msg) (d : Dev) : (d.reply q m).mode = d.mode := by unfold Dev.reply; split <;> simp
@[simp] theorem Dev.reply_highRate (q : Query) (m : Msg) (d : Dev) : (d.reply q m).highRate = d.highRate := by unfold Dev.reply; split <;> simp
@[simp] theorem Dev.reply_objs (q : Query) (m : Msg) (d : Dev) : (d.reply q m).objs = d.objs := by unfold Dev.reply; split <;> simp
@[simp] theorem Dev.reply_blobs (q : Query) (m : Msg) (d : Dev) : (d.reply q m).blobs = d.blobs := by unfold Dev.reply; split <;> simp
@[simp] theorem Dev.reply_effGains (q : Query) (m : Msg) (d : Dev) : (d.reply q m).effGains = d.effGains := by unfold Dev.reply; split <;> simp
@[simp] theorem Dev.reply_eff (q : Query) (m : Msg) (d : Dev) : (d.reply q m).eff = d.eff := by unfold Dev.reply; split <;> simp
@[simp] theorem Dev.reply_effBlobs (q : Query) (m : Msg) (d : Dev) : (d.reply q m).effBlobs = d.effBlobs := by unfold Dev.reply; split <;> simp
@[simp] theorem Dev.reply_gains (q : Query) (m : Msg) (d : Dev) : (d.reply q m).gains = d.gains := by unfold Dev.reply; split <;> simp
@[simp] theorem Dev.reply_free (q : Query) (m : Msg) (d : Dev) : (d.reply q m).free = d.free := by unfold Dev.reply; split <;> simp
@[simp] theorem Dev.reply_blanked (q : Query) (m : Msg) (d : Dev) : (d.reply q m).blanked = d.blanked := by unfold Dev.reply; split <;> simp
@[simp] theorem Dev.reply_recorder (q : Query) (m : Msg) (d : Dev) : (d.reply q m).recorder = d.recorder := by unfold Dev.reply; split <;> simp
@[simp] theorem Dev.reply_counters (q : Query) (m : Msg) (d : Dev) : (d.reply q m).counters = d.counters := by unfold Dev.reply; split <;> simp
@[simp] theorem Dev.reply_tag (q : Query) (m : Msg) (d : Dev) : (d.reply q m).tag = d.tag := by unfold Dev.reply; split <;> simp
@[simp] theorem Dev.reply_clock (q : Query) (m : Msg) (d : Dev) : (d.reply q m).clock = d.clock := by unfold Dev.reply; split <;> simp
@[simp] theorem Dev.reply_ledger (q : Query) (m : Msg) (d : Dev) : (d.reply q m).ledger = d.ledger := by unfold Dev.reply; split <;> simp
@[simp] theorem Dev.reply_keeper (q : Query) (m : Msg) (d : Dev) : (d.reply q m).keeper = d.keeper := by unfold Dev.reply; split <;> simp
@[simp] theorem Dev.reply_stripes (q : Query) (m : Msg) (d : Dev) : (d.reply q m).stripes = d.stripes := by unfold Dev.reply; split <;> simp
@[simp] theorem Dev.reply_nextUid (q : Query) (m : Msg) (d : Dev) : (d.reply q m).nextUid = d.nextUid := by unfold Dev.reply; split <;> simp
@[simp] theorem Dev.reply_nextEntry (q : Query) (m : Msg) (d : Dev) : (d.reply q m).nextEntry = d.nextEntry := by unfold Dev.reply; split <;> simp
@[simp] theorem Dev.reply_unfold (q : Query) (m : Msg) (d : Dev) : (d.reply q m).unfold = d.unfold := by unfold Dev.reply; split <;> simp
@[simp] theorem Dev.reply_dram (q : Query) (m : Msg) (d : Dev) : (d.reply q m).dram = d.dram := by unfold Dev.reply; split <;> simp
@[simp] theorem Dev.reply_conv (q : Query) (m : Msg) (d : Dev) : (d.reply q m).conv = d.conv := by unfold Dev.reply; split <;> simp
@[simp] theorem Dev.reply_link (q : Query) (m : Msg) (d : Dev) : (d.reply q m).link = d.link := by unfold Dev.reply; split <;> simp
@[simp] theorem Dev.reply_stage (q : Query) (m : Msg) (d : Dev) : (d.reply q m).stage = d.stage := by unfold Dev.reply; split <;> simp
@[simp] theorem Dev.reply_servo (q : Query) (m : Msg) (d : Dev) : (d.reply q m).servo = d.servo := by unfold Dev.reply; split <;> simp
@[simp] theorem Dev.reply_rescue (q : Query) (m : Msg) (d : Dev) : (d.reply q m).rescue = d.rescue := by unfold Dev.reply; split <;> simp
@[simp] theorem Dev.reply_service (q : Query) (m : Msg) (d : Dev) : (d.reply q m).service = d.service := by unfold Dev.reply; split <;> simp
@[simp] theorem Dev.reply_axes (q : Query) (m : Msg) (d : Dev) : (d.reply q m).axes = d.axes := by unfold Dev.reply; split <;> simp
@[simp] theorem Dev.reply_rinse (q : Query) (m : Msg) (d : Dev) : (d.reply q m).rinse = d.rinse := by unfold Dev.reply; split <;> simp
@[simp] theorem Dev.reply_soaking (q : Query) (m : Msg) (d : Dev) : (d.reply q m).soaking = d.soaking := by unfold Dev.reply; split <;> simp
@[simp] theorem Dev.reply_march (q : Query) (m : Msg) (d : Dev) : (d.reply q m).march = d.march := by unfold Dev.reply; split <;> simp
@[simp] theorem Dev.reply_sequence (q : Query) (m : Msg) (d : Dev) : (d.reply q m).sequence = d.sequence := by unfold Dev.reply; split <;> simp
@[simp] theorem Dev.reply_measuring (q : Query) (m : Msg) (d : Dev) : (d.reply q m).measuring = d.measuring := by unfold Dev.reply; split <;> simp
@[simp] theorem Dev.reply_tap (q : Query) (m : Msg) (d : Dev) : (d.reply q m).tap = d.tap := by unfold Dev.reply; split <;> simp
@[simp] theorem Dev.reply_boundary (q : Query) (m : Msg) (d : Dev) : (d.reply q m).boundary = d.boundary := by unfold Dev.reply; split <;> simp

@[simp] theorem Dev.finish_mode (q : Query) (m : Msg) (d : Dev) : (d.finish q m).mode = d.mode := by simp [Dev.finish]
@[simp] theorem Dev.finish_highRate (q : Query) (m : Msg) (d : Dev) : (d.finish q m).highRate = d.highRate := by simp [Dev.finish]
@[simp] theorem Dev.finish_blobs (q : Query) (m : Msg) (d : Dev) : (d.finish q m).blobs = d.blobs := by simp [Dev.finish]
@[simp] theorem Dev.finish_effGains (q : Query) (m : Msg) (d : Dev) : (d.finish q m).effGains = d.effGains := by simp [Dev.finish]
@[simp] theorem Dev.finish_eff (q : Query) (m : Msg) (d : Dev) : (d.finish q m).eff = d.eff := by simp [Dev.finish]
@[simp] theorem Dev.finish_effBlobs (q : Query) (m : Msg) (d : Dev) : (d.finish q m).effBlobs = d.effBlobs := by simp [Dev.finish]
@[simp] theorem Dev.finish_gains (q : Query) (m : Msg) (d : Dev) : (d.finish q m).gains = d.gains := by simp [Dev.finish]
@[simp] theorem Dev.finish_free (q : Query) (m : Msg) (d : Dev) : (d.finish q m).free = d.free := by simp [Dev.finish]
@[simp] theorem Dev.finish_blanked (q : Query) (m : Msg) (d : Dev) : (d.finish q m).blanked = d.blanked := by simp [Dev.finish]
@[simp] theorem Dev.finish_recorder (q : Query) (m : Msg) (d : Dev) : (d.finish q m).recorder = d.recorder := by simp [Dev.finish]
@[simp] theorem Dev.finish_counters (q : Query) (m : Msg) (d : Dev) : (d.finish q m).counters = d.counters := by simp [Dev.finish]
@[simp] theorem Dev.finish_tag (q : Query) (m : Msg) (d : Dev) : (d.finish q m).tag = d.tag := by simp [Dev.finish]
@[simp] theorem Dev.finish_clock (q : Query) (m : Msg) (d : Dev) : (d.finish q m).clock = d.clock := by simp [Dev.finish]
@[simp] theorem Dev.finish_ledger (q : Query) (m : Msg) (d : Dev) : (d.finish q m).ledger = d.ledger := by simp [Dev.finish]
@[simp] theorem Dev.finish_keeper (q : Query) (m : Msg) (d : Dev) : (d.finish q m).keeper = d.keeper := by simp [Dev.finish]
@[simp] theorem Dev.finish_stripes (q : Query) (m : Msg) (d : Dev) : (d.finish q m).stripes = d.stripes := by simp [Dev.finish]
@[simp] theorem Dev.finish_nextUid (q : Query) (m : Msg) (d : Dev) : (d.finish q m).nextUid = d.nextUid := by simp [Dev.finish]
@[simp] theorem Dev.finish_nextEntry (q : Query) (m : Msg) (d : Dev) : (d.finish q m).nextEntry = d.nextEntry := by simp [Dev.finish]
@[simp] theorem Dev.finish_unfold (q : Query) (m : Msg) (d : Dev) : (d.finish q m).unfold = d.unfold := by simp [Dev.finish]
@[simp] theorem Dev.finish_dram (q : Query) (m : Msg) (d : Dev) : (d.finish q m).dram = d.dram := by simp [Dev.finish]
@[simp] theorem Dev.finish_conv (q : Query) (m : Msg) (d : Dev) : (d.finish q m).conv = d.conv := by simp [Dev.finish]
@[simp] theorem Dev.finish_link (q : Query) (m : Msg) (d : Dev) : (d.finish q m).link = d.link := by simp [Dev.finish]
@[simp] theorem Dev.finish_stage (q : Query) (m : Msg) (d : Dev) : (d.finish q m).stage = d.stage := by simp [Dev.finish]
@[simp] theorem Dev.finish_servo (q : Query) (m : Msg) (d : Dev) : (d.finish q m).servo = d.servo := by simp [Dev.finish]
@[simp] theorem Dev.finish_rescue (q : Query) (m : Msg) (d : Dev) : (d.finish q m).rescue = d.rescue := by simp [Dev.finish]
@[simp] theorem Dev.finish_service (q : Query) (m : Msg) (d : Dev) : (d.finish q m).service = d.service := by simp [Dev.finish]
@[simp] theorem Dev.finish_axes (q : Query) (m : Msg) (d : Dev) : (d.finish q m).axes = d.axes := by simp [Dev.finish]
@[simp] theorem Dev.finish_rinse (q : Query) (m : Msg) (d : Dev) : (d.finish q m).rinse = d.rinse := by simp [Dev.finish]
@[simp] theorem Dev.finish_soaking (q : Query) (m : Msg) (d : Dev) : (d.finish q m).soaking = d.soaking := by simp [Dev.finish]
@[simp] theorem Dev.finish_march (q : Query) (m : Msg) (d : Dev) : (d.finish q m).march = d.march := by simp [Dev.finish]
@[simp] theorem Dev.finish_sequence (q : Query) (m : Msg) (d : Dev) : (d.finish q m).sequence = d.sequence := by simp [Dev.finish]
@[simp] theorem Dev.finish_measuring (q : Query) (m : Msg) (d : Dev) : (d.finish q m).measuring = d.measuring := by simp [Dev.finish]
@[simp] theorem Dev.finish_tap (q : Query) (m : Msg) (d : Dev) : (d.finish q m).tap = d.tap := by simp [Dev.finish]
@[simp] theorem Dev.finish_boundary (q : Query) (m : Msg) (d : Dev) : (d.finish q m).boundary = d.boundary := by simp [Dev.finish]

@[simp] theorem Dev.done_mode (q : Query) (d : Dev) : (d.done q).mode = d.mode := by simp [Dev.done]
@[simp] theorem Dev.done_highRate (q : Query) (d : Dev) : (d.done q).highRate = d.highRate := by simp [Dev.done]
@[simp] theorem Dev.done_blobs (q : Query) (d : Dev) : (d.done q).blobs = d.blobs := by simp [Dev.done]
@[simp] theorem Dev.done_effGains (q : Query) (d : Dev) : (d.done q).effGains = d.effGains := by simp [Dev.done]
@[simp] theorem Dev.done_eff (q : Query) (d : Dev) : (d.done q).eff = d.eff := by simp [Dev.done]
@[simp] theorem Dev.done_effBlobs (q : Query) (d : Dev) : (d.done q).effBlobs = d.effBlobs := by simp [Dev.done]
@[simp] theorem Dev.done_gains (q : Query) (d : Dev) : (d.done q).gains = d.gains := by simp [Dev.done]
@[simp] theorem Dev.done_free (q : Query) (d : Dev) : (d.done q).free = d.free := by simp [Dev.done]
@[simp] theorem Dev.done_blanked (q : Query) (d : Dev) : (d.done q).blanked = d.blanked := by simp [Dev.done]
@[simp] theorem Dev.done_recorder (q : Query) (d : Dev) : (d.done q).recorder = d.recorder := by simp [Dev.done]
@[simp] theorem Dev.done_counters (q : Query) (d : Dev) : (d.done q).counters = d.counters := by simp [Dev.done]
@[simp] theorem Dev.done_tag (q : Query) (d : Dev) : (d.done q).tag = d.tag := by simp [Dev.done]
@[simp] theorem Dev.done_clock (q : Query) (d : Dev) : (d.done q).clock = d.clock := by simp [Dev.done]
@[simp] theorem Dev.done_ledger (q : Query) (d : Dev) : (d.done q).ledger = d.ledger := by simp [Dev.done]
@[simp] theorem Dev.done_keeper (q : Query) (d : Dev) : (d.done q).keeper = d.keeper := by simp [Dev.done]
@[simp] theorem Dev.done_stripes (q : Query) (d : Dev) : (d.done q).stripes = d.stripes := by simp [Dev.done]
@[simp] theorem Dev.done_nextUid (q : Query) (d : Dev) : (d.done q).nextUid = d.nextUid := by simp [Dev.done]
@[simp] theorem Dev.done_nextEntry (q : Query) (d : Dev) : (d.done q).nextEntry = d.nextEntry := by simp [Dev.done]
@[simp] theorem Dev.done_unfold (q : Query) (d : Dev) : (d.done q).unfold = d.unfold := by simp [Dev.done]
@[simp] theorem Dev.done_dram (q : Query) (d : Dev) : (d.done q).dram = d.dram := by simp [Dev.done]
@[simp] theorem Dev.done_conv (q : Query) (d : Dev) : (d.done q).conv = d.conv := by simp [Dev.done]
@[simp] theorem Dev.done_link (q : Query) (d : Dev) : (d.done q).link = d.link := by simp [Dev.done]
@[simp] theorem Dev.done_stage (q : Query) (d : Dev) : (d.done q).stage = d.stage := by simp [Dev.done]
@[simp] theorem Dev.done_servo (q : Query) (d : Dev) : (d.done q).servo = d.servo := by simp [Dev.done]
@[simp] theorem Dev.done_rescue (q : Query) (d : Dev) : (d.done q).rescue = d.rescue := by simp [Dev.done]
@[simp] theorem Dev.done_service (q : Query) (d : Dev) : (d.done q).service = d.service := by simp [Dev.done]
@[simp] theorem Dev.done_axes (q : Query) (d : Dev) : (d.done q).axes = d.axes := by simp [Dev.done]
@[simp] theorem Dev.done_rinse (q : Query) (d : Dev) : (d.done q).rinse = d.rinse := by simp [Dev.done]
@[simp] theorem Dev.done_soaking (q : Query) (d : Dev) : (d.done q).soaking = d.soaking := by simp [Dev.done]
@[simp] theorem Dev.done_march (q : Query) (d : Dev) : (d.done q).march = d.march := by simp [Dev.done]
@[simp] theorem Dev.done_sequence (q : Query) (d : Dev) : (d.done q).sequence = d.sequence := by simp [Dev.done]
@[simp] theorem Dev.done_measuring (q : Query) (d : Dev) : (d.done q).measuring = d.measuring := by simp [Dev.done]
@[simp] theorem Dev.done_tap (q : Query) (d : Dev) : (d.done q).tap = d.tap := by simp [Dev.done]
@[simp] theorem Dev.done_boundary (q : Query) (d : Dev) : (d.done q).boundary = d.boundary := by simp [Dev.done]

/-! ### Reading an object after an update -/

theorem Dev.get_put (k j v : Nat) (d : Dev) : (d.put k v).get j = if j = k then v else d.get j := by
  unfold Dev.get Dev.put
  by_cases h : j = k
  · subst h; simp
  · rw [if_neg h]; exact Map.get_put_else _ _ h v d.objs

@[simp] theorem Dev.get_put_same (k v : Nat) (d : Dev) : (d.put k v).get k = v := by simp [Dev.get_put]

theorem Dev.get_put_other {k j : Nat} (h : j ≠ k) (v : Nat) (d : Dev) : (d.put k v).get j = d.get j := by
  simp [Dev.get_put, h]

theorem Dev.get_of_objs {k : Nat} {d e : Dev} (h : d.objs = e.objs) : d.get k = e.get k := by
  unfold Dev.get; rw [h]

/-- An event leaves every object but the count of dropped records. -/
theorem Dev.get_raise {k : Nat} (h : k ≠ Obj.DROPPED) (a c : Nat) (p : List Nat) (d : Dev) :
    (d.raise a c p).get k = d.get k := by
  unfold Dev.raise Dev.record
  dsimp only
  split
  · exact Dev.get_of_objs (by simp)
  · unfold Dev.bump Dev.add
    rw [Dev.get_put_other h]
    exact Dev.get_of_objs (by simp)

/-- An event that finds room in the recorder queue leaves every object. -/
theorem Dev.raise_objs {d : Dev} (h : d.recorder.queue.length < 1024) (a c : Nat) (p : List Nat) :
    (d.raise a c p).objs = d.objs := by
  unfold Dev.raise Dev.record
  dsimp only
  rw [if_pos (by simpa using h)]
  simp

/-- An event that finds room is queued last. -/
theorem Dev.raise_queue {d : Dev} (h : d.recorder.queue.length < 1024) (a c : Nat) (p : List Nat) :
    (d.raise a c p).recorder.queue = d.recorder.queue
      ++ [⟨0, c, a, (d.count c).stamp, (p ++ [0, 0, 0, 0]).take 4 |>.map (· % 2 ^ 32)⟩] := by
  unfold Dev.raise Dev.record
  dsimp only
  rw [if_pos (by simpa using h)]
  simp

end Sys2Proof.Machine
end

