-- ==== Sys2Proof/Laws/Serve.lean ====
section
/-!
SUPPORT. Sys2Proof/Laws/Serve.lean: what serving one request can do.
-/
namespace Sys2Proof.Machine

/-- Hearing a request changes the sessions only. -/
theorem Dev.heard_eq (q : Query) (d : Dev) : ∃ m, d.heard q = { d with cop := { d.cop with sessions := m } } := by
  unfold Dev.heard Dev.onOwn
  split
  · unfold Dev.onSession
    split
    · exact ⟨_, rfl⟩
    · exact ⟨d.cop.sessions, rfl⟩
  · exact ⟨d.cop.sessions, rfl⟩

/-- A reading of the device that does not look at the sessions is the same once a request was heard. -/
theorem Dev.of_heard {α : Type} (f : Dev → α) (q : Query) (d : Dev)
    (h : ∀ m, f { d with cop := { d.cop with sessions := m } } = f d) : f (d.heard q) = f d := by
  obtain ⟨m, e⟩ := d.heard_eq q
  rw [e, h]

@[simp] theorem Dev.heard_get (k : Nat) (q : Query) (d : Dev) : (d.heard q).get k = d.get k :=
  d.of_heard (Dev.get k) q fun _ => rfl
@[simp] theorem Dev.heard_jobOpen (q : Query) (d : Dev) : (d.heard q).jobOpen = d.jobOpen :=
  d.of_heard Dev.jobOpen q fun _ => rfl
@[simp] theorem Dev.heard_writeForbidden (i s v : Nat) (q : Query) (d : Dev) :
    (d.heard q).writeForbidden i s v = d.writeForbidden i s v := d.of_heard (Dev.writeForbidden i s v) q fun _ => rfl

/-- The outcome of the tests of R62 that pass so far. -/
@[simp] theorem firstAbort_nil : firstAbort [] = none := rfl
@[simp] theorem firstAbort_pass (a : Abort) (ts : List (Abort × Bool)) : firstAbort ((a, false) :: ts) = firstAbort ts := rfl
@[simp] theorem firstAbort_fail (a : Abort) (ts : List (Abort × Bool)) : firstAbort ((a, true) :: ts) = some a := rfl

/-- A request that is admitted, passes its tests and is carried out is counted, kept and answered. -/
theorem Dev.serve_ok {q : Query} {pre : List (Abort × Bool)} {answer : Dev → Answer} {d d' : Dev} {p : List Byte}
    (h : d.Admits q) (hp : firstAbort pre = none) (ha : answer (d.heard q) = .ok p d') :
    d.serve q pre answer = d'.finish q (q.response 0 p) := by
  obtain ⟨h1, h2, -⟩ := h
  simp only [Dev.serve, Dev.serveWith, h1, not_true, if_false, h2, hp, ha, Dev.answered]

/-- A request that is admitted, passes its first tests and is refused leaves its count only (R63). -/
theorem Dev.serve_refuse {q : Query} {pre : List (Abort × Bool)} {answer : Dev → Answer} {d d' : Dev} {a : Abort}
    (h : d.Admits q) (hp : firstAbort pre = none) (ha : answer (d.heard q) = .refuse a d') :
    d.serve q pre answer = d'.refuse q a := by
  obtain ⟨h1, h2, -⟩ := h
  simp only [Dev.serve, Dev.serveWith, h1, not_true, if_false, h2, hp, ha, Dev.answered]

/-- A command request that is admitted and carried out. -/
theorem Dev.serveCommand_ok {q : Query} {answer : Dev → Answer} {d d' : Dev} {p : List Byte} (h : d.Admits q)
    (ha : answer (d.heard q) = .ok p d') : d.serveCommand q answer = d'.finish q (q.response 0 p) :=
  Dev.serve_ok h (by simp [h.2.2]) ha

/-- A command request that is admitted and refused. -/
theorem Dev.serveCommand_refuse {q : Query} {answer : Dev → Answer} {d d' : Dev} {a : Abort} (h : d.Admits q)
    (ha : answer (d.heard q) = .refuse a d') : d.serveCommand q answer = d'.refuse q a :=
  Dev.serve_refuse h (by simp [h.2.2]) ha

/-- A command whose tests pass is recorded and has its effect. -/
theorem Dev.command_ok {q : Query} {len word : Nat} {tests : List (Abort × Bool)} (effect : Dev → Dev) {d : Dev}
    (hf : d.writeForbidden q.index q.sub word = false) (ht : firstAbort tests = none) :
    d.command q len word tests effect = .ok [] (effect (d.noteCommand q len word)) := by
  simp only [Dev.command, hf, firstAbort_pass, ht]

/-- A write of a numeric object whose tests pass is recorded and stored, and has its effect. -/
theorem Dev.configure_ok {q : Query} {k w v : Nat} {tests : List (Abort × Bool)} (effect : Dev → Dev) {d : Dev}
    (hf : d.writeForbidden q.index q.sub v = false) (ht : firstAbort tests = none) :
    d.configure q k w v tests effect
      = .ok [] (effect ((d.noteWrite q (le w (d.get k)) (le w v)).put k v)) := by
  simp only [Dev.configure, hf, firstAbort_pass, ht]

end Sys2Proof.Machine
end

