-- ==== Sys2Proof/Laws/Store.lean ====
section
/-!
SUPPORT. Sys2Proof/Laws/Store.lean: what a command can do to the layout store's bytes; every way keeps their canonical
form.
-/
namespace Sys2Proof.Machine

theorem storeWrite_wf (ws : List (Nat × List Byte)) {mem : Map Byte} (h : Map.wf 0 mem = true) :
    Map.wf 0 (storeWrite ws mem) = true := by
  unfold storeWrite
  induction ws generalizing mem with
  | nil => exact h
  | cons w ws ih => exact ih (Map.wf_puts 0 w.2 w.1 h)

theorem clearRange_wf (a n : Nat) {mem : Map Byte} (h : Map.wf 0 mem = true) : Map.wf 0 (clearRange a n mem) = true :=
  Map.wf_filter 0 _ h

theorem clearPages_wf (ps : List Nat) {mem : Map Byte} (h : Map.wf 0 mem = true) : Map.wf 0 (clearPages ps mem) = true :=
  Map.wf_filter 0 _ h

@[simp] theorem clearPages_nil (mem : Map Byte) : clearPages [] mem = mem := by
  simp [clearPages]

theorem relocate_wf (old new : StoreState) (mem : Map Byte) : Map.wf 0 (relocate old new mem) = true := by
  have key : ∀ (f : Map Byte → Nat × Byte → Map Byte), (∀ m e, Map.wf 0 m = true → Map.wf 0 (f m e) = true) →
      ∀ m : Map Byte, Map.wf 0 m = true → Map.wf 0 (mem.foldl f m) = true := by
    intro f hf
    induction mem with
    | nil => exact fun m h => h
    | cons e l ih => exact fun m h => ih _ (hf m e h)
  refine key _ (fun m e h => ?_) [] rfl
  dsimp only
  split
  · exact Map.wf_put 0 _ _ h
  · exact h

theorem storeAfter_wf (old new : Dev) {mem : Map Byte} (h : Map.wf 0 mem = true) :
    Map.wf 0 (storeAfter old new mem) = true := by
  unfold storeAfter
  split
  · split
    · rfl
    · exact h
  · split
    · exact relocate_wf _ _ _
    · exact clearPages_wf _ h

/-- A request that leaves the remap list and the main die as they are leaves every byte of the store. -/
theorem storeAfter_same {old new : Dev} (mem : Map Byte) (hr : new.running = old.running)
    (h : new.dram.remap = old.dram.remap) : storeAfter old new mem = mem := by
  unfold storeAfter
  rw [if_neg (by rw [hr]; simp), if_neg (by rw [h]; simp)]
  simp [h]

theorem Map.wf_ite {p : Prop} [Decidable p] {a b : Map Byte} (ha : Map.wf 0 a = true) (hb : Map.wf 0 b = true) :
    Map.wf 0 (if p then a else b) = true := by split <;> assumption

theorem State.storeOk_ite {p : Prop} [Decidable p] {s t : State} (hs : s.StoreOk) (ht : t.StoreOk) :
    (if p then s else t).StoreOk := by split <;> assumption

theorem storeInit_wf (rejected : List RankReject) (held : Bool) {s : State} (h : s.StoreOk) :
    (storeInit rejected held s).StoreOk :=
  State.storeOk_ite h (Map.wf_ite rfl (Map.wf_ite h (relocate_wf _ _ _)))

theorem clearRemap_wf (r : Req) {s : State} (h : s.StoreOk) : (clearRemap r s).StoreOk := by
  unfold clearRemap
  extract_lets d
  clear_value d
  exact Map.wf_ite h (relocate_wf _ _ _)

theorem migrateAndSettle_wf {s : State} (h : s.StoreOk) : (migrateAndSettle s).StoreOk := by
  unfold migrateAndSettle migrate
  extract_lets d gone s1 w
  clear_value w
  exact storeWrite_wf w.1 (clearPages_wf gone h)

theorem retireUnit_wf (ch place : Nat) (k : Completion) {s : State} (h : s.StoreOk) : (retireUnit ch place k s).StoreOk := by
  unfold retireUnit
  extract_lets w lost
  clear_value w
  exact storeWrite_wf w.1 (clearPages_wf lost h)

theorem powerOn_wf {s : State} (h : s.StoreOk) : s.powerOn.StoreOk := State.storeOk_ite rfl h

/-- A command of the device only. -/
theorem State.next_inv {s t : State} {f : Dev → Dev} (h : s.next f = .next t) : t = { s with dev := f s.dev } := by
  cases h; rfl

theorem State.nextMem_inv {s t : State} {f : Map Byte → Dev → Dev} (h : s.nextMem f = .next t) :
    t = { s with dev := f s.store s.dev } := by cases h; rfl

theorem State.nextStore_inv {s t : State} {f : Map Byte → Dev → List (Nat × List Byte) × Dev} (h : s.nextStore f = .next t) :
    t = { s with store := storeWrite (f s.store s.dev).1 s.store, dev := (f s.store s.dev).2 } := by cases h; rfl

theorem State.nextRequest_inv {s t : State} {f : Map Byte → Dev → Dev} (h : s.nextRequest f = .next t) :
    t = { s with store := storeAfter s.dev (f s.store s.dev) s.store, dev := f s.store s.dev } := by cases h; rfl

theorem State.nextLost_inv {s t : State} {f : Map Byte → Dev → Dev} (h : s.nextLost f = .next t) :
    ∃ ps, t = { s with store := clearPages ps s.store, dev := f s.store s.dev } := by cases h; exact ⟨_, rfl⟩

theorem State.nextReset_inv {s t : State} {f : Dev → Dev} (h : s.nextReset f = .next t) :
    t = { s with dev := f s.dev } ∨ t = { s with store := [], dev := f s.dev } := by
  unfold State.nextReset at h
  cases h
  split
  · exact .inr rfl
  · exact .inl rfl

end Sys2Proof.Machine
end

