-- ==== Sys2Proof/Tests/Slice0.lean ====
section
/-!
SUPPORT. Sys2Proof/Tests/Slice0.lean: the model's own tests.
Ill-formed commands that WellFormed refuses; values worked out in the spec; and, for every statement with hypotheses, a
state and operands that meet them.
-/
namespace Sys2Proof.Tests

set_option Elab.async false

open Sys2Proof Sys2Proof.Machine

/-! ### States -/

/-- A sender on NET0, to the device's address 10.0.0.2, whose session 3 is open. -/
def host : Sender := { port := .net0, ip := 0x0A000001, udp := 5000, at_ := [10, 0, 0, 2] }

/-- A request of that session. -/
def req : Req := ⟨host, 3, 9⟩

/-- A device in a mode, with session 3 open, the given objects set, and RAW at 10 s. -/
def dev (m : Mode) (objs : Map Nat) : Dev :=
  { Dev.reset with
    mode := m, objs := objs, clock := { Clock.reset with raw := 10000000000 },
    blobs := [(Obj.NET_IPV4_ADDR 0, [10, 0, 0, 2])],
    cop := { sessions := [(3, Session.opened host 0)], subs := [], bar2 := [], areas := [] } }

/-- A state of that device, with an empty store. -/
def st (m : Mode) (objs : Map Nat) : State := { State.reset with dev := dev m objs }

/-- Objects with which the arm checks 1 to 5, 7, 9 and 10 pass, beside the identity and the store's layout. -/
def armObjs : Map Nat :=
  [(Obj.ID_STATE, 1), (Obj.MAX_LANE_RATE, 2), (Obj.ID_MAX_SHOT_RATE, 2000000), (Obj.JOB_SHOT_RATE, 1000000),
   (Obj.LAND_TIME, 200), (Obj.RX_IN_SERVICE, 0xFF), (Obj.CHAN_STATUS 0, 1), (Obj.STORE_STATE, 2),
   (Obj.BEAM_GAIN_CHECK, crc32c (gainBytes [])), (Obj.JOB_STATE, 2)] ++ (List.range 13).map fun j => (Obj.TIMING_VALUE j, 52)

/-- A device that passes every arm check. -/
def armed (m : Mode) (objs : Map Nat) : Dev :=
  { dev m (objs ++ armObjs) with
    blobs := [(Obj.NET_IPV4_ADDR 0, [10, 0, 0, 2]), (Obj.TX_LOCKED, List.replicate 17 0xFF)],
    dram := { StoreState.reset with layout := [0], perRank := 1024 },
    link := { Link.reset with identity := ⟨512, 512, 136, 8⟩ } }

/-- A state of that device. -/
def armedSt (m : Mode) (objs : Map Nat) : State := { State.reset with dev := armed m objs }

theorem test_admits : (dev .setup []).Admits (req.write 0x2001 0) := by decide +kernel

/-! ### WellFormed: an ill-formed term for each check -/

/-- A message with nothing but an operation and a payload. -/
def msgOf (op : Byte) (payload : List Byte) : Msg := ⟨1, op, 3, 0, 0, 0, 0, 0, 0, 0, 0, payload, 0⟩

theorem test_wf_read : (Instr.read host (.message (msgOf 2 []))).wf = false := by decide
theorem test_wf_read_short : (Instr.read host (.short (List.replicate 28 0))).wf = false := by decide
theorem test_wf_read_ok : (Instr.read host (.message (msgOf 1 []))).wf = true := by decide
theorem test_wf_write : (Instr.write host (msgOf 1 [])).wf = false := by decide
theorem test_wf_readBlock : (Instr.readBlock host (msgOf 2 [])).wf = false := by decide
theorem test_wf_writeBlock : (Instr.writeBlock host (msgOf 3 [])).wf = false := by decide
theorem test_wf_subscribe : (Instr.subscribe host (msgOf 4 [])).wf = false := by decide
theorem test_wf_payload : (Instr.write host (msgOf 2 (List.replicate 8193 0))).wf = false := by decide +kernel
theorem test_wf_mbnDoorbell : (Instr.mbnDoorbell 0 (List.replicate 8221 0) 0).wf = false := by decide +kernel
theorem test_wf_ownerEntryWrite : (Instr.ownerEntryWrite req 0x2107 0 0).wf = false := by decide
theorem test_wf_chnLenWrite : (Instr.chnLenWrite [⟨0x20000, 0⟩] 0 0).wf = false := by decide
theorem test_wf_unitRetire : (Instr.unitRetire 0 0 (.data (List.replicate 257 0))).wf = false := by decide +kernel
theorem test_wf_unitTakeUp : (Instr.unitTakeUp .decoder 16).wf = false := by decide
theorem test_wf_unitComplete : (Instr.unitComplete .rasterizer 8 0 .none).wf = false := by decide
theorem test_wf_stallRelease : (Instr.stallRelease .placer 4).wf = false := by decide
theorem test_wf_returnFrame : (Instr.returnFrame 0 (List.replicate 1241 true)).wf = false := by decide +kernel
theorem test_wf_waveBankWrite : (Instr.waveBankWrite req 0 [] ⟨⟨0, 0, []⟩, ⟨0, 0, []⟩⟩).wf = false := by decide
theorem test_wf_tapInstructionLoad : (Instr.tapInstructionLoad ⟨0, List.replicate 2193 false⟩).wf = false := by decide +kernel
theorem test_wf_fwImagePart : (Instr.fwImagePart req 0 []).wf = false := by decide
theorem test_wf_sentinelSample : (Instr.sentinelSample ⟨0, false, false, false, []⟩).wf = false := by decide
theorem test_wf_dieTempUpdate : (Instr.dieTempUpdate 0 0 [] true).wf = false := by decide
theorem test_wf_addressResolutionRequest : (Instr.addressResolutionRequest 0 none true [] []).wf = false := by decide
theorem test_wf_echoRequest : (Instr.echoRequest 0 none false [1, 2, 3, 4] [1, 2, 3] []).wf = false := by decide

/-- R69: a message of another row's operation is no well-formed command of this row, and stops by name. -/
theorem test_illFormed : exec (.write host (msgOf 1 [])) State.reset = .fault (.illFormed "WRITE") := rfl

/-- No row of the table has bits: no word spells a command. -/
theorem test_no_words : decodeTableWord 32 0 = none ∧ State.reset.withFetchWord 32 0 = State.reset := by decide +kernel

/-! ### Requests and modes -/

/-- A message of session 3 with its CRC. -/
def msg (op : Byte) (flags : Byte) (index : Word16) (sub : Byte) (offset length : Word32) (payload : List Byte) : Msg :=
  let m : Msg := ⟨1, op, 3, flags, 9, index, sub, 0, offset, length, 0, payload, 0⟩
  { m with crc := BitVec.ofNat 32 (crc32c m.body) }

/-- The object row of an index and subindex. -/
def row (index sub : Nat) : ObjRow := (findRow index sub).getD ⟨0, 0, 0, 0, .u 1, .ro, 0, [], .any⟩

theorem witness_MalformedMessagesDropped :
    (dev .setup []).reaches host = true ∧ ({ msg 1 0 0x2000 0 0 0 [] with crc := 0 } : Msg).crcOk = false
      ∧ ({ msg 1 0 0x2000 0 0 0 [] with version := 2 } : Msg).version ≠ 1 := by decide +kernel

theorem witness_MalformedMessagesDropped_undefined :
    (msg 0 0 0x2000 0 0 0 []).Sound host (dev .setup []) ∧ (msg 6 0 0x2000 0 0 0 []).Sound host (dev .setup [])
      ∧ (6 : Nat) ≤ (msg 6 0 0x2000 0 0 0 []).op.toNat := by decide +kernel

theorem witness_ReadsAnswerTheValue_read :
    let m := msg 1 0 0x2000 0 0 0 []
    m.Sound host (dev .setup []) ∧ hasObject 0x2000 = true ∧ findRow 0x2000 0 = some (row 0x2000 0)
      ∧ (row 0x2000 0).acc ≠ .wo ∧ (row 0x2000 0).acc ≠ .cmd ∧ (dev .setup []).readDenied (m.query host) = false
      ∧ (m.query host).foreignCursor = false ∧ m.op = 1 ∧ m.length = 0 ∧ (row 0x2000 0).ty.bytes ≤ 8192 := by decide +kernel

theorem witness_ReadsAnswerTheValue_block :
    let m := msg 3 0 0x3010 0 516096 8192 []
    let r := row 0x3010 0
    m.Sound host (dev .setup []) ∧ hasObject 0x3010 = true ∧ findRow 0x3010 0 = some r
      ∧ r.acc ≠ .wo ∧ r.acc ≠ .cmd ∧ (dev .setup []).readDenied (m.query host) = false
      ∧ (m.query host).foreignCursor = false ∧ m.op = 3 ∧ r.ty.isBytes = true ∧ 8192 < r.ty.bytes
      ∧ m.offset.toNat + m.length.toNat ≤ r.ty.bytes := by decide +kernel

/-- A device in READY whose idle time of sessions is to be set to 1,000 ms, its least value. -/
theorem witness_WriteStoresTheValue :
    let m := msg 2 0 0x1102 0 0 4 (le 4 1000)
    let q := m.query host
    let r := row 0x1102 0
    let d := (dev .ready []).heard q
    m.Sound host (dev .ready []) ∧ m.op = 2 ∧ hasObject 0x1102 = true ∧ findRow 0x1102 0 = some r ∧ r.acc ≠ .ro
      ∧ r.ty.isBytes = false ∧ m.payload.length = r.ty.bytes ∧ (d.rowWrite q 1000 m.payload []).isNone = true
      ∧ ofLe (m.payload.take 8) = 1000 ∧ d.writeForbidden 0x1102 0 1000 = false ∧ d.settingForbidden r = false
      ∧ r.rng.ok r.ty 1000 = true ∧ Dev.setFull r (d.put (key 0x1102 0) 1000) = false
      ∧ ∀ t ∈ d.objectTests 3 0x1102 0 1000, t.2 = false := by decide +kernel

/-- The largest chunk at the start of the gain table. -/
theorem witness_WriteBlockStagesAChunk :
    let m := msg 4 2 0x3010 0 0 8192 (List.replicate 8192 0x40)
    let q := m.query host
    let r := row 0x3010 0
    let x := Session.opened host 10000000000
    m.version = 1 ∧ headerBad m = false ∧ lengthOk m = true ∧ (dev .setup []).Admits q ∧ m.op = 4 ∧ m.flags = 2
      ∧ hasObject 0x3010 = true ∧ findRow 0x3010 0 = some r ∧ r.acc ≠ .ro ∧ r.ty.isBytes = true ∧ 8192 < r.ty.bytes
      ∧ m.offset.toNat + m.payload.length ≤ r.ty.bytes ∧ ((dev .setup []).heard q).sessionOf q = some x
      ∧ x.timedOut = false ∧ x.spoiled = false ∧ m.offset = 0 ∧ ((dev .setup []).heard q).buffersUsed q < 4 := by decide +kernel

/-- A subscription to SSN_NEXT at the shortest period, and its removal. -/
theorem witness_SubscribeAddsOrRemoves :
    let m := msg 5 0 0x3021 0 0 8 (le 4 1000 ++ [1, 0, 0, 0])
    let n := msg 5 0 0x3021 0 0 8 (le 4 1000 ++ [0, 0, 0, 0])
    let r := row 0x3021 0
    m.Sound host (dev .write []) ∧ n.Sound host (dev .write []) ∧ m.op = 5 ∧ hasObject 0x3021 = true
      ∧ findRow 0x3021 0 = some r ∧ r.acc ≠ .wo ∧ (dev .write []).readDenied (m.query host) = false
      ∧ (m.query host).foreignCursor = false ∧ r.ty.bytes ≤ 8192
      ∧ ((dev .write []).heard (m.query host)).cop.subs.length < 64 := by decide +kernel

/-- A device whose session 3 has a subscription to MODE of the shortest period, which falls due at RAW 10 s. -/
def subscribed : Dev :=
  let d := dev .write []
  { d with cop := { d.cop with subs := [⟨3, 0x2000, 0, 1000, 9999000000, [7]⟩] } }

theorem witness_NotifySendsTheValue :
    let x : Subscription := ⟨3, 0x2000, 0, 1000, 9999000000, [7]⟩
    subscribed.running = true ∧ subscribed.cop.subs[0]? = some x ∧ findRow 0x2000 0 = some (row 0x2000 0)
      ∧ subscribed.session 3 = some (Session.opened host 0)
      ∧ x.due (subscribed.readBytes (row 0x2000 0) (key 0x2000 0)) subscribed.clock.raw = true := by decide +kernel

/-- A device whose session 3 holds a staged transfer that is exactly 5 s old. -/
def staging : Dev :=
  let d := dev .setup []
  { d with cop := { d.cop with sessions := [(3, { Session.opened host 0 with staged := some ⟨0x3010, 0, [0], 5000000000⟩ })] } }

theorem witness_SessionTimeLimits_staged :
    staging.running = true ∧ (staging.session 3).isSome = true ∧ 5000000000 + 5000000000 ≤ staging.clock.raw := by
  decide +kernel

/-- The idle time of 1,000 ms has passed since a request at RAW 9 s, to the nanosecond. -/
theorem witness_SessionTimeLimits_idle :
    let d := { dev .setup [(Obj.SESSION_IDLE_TIMEOUT, 1000)] with
      cop := { (dev .setup []).cop with sessions := [(3, Session.opened host 9000000000)] } }
    d.session 3 = some (Session.opened host 9000000000)
      ∧ 9000000000 + d.get Obj.SESSION_IDLE_TIMEOUT * 1000000 = d.clock.raw := by decide +kernel

theorem witness_SessionsOpenAndClose :
    (dev .setup []).Admits (Req.write ⟨host, 0, 9⟩ 0x1100 0) ∧ (dev .setup []).writeForbidden 0x1100 0 1 = false
      ∧ (dev .setup []).freeSession = some 1 ∧ (dev .setup []).Admits (req.write 0x1101 0)
      ∧ (dev .setup []).writeForbidden 0x1101 0 3 = false := by decide +kernel

/-- The request in slot 0: a READ of MODE without a session. -/
def mboxRead : List Byte :=
  let m : Msg := ⟨1, 1, 0, 0, 9, 0x2000, 0, 0, 0, 0, 0, [], 0⟩
  m.body ++ le 4 (crc32c m.body)

theorem witness_MailboxSubmitsAndClears :
    (dev .setup []).listens = true ∧ (dev .setup []).feed.d3hot = false ∧ mboxRead.length ≤ 8220
      ∧ bitAt ((dev .setup []).bar2 (mbStatus 0)) stReqBusy = false
      ∧ dropCounter (Msg.decode (padTo 8220 mboxRead)) = none
      ∧ dropCounter (Msg.decode (padTo 8220 (0 :: mboxRead))) = some Obj.CRC_DROPS
      ∧ (0x1E : Word32) &&& 0x1E = 0x1E := by decide +kernel

theorem witness_MailboxSubmitsAndClears_busy :
    bitAt (((dev .setup []).putBar2 (mbStatus 0) 1).bar2 (mbStatus 0)) stReqBusy = true := by decide +kernel

theorem witness_OwnerEntriesReserveAndRelease :
    (dev .setup []).Admits (req.write 0x2100 1) ∧ isOwnerEntry 0x2100 1 = true
      ∧ (dev .setup []).writeForbidden 0x2100 1 0x0603 = false ∧ (dev .setup []).get (key 0x2100 1) = 0
      ∧ (dev .setup [(key 0x2100 1, 0x0603)]).get (key 0x2100 1) = 0x0600 + req.session.toNat := by decide +kernel

/-- An entry of a compare held by shot timing, which is never idle; one of axis 1 held by axis 1, whose axis is disabled; and a
value that names another session. -/
theorem witness_OwnerEntries_refused :
    let k := key 0x2103 1
    let d := dev .setup [(k, 0x0401)]
    let e := dev .setup [(k, 0x0100)]
    d.Admits (req.write 0x2103 1) ∧ isOwnerEntry 0x2103 1 = true ∧ d.writeForbidden 0x2103 1 0 = false
      ∧ d.get k ≠ 0x0603 ∧ d.get k / 256 ≠ 8 ∧ d.ownerIdle k = true ∧ e.get k ≠ 0 ∧ e.ownerIdle k = false
      ∧ (0x0604 : Nat) ≠ 0x0600 + req.session.toNat := by decide +kernel

/-! The arm checks of `armed`: all eleven pass. The eleventh compares a check word of 524,288 bytes with itself. -/

theorem armFailure_zero (d : Dev) (h : d.armChecks.take 10 = List.replicate 10 true) (g : d.gainsOk = true) :
    d.armFailure = 0 := by
  have e : d.armChecks = d.armChecks.take 10 ++ [d.gainsOk] := rfl
  simp only [Dev.armFailure]
  rw [e, h, g]
  decide

theorem gainsOk_of (d : Dev) (h : Map.find d.objs Obj.BEAM_GAIN_CHECK = some (crc32c (gainBytes d.effGains))) :
    d.gainsOk = true := by
  have key : ∀ (m : Map Nat) (e k v : Nat), Map.find m k = some v → Map.get e m k = v := by
    intro m e k v
    induction m with
    | nil => intro h; cases h
    | cons x m ih =>
      obtain ⟨j, w⟩ := x
      simp only [Map.find, Map.get]
      split
      · intro h; injection h
      · exact ih
  simp [Dev.gainsOk, Dev.get, key _ _ _ _ h]

theorem armed_gains (m : Mode) : (armed m []).gainsOk = true := by
  refine gainsOk_of _ ?_
  simp only [armed, armObjs, List.nil_append, List.cons_append]
  rfl

theorem witness_ArmedTransitions_setup :
    (armed .setup []).Admits (req.write 0x2001 0) ∧ (armed .setup []).armFailure = 0 :=
  ⟨by decide +kernel, armFailure_zero _ (by decide +kernel) (armed_gains _)⟩

theorem witness_ArmedTransitions_service :
    (armed .service []).Admits (req.write 0x2001 0) ∧ (armed .service []).armFailure = 0
      ∧ (armed .service []).get Obj.RECOVERY_STATE = 0 :=
  ⟨by decide +kernel, armFailure_zero _ (by decide +kernel) (armed_gains _), by decide +kernel⟩

theorem witness_ArmedTransitions_start :
    (armed .ready []).Admits (req.write 0x2001 0) ∧ (armed .ready []).armFailure = 0
      ∧ (armed .ready []).get Obj.JOB_STATE = 2 ∧ (armed .ready []).interlocksSafe = true :=
  ⟨by decide +kernel, armFailure_zero _ (by decide +kernel) (armed_gains _), by decide +kernel⟩

/-- A pending ledger record of stripe 0, rows 0 to 255 of tile column 0. -/
def deficit : LedgerRecord := ⟨0, 0, 255, 0, 0, 0, 1, 0, 0, 0, 2048, 131072, 1000, 0, 0⟩

/-- An open job whose deficit is pending. -/
def withDeficit (d : Dev) : Dev :=
  { d with ledger := { Ledger.reset with job := some ⟨1, 0, 0, 4096, 1000000, 1⟩, records := [deficit] } }

/-- A deficit makes a mend pass possible; the mend area is one 64 KiB page beside the package. -/
def mendDev : Dev := withDeficit (armed .ready [(Obj.AREA_BASE, 65536), (Obj.AREA_LENGTH, 65536)])

theorem witness_ArmedTransitions_mend :
    mendDev.Admits (req.write 0x2001 0) ∧ mendDev.armFailure = 0 ∧ mendDev.mode = .ready ∧ mendDev.jobOpen = true
      ∧ mendDev.mendable ≠ [] ∧ mendDev.interlocksSafe = true ∧ mendDev.mendAreaBad [] = false :=
  ⟨by decide +kernel, armFailure_zero _ (by decide +kernel) (gainsOk_of _ rfl), by decide +kernel, by decide +kernel,
    by decide +kernel, by decide +kernel, by decide +kernel⟩

/-- The bytes, other than 0, of a stripe entry of one row with its tile row of 32 EMPTY tiles, from store address 0: LENGTH_ROWS,
TILE_ROWS, TILE_INDEX_OFFSET 64 and ENTRY_CRC (R124); COST_DECODE 524,288 and ROW_CRC (R125, R127); SCALE 1.0 of each tile (R126). -/
def oneRowStripe : Map Byte :=
  [(0, 1), (4, 1), (16, 0x40), (60, 0xCA), (61, 0xAB), (62, 0x17), (63, 0xD4), (66, 8), (76, 0x18), (77, 0x15), (78, 0xEA),
   (79, 0x15)] ++ (List.range 32).map fun t => (83 + 16 * t, 0x40)

/-- MEASURE of tile column 0 of that stripe. -/
def measureDev : Dev := armed .ready [(Obj.MEASURE_COLUMNS, 1)]

set_option maxRecDepth 100000 in
theorem witness_ArmedTransitions_measure :
    measureDev.Admits (req.write 0x2001 0) ∧ measureDev.armFailure = 0 ∧ measureDev.mode = .ready
      ∧ measureDev.interlocksSafe = true ∧ measureDev.measureFails oneRowStripe = false
      ∧ measureDev.measureColumns.length ≤ measureDev.freePool.length :=
  ⟨by decide +kernel, armFailure_zero _ (by decide +kernel) (gainsOk_of _ rfl), by decide +kernel, by decide +kernel,
    by decide +kernel, by decide +kernel⟩

/-- Nothing is armed at reset: the first check, the identity, fails. -/
theorem witness_ArmFailureIsReported :
    (dev .setup []).Admits (req.write 0x2001 0) ∧ (dev .setup []).armFailure = 1
      ∧ (dev .ready [(Obj.JOB_STATE, 2)]).armFailure = 1 ∧ (dev .ready [(Obj.JOB_STATE, 2)]).get Obj.JOB_STATE = 2
      ∧ (dev .ready []).measureColumns.length ≤ (dev .ready []).freePool.length
      ∧ (dev .service []).get Obj.RECOVERY_STATE = 0 := by decide +kernel

theorem witness_PlainTransitions :
    (dev .ready []).Admits (req.write 0x2001 0) ∧ (dev .ready []).jobOpen = false
      ∧ (dev .write []).Admits (req.write 0x2001 0) ∧ (dev .mend []).Admits (req.write 0x2001 0)
      ∧ (dev .hold [(Obj.HOLD_ORIGIN, 9)]).Admits (req.write 0x2001 0) ∧ (dev .hold []).interlocksSafe = true
      ∧ (dev .hold []).warnPresent = false ∧ (dev .setup []).Admits (req.write 0x2001 0)
      ∧ (dev .test []).Admits (req.write 0x2001 0) ∧ (dev .test []).get Obj.DIAG_STATE ≠ 1
      ∧ (dev .test []).mode.canSafe = true ∧ (dev .test []).mode ≠ .wake := by decide +kernel

theorem witness_PauseStopAndRelease :
    (dev .write []).Admits (req.write 0x2001 0) ∧ (dev .hold []).Admits (req.write 0x2001 0)
      ∧ (dev .measure []).Admits (req.write 0x2001 0) ∧ (dev .safe []).Admits (req.write 0x2001 0) := by decide +kernel

/-- In WRITE with a job open, the change to HOLD is journalled. -/
theorem witness_ModeChangeIsRecorded :
    (withDeficit (dev .write [])).ledger.job.isSome = true ∧ (withDeficit (dev .write [])).mode = .write
      ∧ (withDeficit (dev .write [])).recorder.queue.length < 1024 := by decide +kernel

theorem witness_DiagnosticsStart :
    let d := { dev .test [(Obj.TEST_LENGTH, 64)] with dram := { StoreState.reset with layout := [0], perRank := 1 } }
    d.Admits (req.write 0xF000 0) ∧ d.get Obj.DIAG_STATE ≠ 1 ∧ d.get Obj.TEST_ADDR % 64 = 0
      ∧ d.get Obj.TEST_LENGTH % 64 = 0 ∧ d.populated (d.get Obj.TEST_ADDR) (d.get Obj.TEST_LENGTH) = true := by decide +kernel

/-- Soak with no part failed passes; with checker 3 of array 0 failed it fails in step 1. -/
theorem witness_SelfTestsComplete :
    let d := { dev .test [] with soaking := true }
    (d.soakSteps ⟨[], [], [], [], [], 0⟩).1 = 0 ∧ (d.soakSteps ⟨[], [⟨12, 0, 3⟩], [], [], [], 0⟩).1 = 1 := by decide +kernel

theorem witness_SelfTestsComplete_keeper :
    let d := dev .test [(Obj.DIAG_STATE, 1), (Obj.LAST, 5)]
    d.soaking = false ∧ d.get Obj.DIAG_STATE = 1 ∧ d.get Obj.LAST = 5 := by decide +kernel

/-- The package of the acceptance tests: 4,096 bytes from address 0 of a store of one page. -/
def offering (n : Nat) : Dev :=
  { armed .ready [(Obj.JOB_STATE, 1), (Obj.JOB_PACKAGE_LENGTH, n)] with
    dram := { StoreState.reset with layout := [0], perRank := 1 } }

theorem witness_JobsAcceptAndClose :
    (dev .ready []).Admits (req.write 0x2014 0) ∧ (dev .ready []).get Obj.JOB_STATE ≠ 1 ∧ (dev .ready []).freePool ≠ []
      ∧ (withDeficit (dev .ready [])).Admits (req.write 0x2016 0) ∧ (withDeficit (dev .ready [])).jobOpen = true := by
  decide +kernel

theorem witness_JobsAcceptAndClose_tests :
    (offering 4096).get Obj.JOB_STATE = 1 ∧ (offering 4096).get Obj.MAP_ON = 0
      ∧ (offering 2097216).populated 0 2097216 = false ∧ (offering 4096).populated 0 4096 = true
      ∧ (offering 4096).moduleBad = false
      ∧ ((offering 4096).offered.fault [] ((offering 4096).get Obj.KLF_VERSION)).isSome = true := by decide +kernel

/-- A port whose IPv4 address is 10.0.0.2, on a link that is up. -/
def netDev : Dev := { dev .setup [(Obj.NET_LINK_STATE 0, 1)] with blobs := [(Obj.NET_IPV4_ADDR 0, [10, 0, 0, 2])] }

theorem witness_NetworkPortAnswers :
    netDev.running = true ∧ netDev.get (Obj.NET_MODE 0) ≠ 2 ∧ netDev.get (Obj.NET_LINK_STATE 0) = 1
      ∧ netDev.vlanOk 0 none = true ∧ netDev.ownAddress 0 false [10, 0, 0, 2] = true
      ∧ netDev.ownAddress 0 false [10, 0, 0, 3] = false := by decide +kernel

/-! ### The host feed -/

/-- A channel that moves 4 KiB from bus address 0x1000 to store address 0x2000. -/
def chan : DmaChannel := { DmaChannel.reset with ctrl := 1, src := 0x1000, dst := 0x2000, len := 4096, total := 4096, half := 2048 }

/-- A device in WRITE, with store pages placed, and a channel 0. -/
def fed (c : DmaChannel) : Dev :=
  let d := (armed .write []).setDma 0 c
  { d with dram := { d.dram with layout := [0, 1], perRank := 1024 } }

/-- A state of that device. -/
def fedSt (c : DmaChannel) : State := { State.reset with dev := fed c }

/-- A channel waits for its page 1. -/
def waiting : DmaChannel := { chan with ctrl := 0x101, wait := some ⟨1, 1, 9000000000, 9000000000, false⟩ }

/-- The first unit of the channel, in flight. -/
def unit0 : DmaUnit := ⟨0x1000, 0x1000, 0x2000, 256, 0, 0x1000, false, false, false, false, []⟩

theorem witness_ChannelControlWrites :
    let on := fed chan
    let idle := fed { chan with ctrl := 0 }
    on.hears = true ∧ (idle.dma 0).enable = false ∧ (idle.dma 0).err = false ∧ idle.hears = true
      ∧ ((fed { chan with ctrl := 0, stat := 2 ^ 15 }).dma 0).err = true ∧ (on.dma 0).enable = true
      ∧ ((fed { chan with ctrl := 3 }).dma 0).paused = true ∧ (on.dma 0).paused = false
      ∧ ((fed { chan with ctrl := 2, held := true }).dma 0).enable = false
      ∧ ((fed { chan with ctrl := 2, held := true }).dma 0).held = true
      ∧ bitAt (setBit 0 0 true &&& ctrlMask) 1 = false ∧ bitAt (setBit 2 0 true &&& ctrlMask) 1 = true := by decide +kernel

theorem witness_ChannelRegisterWrites :
    let c := (fed { chan with fill := 128 }).dma 0
    (fed chan).hears = true ∧ 191 / 64 * 64 ≤ c.fill ∧ c.fill < 192 / 64 * 64
      ∧ ((fed { chan with ctrl := 3 }).dma 0).paused = true ∧ ((fed { chan with ctrl := 0 }).dma 0).busy = false
      ∧ ((fed chan).dma 0).busy = true ∧ ((fed chan).dma 0).paused = false
      ∧ (((fed chan).each [({ offset := 0x1014, value := 3 } : Bar0Write)] fun w d => d.bar0Write w.offset w.value.toNat).dma 0).paused = true
      ∧ bitAt ((fed { chan with nctrl := 1 }).dma 0).nctrl 0 = true ∧ bitAt ((fed chan).dma 0).nctrl 0 = false := by
  decide +kernel

theorem witness_ArbitrationTakesTheHighestPriority : (fed chan).arbitrate = some 0 := by decide +kernel

/-- The device as UNIT_ISSUE finds it once units have retired and translations are requested. -/
def ahead (d : Dev) : Dev := (d.settle []).2.each (List.range 32) fun n d => d.requestAhead n

theorem witness_UnitIssueAdvancesTheActiveSet :
    let d := ahead (fed chan)
    (fed chan).running = true ∧ (fed chan).feed.d3hot = false ∧ d.arbitrate = some 0 ∧ d.outstanding < 2048
      ∧ (d.dma 0).ats = false ∧ d.rangeFault (d.dma 0) (d.dma 0).nextLength = none := by decide +kernel

theorem witness_UnitIssueAdvancesTheActiveSet_ats :
    let d := ahead (((fed { chan with ctrl := 0x101 }).put Obj.ATS_ENABLED 1).onFeed (HostFeed.cacheIn 1 ⟨9, true, false⟩))
    d.running = true ∧ d.feed.d3hot = false ∧ d.arbitrate = some 0 ∧ d.outstanding < 2048 ∧ (d.dma 0).ats = true
      ∧ Map.find d.feed.cache ((d.dma 0).hostSide / 4096) = some ⟨9, true, false⟩ ∧ (d.dma 0).dir = false
      ∧ d.rangeFault (d.dma 0) (d.dma 0).nextLength = none := by decide +kernel

/-- A store range that nothing backs. -/
theorem witness_UnitIssueAdvancesTheActiveSet_range :
    let d := ahead (fed { chan with dst := 2 ^ 40 - 64 })
    d.running = true ∧ d.feed.d3hot = false ∧ d.arbitrate = some 0 ∧ d.outstanding < 2048
      ∧ d.rangeFault (d.dma 0) (d.dma 0).nextLength = some errStoreRange := by decide +kernel

theorem witness_UnitRetiresOrFails :
    let d := fed { chan with units := [unit0] }
    d.running = true ∧ (d.dma 0).units = [unit0] ∧ unit0.up = false ∧ unit0.back = false ∧ unit0.doomed = false
      ∧ (List.replicate 256 (7 : Byte)).length = unit0.len ∧ (d.dma 0).failed = none ∧ (d.dma 0).moved + unit0.len < (d.dma 0).total
      ∧ d.populated unit0.dst unit0.len = true ∧ ((pagesOf unit0.dst unit0.len).all fun p => d.pageTakes p) = true := by
  decide +kernel

/-- The same towards the host, alone and with its page awaiting its refetch. -/
theorem witness_UnitRetiresOrFails_up :
    let d := fed { chan with ctrl := 0x401, units := [{ unit0 with up := true }] }
    let e := { d with dram := { d.dram with awaiting := [0] } }
    d.running = true ∧ (d.dma 0).units = [{ unit0 with up := true }] ∧ d.awaits 0x1000 256 = false ∧ (d.dma 0).failed = none
      ∧ (d.dma 0).moved + 256 < (d.dma 0).total ∧ e.awaits 0x1000 256 = true := by decide +kernel

theorem witness_FailedChannelStopsAtTheUnit :
    let d := fed { chan with failed := some ⟨15, 0x1000, 0x1000, 0x2000, 4096⟩ }
    (d.dma 0).units = [] ∧ (d.dma 0).failed = some ⟨15, 0x1000, 0x1000, 0x2000, 4096⟩ ∧ 15 < 16 := by decide +kernel

theorem witness_TranslationWaitsEnd :
    let d := (fed waiting).onFeed fun f => { f with asked := [5] }
    d.running = true ∧ (d.dma 0).wait = waiting.wait ∧ d.feed.asked.contains 5 = true ∧ d.answeredFor 5 = []
      ∧ d.feed.discard.contains 0 = false := by decide +kernel

/-- PRI_TIMEOUT 100 ms after the Page Request, to the nanosecond. -/
theorem witness_TranslationWaitsEnd_timeout :
    let d := (fed waiting).put Obj.PRI_TIMEOUT 1000
    (d.at 10000000000).running = true ∧ ((d.at 10000000000).dma 0).wait = waiting.wait
      ∧ 9000000000 + (d.at 10000000000).get Obj.PRI_TIMEOUT * 1000000 ≤ (d.at 10000000000).clock.raw := by decide +kernel

theorem witness_TranslationWaitsEnd_discarded :
    let d := (fed waiting).onFeed fun f => { f with discard := [0] }
    d.running = true ∧ (d.dma 0).wait = waiting.wait ∧ d.feed.discard.contains 0 = true := by decide +kernel

theorem witness_LinkEventsAndHostReset :
    let d := fed chan
    d.running = true ∧ (∀ c ∈ d.feed.channels, c.2.units = []) ∧ d.feed.invalidates = [] ∧ d.get Obj.PRI_ENABLED = 0
      ∧ [1, 4, 8, 16].contains 16 = true := by decide +kernel

/-! ### Expansion and press -/

/-- A writing stripe of 300 rows whose tile index lies at store address 0. -/
def stripe0 : Stripe :=
  { uid := 0, kind := 0, sequence := 0, number := 0, src := ⟨0, 0, 0, 300, 2⟩, direction := 0, origin := 1000, ssnBase := 0, entry := 0,
    jobScale := 0x4000, cellCount := 0, vals := [], tabs := [], tol := 64, gains := [], blanked := 0, minus := none, plus := none,
    columns := 0, slot := 0, original := 0, rowOffset := 0, advanced := 0, launched := 0, struck := 0, frozen := 0,
    formed := 0, entered := 0, exited := 0, last := none, armed := false, clipPixels := 0, clipRows := 0, clipMax := 0,
    used := [], begun := 0, spoiled := false }

/-- A device in WRITE with that stripe, and contexts and engines in use. -/
def expanding (ctxs : Map Context) (engines : Map Nat) : Dev :=
  let d := dev .write []
  { d with stripes := [stripe0], nextUid := 1, nextEntry := 300, unfold := { d.unfold with contexts := ctxs, engines := engines } }

/-- Column `c` of the stripe in a state. -/
def column (c state : Nat) : Context := { Context.fresh 0 c with state := state }

/-- A store whose first tile entry is PRED with one block and no data. -/
def predMem : Map Byte := [(16, 3), (17, 1)]

theorem witness_StripeOpens :
    let d := dev .write [(Obj.JOB_STATE, 2), (Obj.JOB_STRIPES, 1)]
    d.running = true ∧ d.get Obj.PAUSE_PENDING = 0 ∧ d.nextOpening = some (0, 0, 0)
      ∧ (d.newStripe [] 0 0 0).ssnBase + (d.newStripe [] 0 0 0).shots ≤ 2 ^ 48
      ∧ (dev .measure [(Obj.MEASURE_SEQUENCE, 1)]).nextOpening = some (2, 0, 8) := by decide +kernel

/-- Two columns are ready with equal deadlines. -/
theorem witness_EnginesTakeUpTheEarliestDeadline :
    let d := expanding [(3, column 3 2), (7, column 7 2)] []
    0 < engineCount (classNum .decoder) ∧ d.holder (classNum .decoder) 15 = none
      ∧ ((d.realUnits (classNum .decoder) []).map Prod.snd).Pairwise (· < ·) ∧ d.bestUnit (classNum .decoder) [] = some 3 := by
  decide +kernel

/-- Column 3 is ready while every decoder is held, decoder 15 by check job 31; then no column is, and check job 0 waits. -/
theorem witness_EnginesTakeUpTheEarliestDeadline_background :
    let job : Context := { Context.fresh 0 0 with serves := .range, state := 3 }
    let d := (expanding [(3, column 3 2), (159, job)] ((List.range 16).map fun n => (engineKey 0 n, if n = 15 then 160 else 1))).put
      (Obj.CHECK_RESULT 31) 1
    let e := (expanding [(128, { job with state := 2 })] []).put (Obj.CHECK_RESULT 0) 1
    d.bestUnit 0 [] = some 3 ∧ d.holder 0 15 = some 159 ∧ d.allHeld 0 = true ∧ d.holdsBackground 159 [] = true
      ∧ ((d.realUnits 0 []).map Prod.snd).Pairwise (· < ·) ∧ e.holder 0 15 = none ∧ e.bestUnit 0 [] = none
      ∧ e.bestBackground [] = some 128 := by decide +kernel

theorem witness_EnginesTakeUpTheEarliestDeadline_stall :
    let d := expanding [(0, column 0 3)] [(engineKey 0 15, 1)]
    d.holder (classNum .decoder) 15 = some 0 ∧ d.ctx 0 = some (column 0 3)
      ∧ d.readsStore 0 (column 0 3) [(12, 4), (16, 3), (17, 1), (28, 4)] = true := by decide +kernel

theorem witness_UnitsReachTheBasket_whole :
    let d := expanding [(0, column 0 3)] [(engineKey 0 15, 1)]
    d.holder (classNum .decoder) 15 = some 0 ∧ d.ctx 0 = some (column 0 3) ∧ d.isCheckJob 0 = false
      ∧ (column 0 3).serves = .tiles
      ∧ ((d.work 0 (column 0 3) []).any fun w => ! w.seam && decide (w.tile.kind = kEmpty)
        && (wholeTile [] 0 w.tile ((w.unit 0 []).through (column 0 3)).data ((w.unit 0 []).through (column 0 3)).a
          ((w.unit 0 []).through (column 0 3)).b 0).isOk) = true := by decide +kernel

theorem witness_UnitsReachTheBasket_pred :
    let d := expanding [(0, column 0 3)] [(engineKey 0 15, 1)]
    ((d.work 0 (column 0 3) predMem).any fun w =>
        let u := (w.unit 0 predMem).through (column 0 3)
        ! w.seam && decide (w.tile.kind = kPred)
          && (match predBlockFrom (column 0 3).resume 256 256 w.tile.blocks u.data 0 0 u.a u.b 0 [] with
            | .error r => decide (r = rUnderrun)
            | .ok _ => false)) = true := by decide +kernel

/-- The same tile with two blocks, the first a row of zeros as the compressor codes it, at byte 1,024. -/
def codedMem : Map Byte :=
  storeWrite [(1024, codeBlock 256 stripe0.src.foldA 0 0 (List.replicate 256 0) [])] [(16, 3), (17, 2), (21, 4), (28, 128)]

set_option maxRecDepth 100000 in
theorem witness_UnitsReachTheBasket_block :
    let d := expanding [(0, column 0 3)] [(engineKey 0 15, 1)]
    ((d.work 0 (column 0 3) codedMem).any fun w =>
        let u := (w.unit 0 codedMem).through (column 0 3)
        ! w.seam && decide (w.tile.kind = kPred)
          && (match predBlockFrom (column 0 3).resume 256 256 w.tile.blocks u.data 0 0 u.a u.b 0 [] with
            | .error _ => false
            | .ok v => decide (v.1 = List.replicate 256 0))) = true := by decide +kernel

/-- A device whose check job 31 of session 3 is in a state, over the first 4,100 bytes of the store. -/
def checking (result state : Nat) : Dev :=
  let d := armed .setup [(Obj.CONTEXT_OWNER 31, 0x0803), (Obj.CHECK_RESULT 31, result), (Obj.CHECK_LENGTH 31, 4100)]
  { d with unfold := { d.unfold with contexts := [(159, column 0 state)], engines := [(engineKey 0 0, 160)] } }

theorem witness_CheckJobsAndRefills :
    let q := req.write (0x4200 + 31) 4
    (checking 0 0).Admits q ∧ (checking 0 0).get (Obj.CONTEXT_OWNER 31) = 0x0800 + q.session
      ∧ (∀ v, v ≤ 4 → (checking 0 0).writeForbidden q.index 4 v = false) ∧ (checking 0 0).checkJobResult 31 = 0
      ∧ (checking 0 0).populated ((checking 0 0).get (Obj.CHECK_ADDR 31)) ((checking 0 0).get (Obj.CHECK_LENGTH 31)) = true
      ∧ (checking 1 3).checkJobResult 31 = 1 ∧ (checking 1 3).ctx 159 = some (column 0 3)
      ∧ (checking 1 1).ctx 159 = some (column 0 1) ∧ (checking 2 4).checkJobResult 31 = 2 := by decide +kernel

/-- The last unit of a check job holds 4 bytes; the one before it holds 4,096. -/
theorem witness_CheckJobsAndRefills_unit :
    let d := checking 1 3
    d.holder (classNum .decoder) 0 = some (128 + 31) ∧ d.ctx (128 + 31) = some (column 0 3) ∧ d.isCheckJob (128 + 31) = true
      ∧ d.get (Obj.CHECK_DONE_BYTES 31) + min 4096 (d.get (Obj.CHECK_LENGTH 31) - 0) < d.get (Obj.CHECK_LENGTH 31)
      ∧ (column 0 3).held ≠ 2 ∧ 4100 ≤ 4096 + min 4096 (4100 - 4096) := by decide +kernel

/-- A context waits for cell 5, which has no block in an empty store. -/
def waitsForCell : Dev :=
  let d := expanding [(0, { column 0 4 with waits := 2, waitCell := 5 })] []
  { d with unfold := { d.unfold with refills := [(5, { Context.fresh 0 0 with serves := .cell 5 })] } }

theorem witness_CheckJobsAndRefills_refill :
    (0, { column 0 4 with waits := 2, waitCell := 5 }) ∈ waitsForCell.unfold.contexts
      ∧ (Map.find waitsForCell.unfold.refills 5).isSome = true ∧ (waitsForCell.cellPackage.cell [] 5).fail = none := by decide +kernel

/-- A device in WRITE whose stripe of one row has every part in the basket. -/
def pressing : Dev :=
  let d := expanding [] []
  let part : Part := ⟨List.replicate 256 0, 0x4000, 0⟩
  { d with stripes := [{ stripe0 with src := ⟨0, 0, 0, 1, 1⟩ }],
           unfold := { d.unfold with parts := (List.range 32).map fun tc => (tc, part) } }

theorem witness_PressFormsRows :
    let p := { stripe0 with src := ⟨0, 0, 0, 1, 1⟩ }
    pressing.nextToForm = some p ∧ (∀ i, i < 1 → pressing.partsReady p i = true ∧ pressing.edgesReady p i = true)
      ∧ min (0 + 32) (p.src.length - 1) + 1 - 0 = 1 ∧ pressing.gridReady p 0 = true ∧ pressing.unfold.queue.length < 32 := by
  decide +kernel

set_option maxRecDepth 100000 in
/-- A grid row of zeros fails its check: the fold of R243 is not zero. -/
theorem witness_PressFormsRows_grid :
    let d := pressing.put Obj.MAP_ON 1
    (d.stripes.find? fun s => s.kind = 0 ∧ s.number = 0).isSome = true ∧ d.get Obj.MAP_ON ≠ 0 ∧ 1 < gridRows 1
      ∧ Map.find d.unfold.grid (gridKey 0 1) = none ∧ gridRowOk 0 1 (List.replicate 264 0) = false
      ∧ d.awaits 264 264 = false
      ∧ gridRowOk 0 1 (le 260 0 ++ le 4 (foldedCheck 0xC0000000 0 1 (List.replicate 260 0))) = true := by decide +kernel

/-! ### Worked examples of 06_expansion and 07_dose_correction -/

/-- The tile row of cells: the row passes at 1,054,687 Hz and fails at 2,000,000 Hz. -/
theorem test_admission_example :
    classShare 0 90 = 442368000000000 ∧ classShare 1 90 = 884736000000000 ∧ classShare 2 90 = 442368000000000
      ∧ admitted 2000000 90 0 1048576 = true ∧ admitted 2000000 90 1 1560576 = true ∧ admitted 2000000 90 2 4194304 = false
      ∧ classShare 2 90 / (100 * 4194304) = 1054687 ∧ admitted 1054687 90 2 4194304 = true
      ∧ admitted 1054688 90 2 4194304 = false := by decide +kernel

/-- The pixel at a feature edge: scaled sample, map factor and target. -/
theorem test_press_example :
    scaledSample 16384 16384 17408 = 17408 ∧ 1485120 / 4225 = 351
      ∧ mapFactor (List.replicate 48 0 ++ [0x3F80, 0x3FC0]) (List.replicate 48 0 ++ [0x3FA0, 0x3FE0]) 3100 5000 = 16288
      ∧ target 17408 19232 16288 0x4000 = 20314 := by decide +kernel

/-! ### Conveyor and dose engines -/

/-- A row of zeros of the stripe. -/
def convRow (y : Nat) : ConvRow :=
  { uid := 0, y := y, number := 0, kind := 0, direction := 0, entrySsn := y, reasons := List.replicate 32 0, uncertain := 0,
    lostWords := 0, planes := List.replicate 16 (List.replicate 512 0) }

/-- Shot `k` of the stripe, launched and struck as given, with segment 0's entry in a state. -/
def shotOf (k : Nat) (launched : Bool) (struck : Option Nat) (half : Half) : Shot :=
  { uid := 0, k := k, ssn := k, advanceAt := 0, launched := launched, blank := false, launchAt := 0, strobeAt := 0,
    waits := false, lanes := [], struck := struck, engines := List.range 64, lvt := { gains := [], direction := 0, blanked := 0 },
    segs := [(0, { codes := [], planes := [some (List.replicate 512 0)], half0 := half, half1 := half })] }

/-- A device in WRITE whose stripe shoots, with rows and shots in the conveyor. -/
def shooting (p : Stripe) (rows : Map ConvRow) (shots : List Shot) : Dev :=
  let d := expanding [] []
  { d with stripes := [p], conv := { d.conv with rows := rows, shots := shots } }

/-- The stripe armed, with some strobes done. -/
def armedStripe (struck : Nat) : Stripe := { stripe0 with armed := true, advanced := struck, launched := struck, struck := struck }

theorem witness_VisitsNeverOverdose :
    (0 : Int) ≤ 30720 ∧ (∀ v ∈ [(0x2000, 32), (0x5FFF, 2), (0x5FFF, 1)], 0 < v.1 ∧ v.1 ≤ 0x5FFF ∧ 1 ≤ v.2) := by decide +kernel

theorem witness_ShotsComputeAndRowsMove_compute :
    let d := shooting (armedStripe 0) [] [{ shotOf 0 false none Half.pending with segs := [] }]
    (d.toCompute 63).isSome = true ∧ (d.stripe? 0).isSome = true ∧ (shotOf 0 false none Half.pending).engine 63 ≠ 0xFF
      ∧ Map.get 0 d.conv.slices 63 ≤ 0 := by decide +kernel

/-- A row is due to leave segment 0 after the strobe of shot 120, and segment 63 after that of shot 8,184. -/
theorem witness_ShotsComputeAndRowsMove_handoff :
    let d := shooting (armedStripe 121) [(0, convRow 0)] []
    let e := shooting (armedStripe 8185) [(slotKey 63 0, convRow 0)] []
    (d.toSend 0).isSome = true ∧ Map.find d.conv.flight 0 = none ∧ (e.toSend 63).isSome = true
      ∧ Map.find e.conv.flight 63 = none ∧ (shooting (armedStripe 120) [(0, convRow 0)] []).toSend 0 = none := by decide +kernel

theorem witness_ShotsComputeAndRowsMove_receive :
    let d := (shooting (armedStripe 121) [(0, convRow 0)] []).onConv fun c => { c with flight := [(0, 1)] }
    Map.find d.conv.flight 0 = some (0 + 1) ∧ d.rowIn 0 0 = some (convRow 0) ∧ d.rowIn 1 0 = none ∧ (convRow 0).y % 128 = 0
      ∧ (convRow 0).lostWords ≤ 0xFFFF ∧ d.conv.landing = []
      ∧ ((d.onConv fun c => { c with rows := [(0, convRow 0), (slotKey 1 0, convRow 128)] }).rowIn 1 0) = some (convRow 128) := by
  decide +kernel

/-- Shot 0 visits row 0 with beam row 0; both lanes report it, alike or not at all. -/
theorem witness_CommitsFollowTheReports_decide :
    let x (a : Option Bool) := shotOf 0 true (some 9999996000) ⟨0, a, a, false, false⟩
    let d (a : Option Bool) := shooting (armedStripe 1) [(0, convRow 0)] [x a]
    ((d (some true)).conv.shots.find? fun y => decide (y.ssn = 0)) = some (x (some true))
      ∧ (d (some true)).stripe? 0 = some (armedStripe 1) ∧ (Map.find (x (some false)).segs 0).isSome = true
      ∧ (x (some true)).struck.isSome = true ∧ (d (some true)).visitedRow (armedStripe 1) 0 0 0 = some (convRow 0)
      ∧ ((d (some true)).conv.shots.map (·.ssn)).Pairwise (· < ·)
      ∧ (∀ y ∈ (d (some true)).conv.shots, ∀ e ∈ y.segs, e.2.half0.done = 0 ∧ e.2.half1.done = 0 ∧ ¬ y.ssn < 0)
      ∧ 9999996000 + 4000 ≤ ((d none).at 10000000000).clock.raw ∧ ((d none).at 10000000000).mode.canSafe = true := by
  decide +kernel

/-- A return frame of lane 7: word 0 with SEQ 9, CUR_SSN 5, sixteen entries, CRC; and its bits on the wire after SOF. -/
def returnBytes : List Byte :=
  let body := le 8 (3 * 2 ^ 60 + 7 * 2 ^ 57 + 9) ++ le 8 5 ++ (List.range 16).flatMap fun _ => le 8 4
  body ++ le 4 (crc32cFrom (0xFFFFFFFF ^^^ (0xA5000000 + 7)) body)
def returnBits : List Bool :=
  stuffBits 0 false (dataBits (returnBytes.take 16) ++ scramble (lineSeed 9 127) (dataBits (returnBytes.drop 16)))

set_option maxRecDepth 20000 in
theorem witness_CommitsFollowTheReports_frames :
    let d := shooting (armedStripe 1) [] []
    d.running = true ∧ receiveReturn 7 (returnBits.take 1000) = none ∧ ((receiveReturn 7 returnBits).map (·.cur)) = some 5
      ∧ (d.rxLane 7).heard + 10000 ≤ 10000000000 ∧ d.clock.raw ≤ 10000000000 := by decide +kernel

/-- Spare 64 has passed its known-answer pass. -/
def passed (d : Dev) : Dev := d.notePass 64

theorem witness_EnginesAndDrain :
    let q := req.write 0x5013 0
    let d := dev .write []
    let all := dev .write [(Obj.ENGINE_STATE 64, 2), (Obj.ENGINE_STATE 65, 2), (Obj.ENGINE_STATE 66, 2), (Obj.ENGINE_STATE 67, 3)]
    d.running = true ∧ d.get (Obj.ENGINE_STATE 67) = 1 ∧ d.Admits q ∧ d.writeForbidden 0x5013 0 (0x0100 + 67) = false
      ∧ d.writeForbidden 0x5013 0 (0x0200 + 67) = false ∧ d.segmentOf 63 = some 63 ∧ d.get (Obj.ENGINE_STATE 63) = 0
      ∧ d.issuing = false ∧ (passed d).spareEngine = some 64 ∧ all.spareEngine = none ∧ d.segmentOf 67 = none
      ∧ 2 ≤ all.get (Obj.ENGINE_STATE 67) ∧ all.blankedSegment = none
      ∧ (dev .write [(Obj.ENGINE_MAP 63, 0xFF)]).blankedSegment = some 63 := by decide +kernel

theorem witness_EnginesAndDrain_repair :
    let d := dev .ready []
    d.Admits (req.write 0x5034 0) ∧ d.writeForbidden 0x5034 0 (63 * 256 + 7) = false ∧ d.spareInUse 63 = false
      ∧ d.rowsOf 63 = [] := by decide +kernel

/-- A stripe whose shots are over, with the last row out. -/
theorem witness_EnginesAndDrain_drain :
    let p := { stripe0 with launched := 8476, struck := 8476, advanced := 8476 }
    let d := shooting p [] []
    d.running = true ∧ d.get Obj.PAUSE_PENDING = 0 ∧ d.draining = some p ∧ d.allDisposed p = true := by decide +kernel

/-! ### Worked examples of 02_exposure_geometry, 08_conveyor_and_dose_engines and 09_beam_link -/

/-- The pixel through its first visits: 31 live visits of gain 1, then 0x4010 at visit 2. -/
theorem test_split_example :
    split 16000 0x4000 31 = (32, 15488) ∧ roundHalfEven 5 2 = 2 ∧ roundHalfEven 7 2 = 4 ∧ split (-3) 0x4000 5 = (0, -3) := by
  decide +kernel

/-- The frame of logical lane 47 at SSN 53,330,764: header, fold and seed. -/
theorem test_frame_example :
    (ShotHead.mk 53330764 0 0 1 0).header 23 1 false = 0x15E38000032DC34C ∧ foldWl 53330764 23 1 = 0x5D2DC34C
      ∧ lineSeed 53330764 47 = 0x3F918E12 ∧ 98074 % 128 = visitSlot 101050 2 := by
  decide +kernel

/-! ### Wyrak Link, module and interlocks -/

/-- A device in SETUP whose lanes are all locked, with logical lane 127 on spare 135. -/
def linked (m : Mode) (objs : Map Nat) : Dev := armed m (objs ++ [(Obj.LANE_MAP 127, 135), (Obj.LANE_STATE 135, 2), (Obj.LANE_STATE 127, 3)])

/-- A device in WRITE that issues shots. -/
def issuing : Dev := { linked .write [] with stripes := [armedStripe 5] }

theorem witness_LanesAreSparedAndRestored :
    let d := linked .write []
    let q := req.write 0x581A 0
    d.running = true ∧ Map.find d.link.patterns 134 = none ∧ d.issuing = false ∧ issuing.issuing = true
      ∧ d.get (Obj.LANE_STATE 134) = 1 ∧ d.Admits q ∧ (d.rxLane 7).removed = false ∧ d.inService 3 = true
      ∧ d.writeForbidden 0x581A 0 (0x0100 + 7) = false ∧ d.writeForbidden 0x581A 0 (0x0200 + 7) = false
      ∧ ((d.setRx 7 ⟨0, 0, 0, true⟩).rxLane 7).removed = true ∧ d.writeForbidden 0x5812 0 (0x01000000 + 0xFF * 256 + 0) = false
      ∧ d.get (Obj.LANE_MAP 0) = 0 ∧ d.switchWaits 0 = false ∧ d.commandSpare 0xFF = some 128 ∧ d.commandSpare 134 = some 134
      ∧ issuing.commandSpare 0xFF = some 128 := by decide +kernel

theorem witness_LanesAreSparedAndRestored_restore :
    let d := linked .write []
    let v := 0x02000000 + 135 * 256 + 127
    let e := d.onLink fun l => { l with restoring := [(v, 9999000000, req.write 0x5812 0)] }
    d.Admits (req.write 0x5812 0) ∧ d.writeForbidden 0x5812 0 v = false ∧ d.get (Obj.LANE_MAP 127) ≠ 127
      ∧ d.switchWaits 127 = false ∧ (d.link.restoring.any fun x => x.1 % 256 = 127) = false
      ∧ (e.at 10000000000).link.restoring = [(v, 9999000000, req.write 0x5812 0)] ∧ v % 256 = 127
      ∧ 9999000000 + 1000000 ≤ (e.at 10000000000).clock.raw ∧ (e.at 10000000000).issuing = false
      ∧ (e.at 10000000000).locked 127 = true
      ∧ ({ e.at 10000000000 with blobs := [] } : Dev).locked 127 = false := by decide +kernel

/-- A bank whose windows abut up to the last step. -/
def waveBank : List Byte :=
  (List.range 64).flatMap (fun c => le 1 (if c = 0 then 0 else 3)) ++ le 2 0 ++ le 2 2000 ++ le 2 2000 ++ le 2 2000 ++ le 24 0

theorem witness_ModuleBanksPatternsAndScans :
    let d := dev .setup [(Obj.LOOPBACK 143, 1)]
    d.Admits (req.write 0x5831 0) ∧ waveBank.length = 96 ∧ d.writeForbidden 0x5831 0 0 = false ∧ 1 ≠ d.get Obj.WAVE_IN_EFFECT
      ∧ 1 ≠ d.get Obj.WAVE_SELECT ∧ bankBad waveBank = false ∧ d.writeForbidden 0x5841 0 1 = false ∧ d.link.reading = false
      ∧ d.jobOpen = false ∧ identityOk [] = false ∧ d.writeForbidden (0x5900 + 143) 1 3 = false ∧ d.patternAllowed 143 = true
      ∧ d.writeForbidden (0x5900 + 143) 3 1 = false ∧ d.get (Obj.LOOPBACK 143) = 1 ∧ d.writeForbidden 0x5880 5 1 = false
      ∧ d.get Obj.SCAN_STATE ≠ 1 ∧ d.samplerBusy (d.get Obj.LANE) = false := by decide +kernel

/-- An identity memory with no dead beams. -/
def identityMem : List Byte :=
  let body := padTo 0x8200 ([0x57, 0x4C, 0x49, 0x44] ++ le 2 0x0100 ++ le 18 0 ++ [2])
  body ++ le 4 (crc32c body)

/-- Bytes with their CRC behind them, the first six as R328 asks, are an identity memory. -/
theorem identityOk_of (b : List Byte) (hl : b.length = 0x8200) (hm : b.take 4 = [0x57, 0x4C, 0x49, 0x44])
    (hv : field b 4 2 = 0x0100) (hc : crc32c b < 2 ^ 32) : identityOk (b ++ le 4 (crc32c b)) = true := by
  have h4 : ∀ v, (le 4 v).length = 4 := fun v => rfl
  have ht : (b ++ le 4 (crc32c b)).take 4 = b.take 4 := List.take_append_of_le_length (by omega)
  have hf : field (b ++ le 4 (crc32c b)) 4 2 = field b 4 2 := by
    unfold field slice
    rw [List.drop_append_of_le_length (by omega), List.take_append_of_le_length (by simp; omega)]
  have hs : slice (b ++ le 4 (crc32c b)) 0 0x8200 = b := by
    unfold slice
    rw [List.drop_zero, ← hl, List.take_left']
    · simp
    · rfl
  have he : field (b ++ le 4 (crc32c b)) 0x8200 4 = crc32c b := by
    unfold field slice
    rw [← hl, List.drop_left', List.take_of_length_le (Nat.le_of_eq (h4 _))]
    · simp only [h4, Nat.sub_self, List.replicate_zero, List.append_nil]
      generalize crc32c b = c at hc
      simp only [le, ofLe, BitVec.toNat_ofNat]
      omega
    · rfl
  simp only [identityOk, ht, hf, hs, he, hm, hv, decide_true, and_self]

theorem witness_ModuleBanksPatternsAndScans_identity : identityOk identityMem = true := by
  refine identityOk_of _ ?_ (by decide +kernel) (by decide +kernel) (crc32c_lt _)
  simp only [padTo, List.length_append, List.length_replicate]
  rfl
theorem witness_InterlocksBlankTheShots :
    let d := dev .write []
    let e := dev .write [(Obj.ILK_STATE, 9), (Obj.ILK_ROLE 3, 4)]
    d.mode ≠ .off ∧ d.mode ≠ .keep ∧ d.get (Obj.ILK_ROLE 0) ≠ 0 ∧ d.bit Obj.ILK_STATE 0 = false ∧ d.jobOpen = false
      ∧ 2048 ≤ d.journalFree ∧ e.bit Obj.ILK_STATE 0 = true ∧ e.get (Obj.ILK_ROLE 3) ≠ 0 ∧ e.bit Obj.ILK_STATE 3 = true
      ∧ (dev .measure []).jobOpen = false ∧ ({ d with blanked := false } : Dev).blanked = false := by decide +kernel

theorem witness_TapInstructionLoad : (dev .write []).running = true ∧ (dev .write []).mode ≠ .safe := by decide +kernel

/-! ### Stage position and shot timing -/

/-- A device in WRITE or another mode with a channel's state, and objects set. -/
def channel (m : Mode) (ch : Nat) (c : Channel) (objs : Map Nat) : Dev := (dev m objs).setChan ch c

/-- A channel that has counted: position 100, angle 100, last sample at 0 ps. -/
def counting : Channel := { Channel.reset with pos := 100, prev := 100, samples := 3, angle := 100 }

/-- From angle 100: the angle 0 is no jump and 8,192 is one. A second sample at half scale leaves the window; a step of both A
and B skips one, and so does Hall state 2 after state 1; the states 0 and 7 are invalid. -/
theorem witness_ChannelsCount_sine :
    let d := channel .setup 0 counting [(Obj.CHAN_MODE 0, 1), (Obj.CHAN_MODE 2, 1), (Obj.CHAN_MODE 3, 2)]
    let e := d.setChan 0 { counting with outside := 1 }
    d.running = true ∧ d.get (Obj.CHAN_MODE 0) = 1 ∧ (d.chan 0).samples ≠ 0 ∧ (d.verdict 0 0 (.sincos 0 16384)).jump = false
      ∧ (d.verdict 0 0 (.sincos 0 (-16384))).jump = true ∧ (d.chan 0).amplitudeNext 0 8192 = false
      ∧ (e.chan 0).amplitudeNext 0 6000 = true ∧ d.bit (Obj.CHAN_STATUS 0) 2 = false
      ∧ ((d.setChan 2 counting).verdict 2 0 (.levels true true false)).skip = true ∧ d.get (Obj.CHAN_MODE 2) = 1
      ∧ ((d.setChan 3 { counting with hall := 1 }).verdict 3 0 (.levels false true false)).skip = true
      ∧ d.get (Obj.CHAN_MODE 3) = 2 ∧ (d.verdict 3 0 (.levels false false false)).invalid = true
      ∧ (d.verdict 3 0 (.levels true true true)).invalid = true ∧ d.bit (Obj.CHAN_STATUS 3) 5 = false
      ∧ (d.chan 0).movedAt + d.get Obj.STANDSTILL_TIME * 1000000000 ≤ 10000000000 := by decide +kernel

/-- The edges of the count's range, and a step of A alone. -/
theorem witness_ChannelsCount_range :
    let at_ (p : Int) := channel .setup 0 { counting with pos := p } [(Obj.CHAN_MODE 0, 1)]
    let x (p : Int) := ((at_ p).chan 0).pos + ((at_ p).chan 0).signed (toSigned 14 (ofSigned 14 ((phaseAngle 0 16384 : Int) - 100)))
    x (-(2 ^ 47) + 100) = -(2 ^ 47) ∧ x (-(2 ^ 47) + 99) < -(2 ^ 47) ∧ x (2 ^ 47 - 1) < 2 ^ 47
      ∧ (placeOf (counting.accept 0 0 (levelsOf true false false)).levels + 4 - placeOf counting.levels) % 4 = 1
      ∧ inRange48 (counting.pos + counting.signed 1) = true := by decide +kernel

theorem witness_ReferencesIndexes_commands :
    let a := dev .setup [(Obj.CHAN_STATUS 0, 1), (Obj.CROSS_STATE, 2)]
    let b := dev .write []
    let c := dev .ready []
    (∀ ch : Fin 10, a.Admits (req.write (0x6010 + ch.val) 8) ∧ a.writeForbidden (0x6010 + ch.val) 8 1 = false
      ∧ a.writeForbidden (0x6010 + ch.val) 8 2 = false)
      ∧ b.Admits (req.write 0x6010 8) ∧ b.get Obj.SHOT_SOURCE = 0 ∧ a.Admits (req.write 0x6030 7) ∧ a.valid 0 = true
      ∧ a.get Obj.CROSS_STATE = 2 ∧ c.Admits (req.write 0x6030 7) ∧ c.valid 0 = false := by decide +kernel

theorem witness_ReferencesIndexes_index :
    let a := channel .write 0 { counting with arming := true } [(Obj.CHAN_MODE 0, 1)]
    let b := channel .write 0 counting [(Obj.CHAN_MODE 0, 1), (Obj.CHAN_STATUS 0, 0x101), (Obj.INDEX_ACTION, 2)]
    a.running = true ∧ a.indexCount 0 64 = some 64 ∧ inRange48 ((a.chan 0).pos + (0 - 64)) = true ∧ inRange48 ((a.chan 0).pos + (2 ^ 47 - 64)) = false ∧ (a.chan 0).arming = true ∧ b.bit (Obj.CHAN_STATUS 0) 8 = true
      ∧ (b.chan 0).arming = false ∧ ((64 : Int) - expectedIndex 0 0 64).natAbs ≤ b.get (Obj.INDEX_TOLERANCE 0)
      ∧ b.get (Obj.INDEX_TOLERANCE 0) < ((65 : Int) - expectedIndex 0 0 65).natAbs ∧ b.get Obj.SHOT_SOURCE = 0
      ∧ b.mode.canSafe = true := by decide +kernel

theorem witness_ReferencesIndexes_disagree :
    let d := (dev .write [(Obj.CHAN_STATUS 0, 1), (Obj.CHAN_STATUS 2, 1), (Obj.CHANNEL, 0), (Obj.CROSS_STATE, 1)]).onStage fun g =>
      { g with disagree := 4 }
    d.crossChannel = some 2 ∧ d.get Obj.CROSS_STATE = 1 ∧ d.get Obj.SAMPLES ≤ d.stage.disagree ∧ d.valid 0 = true
      ∧ d.valid 2 = true ∧ d.mode.canSafe = true := by decide +kernel

/-- A stripe that waits at a position, its source VALID. -/
def awaiting (pos : Int) : Dev :=
  let d := { expanding [] [] with stripes := [stripe0], objs := [(Obj.CHAN_STATUS 0, 0x101)], stage := { Stage.reset with passedFor := 7 } }
  d.setChan 0 { counting with pos := pos }

theorem witness_StripesArm_origin :
    (awaiting (-1)).waitingStripe = some stripe0 ∧ (awaiting (-1)).get Obj.PAUSE_PENDING = 0 ∧ (awaiting (-1)).mode = .write
      ∧ (awaiting (-1)).armedStripe = none ∧ (awaiting (-1)).conveyorEmpty = true ∧ (awaiting (-1)).valid 0 = true
      ∧ (awaiting (-1)).progress stripe0 (-1) < 0 ∧ 0 ≤ (awaiting 1000).progress stripe0 1000
      ∧ (awaiting 1000).stage.passedFor ≠ stripe0.uid ∧ (awaiting (-1)).ledger.overdose = false := by decide +kernel

theorem witness_StripesArm_launch :
    let d := (shooting { stripe0 with armed := true, advanced := 2 } [] [shotOf 0 false none Half.pending]).onStage fun g =>
      { g with now := 1000000, m := 0 }
    let e := shooting { stripe0 with armed := true, advanced := 2, launched := 1 } [] [shotOf 0 true none Half.pending]
    (d.toLaunch).isSome = true ∧ (d.strobeTime { stripe0 with armed := true, advanced := 2 } (shotOf 0 false none Half.pending)).any
        (fun a => decide (a < d.stage.now + d.samplePeriod + d.lead)) = true
      ∧ d.running = true ∧ d.mode ≠ .safe ∧ (e.toStrobe).isSome = true := by decide +kernel

theorem witness_StripesArm_error :
    let d := dev .write []
    (shotOf 0 true none Half.pending).blank = false ∧ d.strobeTol stripe0 < ((1025 : Int).natAbs : Int) * 256 := by
  decide +kernel

theorem witness_StripesArm_reversal :
    let d := (shooting (armedStripe 1) [] []).onStage fun g => { g with m := 5, d := 0 }
    d.reversing = true ∧ d.mode = .write ∧ d.jobOpen = false := by decide +kernel

theorem witness_Probes_edges :
    let d := dev .setup [(Obj.EDGE 1, 1)]
    let f := d.setProbe 1 { queue := List.replicate 16 (0, 0), next := 16, overflowAt := 0 }
    d.running = true ∧ bitAt (d.get (Obj.EDGE 1)) 0 = true ∧ bitAt (d.get (Obj.EDGE 1)) 1 = false
      ∧ (d.probe 1).queue.length < 16 ∧ 16 ≤ (f.probe 1).queue.length ∧ d.Admits (req.write 0x6041 7)
      ∧ d.writeForbidden 0x6041 7 1 = false := by decide +kernel

theorem witness_Compares_fire :
    let d (qual : Nat) (inc : Int) (prev pos : Int) : Dev :=
      channel .setup 0 { counting with prev := prev, pos := pos }
        [(Obj.COMPARE_STATE 0, 1), (Obj.COMPARE_ACTION 0, 2), (Obj.COMPARE_TARGET 0, 50), (Obj.QUALIFIER 0, qual),
         (Obj.INCREMENT 0, ofSigned 64 inc)]
    (d 0 0 40 60).passes 0 = true ∧ (d 1 3 40 60).passes 0 = true ∧ (d 2 (-3) 60 40).passes 0 = true
      ∧ (d 1 3 40 60).geti 64 (Obj.INCREMENT 0) = 3 ∧ (d 2 (-3) 60 40).geti 64 (Obj.INCREMENT 0) = -3
      ∧ ((d 1 3 40 60).compareOut 0).sample ≠ ((d 1 3 40 60).chan 0).samples ∧ (d 1 3 40 60).get (Obj.COMPARE_MISSED 0) < 2 ^ 32
      := by decide +kernel

theorem witness_Compares_behind :
    let d := channel .setup 0 counting [(Obj.COMPARE_ACTION 0, 1), (Obj.QUALIFIER 0, 1), (Obj.IMMEDIATE 0, 1), (Obj.COMPARE_OWNER 0, 0x0100)]
    let e := dev .setup [(Obj.COMPARE_OWNER 0, 0x0603)]
    d.Admits (req.write 0x6050 2) ∧ d.Admits (req.write 0x6050 5) ∧ d.writeForbidden 0x6050 2 100 = false
      ∧ d.writeForbidden 0x6050 5 1 = false ∧ d.writeForbidden 0x6050 5 0 = false ∧ d.get (Obj.COMPARE_ACTION 0) ≠ 0
      ∧ behind 1 (toSigned 64 100) (d.chan 0).pos = true ∧ behind 1 (toSigned 64 101) (d.chan 0).pos = false
      ∧ d.get (Obj.IMMEDIATE 0) = 1 ∧ d.get (Obj.INCREMENT 0) = 0 ∧ d.get (Obj.COMPARE_OWNER 0) = 0x0100
      ∧ e.Admits (req.write 0x6050 5) ∧ e.writeForbidden 0x6050 5 1 = false ∧ e.get (Obj.COMPARE_OWNER 0) ≠ 0 := by
  decide +kernel

theorem witness_Timers :
    let d := dev .setup []
    let e := dev .setup [(Obj.TIMER_OWNER 0, 0x0401), (Obj.TIMER_ENABLE 0, 1), (Obj.TIMER_COUNT 0, 0), (Obj.TIMER_ACTION 0, 1)]
    d.Admits (req.write 0x6060 5) ∧ d.writeForbidden 0x6060 5 1 = false ∧ d.writeForbidden 0x6060 5 0 = false
      ∧ d.free? (Obj.TIMER_OWNER 0) (d.timerOwner 0 3) = true ∧ d.get (Obj.TIMER_ACTION 0) ≠ 1
      ∧ e.free? (Obj.TIMER_OWNER 0) (e.timerOwner 0 3) = false ∧ e.Admits (req.write 0x6060 5)
      ∧ e.get (Obj.TIMER_ENABLE 0) = 1 ∧ e.get (Obj.TIMER_COUNT 0) = 0 ∧ e.get (Obj.TIMER_ACTION 0) = 1 := by decide +kernel

theorem witness_ReturnToSc0_elsewhere :
    (dev .write []).Admits (req.write 0x6030 7) ∧ (dev .write []).mode ≠ .setup ∧ (dev .write []).mode ≠ .ready
      ∧ (dev .write []).mode ≠ .service := by decide +kernel

/-! ### Tracking servo -/

theorem witness_ServoUpdates_timer :
    let d := dev .ready []
    let e := { d with eff := [(Obj.SERVO_ENABLE 0, 1), (Obj.SERVO_ENABLE 1, 1)] }
    d.running = true ∧ d.strobing = false ∧ d.servo.last + d.idlePeriod ≤ 10000000 ∧ 0 < d.servo.last + d.idlePeriod
      ∧ setting d.servoSettings.1 (Obj.SERVO_ENABLE 0) = 0 ∧ setting e.servoSettings.1 (Obj.SERVO_ENABLE 0) ≠ 0
      ∧ setting e.servoSettings.1 (Obj.SERVO_ENABLE 1) ≠ 0 ∧ e.valid (e.servoChannel 1) = false
      ∧ e.geti 32 (Obj.LIMIT_LO 0) ≤ e.geti 32 (Obj.LIMIT_HI 0) := by decide +kernel

theorem witness_ServoUpdates_parts :
    let d := dev .ready []
    d.table [] (Obj.BIQUAD 1 3) 12 = [0, 0x40, 0, 0, 0, 0, 0, 0, 0, 0, 1, 0] ∧ Map.get [] ([] : Map (List Byte)) (Obj.BIQUAD 1 3) = []
      ∧ (d.servo.axis 1).bq.getD 3 (0, 0, 16) = (0, 0, 16) ∧ d.regionOf [] [] 0 40960 = 6
      ∧ d.Admits (req.write 0x6840 6) ∧ d.writeForbidden 0x6840 6 1 = false := by decide +kernel

/-- The worked example of 11_tracking_servo: the integrator after the first update, and g at shot 3,004. -/
theorem test_servo_numbers :
    renorm [209715200] 16 16 = ([6553600], 11, false) ∧ shiftI (8192 * 8350) 15 = 2088
      ∧ termI 0x4000 2 3200 16 = 419430400 ∧ shiftI 629145600 16 = 9600 := by decide +kernel

/-- The default of EXPONENTS: es = 16 of every stage. -/
theorem test_servo_exponents : ServoAxis.reset.exponents = 0x01084210 := by decide +kernel

/-! ### Auxiliary step axes -/

/-- A device in READY whose axis 0 is in a STATE. -/
def stepping (state : Nat) (x : Axis) (objs : Map Nat) : Dev := (dev .ready ((Obj.AXIS_STATE 0, state) :: objs)).setStep 0 x

theorem witness_AxisCommands :
    let d (n : Nat) := stepping n Axis.reset [(Obj.AXIS_TARGET 0, 100), (Obj.TABLE 0, 0)]
    (∀ n : Fin 7, (d n).Admits (req.write 0x7060 2) ∧ (d n).Admits (req.write 0x7060 1)) ∧ (d 1).get (Obj.AXIS_STATE 0) = 1
      ∧ (∀ c : Fin 9, (d 1).writeForbidden 0x7060 2 c = false) ∧ (d 1).writeForbidden 0x7060 1 100 = false
      ∧ (d 1).axisCheckFails 0 3 = false ∧ (d 1).axisCheckFails 0 5 = false ∧ (d 1).axisCheckFails 0 6 = false
      ∧ (stepping 1 { Axis.reset with plus := { Switch.reset with latched := true } } [(Obj.AXIS_TARGET 0, 100)]).axisCheckFails 0 3
        = true := by decide +kernel

theorem witness_AxesMove_ticks :
    let d := stepping 2 { Axis.reset with goal := 0, run := true } []
    let r := d.ramp 0 (d.get (Obj.VMAX 0)) (d.get (Obj.DECEL 0))
    d.running = true ∧ d.get (Obj.JERK 0) = 0 ∧ r.arrives 0 0 = true ∧ velocityUnits 100000 ≤ 109951188992
      ∧ (stepping 1 Axis.reset []).axisMoves 0 = false ∧ (d.stepAxis 0).run = true
      ∧ (d.stepAxis 0).stillAt + 1000000 * d.get (Obj.HOLD_DELAY 0) ≤ 200000000 := by decide +kernel

theorem witness_AxesMove_chopper :
    let d (stage opens : Nat) := stepping 1 { Axis.reset with a := { Phase.reset with stage := stage, opens := opens, shorts := opens, fast := true } } []
    ((d 2 0).stepAxis 0).a.stage = 2 ∧ ((d 1 15).stepAxis 0).a.at_ + 1000 * (d 1 15).get (Obj.MAX_ON 0) ≤ 1000000
      ∧ 16 ≤ ((d 1 15).stepAxis 0).a.opens + 1 ∧ ((d 4 0).stepAxis 0).a.at_ + (d 4 0).get (Obj.FAST_TIME 0) ≤ 1000000
      ∧ ((d 1 15).stepAxis 0).a.at_ + (d 1 15).get (Obj.BLANK_TIME 0) ≤ 1000000 := by decide +kernel

theorem witness_AxesMove_switches :
    let sw : Switch := { Switch.reset with cand := true, count := 20, candPos := 5 }
    let d := stepping 2 { Axis.reset with goal := 16777216, plus := sw } [(Obj.SWITCH_CHANNEL 0, 0)]
    let e := stepping 3 { Axis.reset with vel := -1, home := 2, homeSw := sw } [(Obj.SWITCH_CHANNEL 0, 0)]
    d.running = true ∧ sw.cand ≠ sw.level ∧ d.get (Obj.SWITCH_FILTER 0) ≤ 20 ∧ d.get (Obj.SWITCH_CHANNEL 0) ≤ 7
      ∧ d.heading 0 = 1 ∧ e.homeDir 0 = signOf (-1) := by decide +kernel

/-- R405, R419: full current on one phase at q = 0 and 256; a first tick without JERK reaches ACCEL. -/
theorem test_axis_currents :
    phaseCurrents 1000 0 = (1000, 0) ∧ phaseCurrents 1000 256 = (0, 1000) ∧ phaseCurrents 1000 512 = (-1000, 0)
      ∧ phaseCurrents 1000 (-256) = (0, -1000) ∧ phaseCurrents 1000 128 = (707, 707) := by decide +kernel

/-- R406: H = 100 mA, t_d = 250 ns and an average on time of 5,000 ns give an offset of 5 mA. -/
theorem test_axis_offset : adaptOffset 100 250 5000 = 5 := by decide +kernel

/-! ### Ledger and recovery -/

/-- The cut of a stripe of no rows, before its echoes. -/
def cut0 : Cut := { ssnBase := 0, c := 0, disposed := 0, rowsDone := 0, echoes := [] }

/-- An opening of writing stripe 0, of `n` rows, in set 0. -/
def opened0 (n : Nat) : JournalEntry :=
  { code := 0x0306, job := 0, ssn := 0, body := .event [0, 0, 0, 0] (le 4 0 ++ [0, 0, 0, 0] ++ le 4 n ++ le 4 0 ++ le 8 0) }

/-- A device with an open job whose journal holds entries, and one set. -/
def journalled (m : Mode) (es : List JournalEntry) (objs : Map Nat) : Dev :=
  let d := dev m objs
  let l := Ledger.reset
  let job : OpenJob := { id := 0, headerCrc := 0, offset := 0, length := 0, rate := 1000000, stripes := 1 }
  { d with ledger := { l with job := some job, entries := es, sets := [⟨[], [], 0⟩], gainTables := [[]] } }

theorem witness_Recovery_echoes :
    let d := dev .service [(Obj.RECOVERY_STATE, 1)]
    let e := { d with rescue := { at_ := 0, cut := some cut0, seen := [(0, ⟨5, 5, 0, 0⟩)] } }
    e.rescue.cut = some cut0 ∧ e.get Obj.RECOVERY_STATE = 1 ∧ e.mode = .service ∧ e.clock.raw ≤ 10000000000
      ∧ e.rescue.at_ + e.get Obj.ECHO_WAIT * 1000000 ≤ 10000000000 ∧ cut0.accepts ⟨5, 5, 0, 0⟩ = true := by decide +kernel

/-- A header of zeros ends with a zero CRC, which is not the CRC of its bytes; with its own CRC it passes. -/
theorem witness_Recovery_continue :
    let d := dev .service [(Obj.RECOVERY_STATE, 2)]
    let crc := crc32c (List.replicate 252 0)
    let mem := Map.puts 0 252 (le 4 crc) []
    let j := { d with ledger := { d.ledger with job := some ⟨0, crc, 0, 0, 1000000, 1⟩ } }
    j.Admits (req.write 0x7830 6) ∧ j.writeForbidden 0x7830 6 1 = false ∧ j.get Obj.RECOVERY_STATE = 2
      ∧ field (j.package.bytes mem 0 256) 252 4 = crc ∧ crc32c ((j.package.bytes mem 0 256).take 252) = crc
      ∧ field (j.package.bytes [] 0 256) 252 4 ≠ crc := by decide +kernel

theorem witness_Recovery_done :
    let d := journalled .service [opened0 0] [(Obj.RECOVERY_STATE, 3)]
    let e := { d with rescue := { at_ := 0, cut := some cut0, seen := [] } }
    e.get Obj.RECOVERY_STATE = 3 ∧ e.rescue.cut = some cut0 ∧ (e.ledger.openingAt 0).isSome = true
      ∧ ((e.ledger.openingAt 0).bind fun o => e.replayed [] o).isSome = true := by decide +kernel

/-- A cut mend-pass stripe of 20,000 rows: without an echo, 8,192 of them may have entered S0. -/
theorem witness_Recovery_unstarted :
    let o : JournalEntry := { code := 0x0306, job := 0, ssn := 0, body := .event [0, 1, 0, 0] (le 4 0 ++ [1, 0, 0, 0] ++ le 4 20000) }
    let d := journalled .service [o] [(Obj.RECOVERY_STATE, 3)]
    let m : MendStripe := { number := 0, pass := 1, original := 0, first := 0, direction := 0, origin := 0, src := ⟨0, 0, 0, 20000, 79⟩, opened := true }
    let e := { d with ledger := { d.ledger with mends := [m] } }
    ((e.ledger.openingAt 0).bind fun o => e.replayed [] o).any (fun p =>
      decide (max (min (cut0.lastShot - cut0.ssnBase + 1) p.src.length) cut0.rowsDone < p.src.length)) = true := by
  decide +kernel

theorem witness_Decisions :
    let d := journalled .ready [] []
    let e := dev .ready []
    d.Admits (req.write 0x7803 0) ∧ d.jobOpen = true ∧ d.mode = .ready ∧ e.Admits (req.write 0x7803 0) ∧ e.jobOpen = false := by
  decide +kernel

theorem witness_DeficitMap :
    let d := journalled .ready [opened0 0] [(Obj.DMAP_LENGTH, 64)]
    let e := (d.put Obj.DMAP_STATE 1).onUnfold fun u => { u with map := some 31 }
    d.Admits (req.write 0x7840 5) ∧ d.writeForbidden 0x7840 5 1 = false ∧ d.get Obj.DMAP_STATE ≠ 1 ∧ d.jobOpen = true
      ∧ d.stripes = [] ∧ e.dmapContext.isSome = true ∧ ((e.deficitMap []).map List.length) = some 64
      ∧ (e.put Obj.DMAP_LENGTH 0).get Obj.DMAP_LENGTH < 64 ∧ ((dev .ready []).deficitMap []) = none := by decide +kernel

theorem witness_DeficitMap_populated :
    let d := armed .ready []
    d.populated 0 64 = true := by decide +kernel

theorem witness_MendRaster :
    let d := journalled .mend [] [(Obj.BUILD_STATE, 1), (Obj.AREA_LENGTH, 64)]
    d.get Obj.BUILD_STATE = 1 ∧ d.mode = .mend ∧ d.mendable = [] ∧ 2048 ≤ d.journalFree
      ∧ (d.buildGroups [] 0 0 [⟨0, 1, 0, []⟩]).length = 1 := by decide +kernel

/-! ### Layout store and on-chip memory -/

/-- A device whose store has ranks A0 and B0 in service, M0 spare, 1,024 pages each. -/
def banked (m : Mode) (objs : Map Nat) : Dev :=
  let d := dev m ([(Obj.STORE_STATE, 2), (Obj.RANK_ROLE 0 0, 1), (Obj.RANK_ROLE 0 1, 1), (Obj.RANK_ROLE 1 0, 1),
    (Obj.RANK_ROLE 11 0, 2)] ++ objs)
  { d with dram := { StoreState.reset with layout := [0, 4], spares := [44], perRank := 1024 } }

/-- A device with an open job whose package is the first 4 MiB of the store. -/
def packaged (d : Dev) : Dev := { d with ledger := { d.ledger with job := some ⟨0, 0, 0, 4194304, 1000000, 1⟩ } }

/-- The store of R488's example: 23 ranks of 32 Gb devices, in the order of R467. -/
def example23 : StoreState := { StoreState.reset with layout := rankOrder.take 23, perRank := 32768 }

/-- R488's example: page 37,282 is physical page 1,620 of rank L1. -/
theorem test_entry_L1 : example23.entry 37282 = 0xD340C800 := by decide +kernel

/-- R488's example: the lost page took physical page 0 of M1 and awaits its data. -/
theorem test_entry_M1 :
    { example23 with remap := [(37282, some (32768 * 45))], awaiting := [37282] }.entry 37282 = 0xDA000001 := by decide +kernel

/-- R479's example. -/
theorem test_rtBound :
    { example23 with timing := [52, 52, 52, 103, 1312, 12480, 48, 32, 24, 40, 16, 16, 24] }.rtBound = 1685 := by decide +kernel

theorem witness_DefaultLayout :
    37282 < storePages ∧ example23.remap = [] ∧ 0 < example23.layout.length
      ∧ 37282 / example23.layout.length < example23.perRank ∧ example23.layout.getD (37282 % example23.layout.length) 0 < 48 := by
  decide +kernel

theorem witness_StoreCommands :
    let d := banked .setup []
    let v := 0x02000000 + 0 * 256 + 0
    d.Admits (req.write 0x8003 0) ∧ d.mode = .setup ∧ d.jobOpen = false ∧ d.get Obj.STORE_STATE ≠ 1
      ∧ (d.put Obj.STORE_STATE 1).get Obj.STORE_STATE = 1 ∧ (banked .ready []).Admits (req.write 0x8003 0)
      ∧ d.writeForbidden 0x8003 0 v = false ∧ d.role 0 = 1 ∧ d.role 1 = 1
      ∧ ({ d with dram := { d.dram with layout := [0], perRank := 1 } } : Dev).dram.pagesOn 0 ≠ [] ∧ d.dram.pagesOn 1 = [] := by
  decide +kernel

theorem witness_StoreInit :
    let d := banked .setup [(Obj.STORE_STATE, 1)]
    d.mode ≠ .wake ∧ (dev .setup [(Obj.STORE_STATE, 1)]).get Obj.STORE_STATE = 1 ∧ d.dram.dirty = false ∧ d.dram.perRank ≠ 0
      ∧ ({ d with dram := { d.dram with dirty := true } } : Dev).dram.dirty = true := by decide +kernel

theorem witness_RefetchDone :
    let d := banked .write []
    let e := { d with dram := { d.dram with refetch := [7], awaiting := [7] } }
    e.Admits (req.write 0x8040 5) ∧ e.writeForbidden 0x8040 5 7 = false ∧ e.dram.refetch.contains 7 = true
      ∧ e.dram.refetch.contains 8 = false := by decide +kernel

theorem witness_PageMigration :
    let d := banked .write [(Obj.RANK_ROLE 0 0, 3)]
    let e := { d with dram := { d.dram with layout := [0], perRank := 1, retiring := [0] } }
    e.running = true ∧ (e.put Obj.STORE_STATE 2).get Obj.STORE_STATE = 2 ∧ e.migrating = some (0, 0)
      ∧ e.freePage = some (32768 * 44) ∧ e.feed.channels = [] := by decide +kernel

theorem witness_StoreReadComplete :
    let d := expanding [(0, column 0 1)] []
    let c := column 0 1
    let v := d.readRange 0 (predMem ++ [(29, 16)])
    d.running = true ∧ d.isCheckJob 0 = false ∧ d.ctx 0 = some c ∧ c.state = 1 ∧ c.serves = .tiles ∧ 0 < v.2
      ∧ d.awaits v.1 v.2 = false ∧ v.1 ≤ v.1 / 64 * 64 + 63 ∧ v.1 / 64 * 64 < v.1 + v.2 := by decide +kernel

theorem witness_Refetched :
    let c := { column 0 1 with state := 4, waits := 1, pages := [7] }
    let d := expanding [(0, c)] []
    d.ctx 0 = some c ∧ (∀ e ∈ d.unfold.contexts, e.1 = 0 → e.2 = c) ∧ 7 ∈ c.pages ∧ (∀ x ∈ c.pages, x = 7)
      ∧ (∃ x ∈ ({ c with pages := [7, 8] } : Context).pages, x ≠ 7) := by decide +kernel

theorem witness_CommandError :
    let d := banked .write []
    let e := { d with dram := { d.dram with commandError := [(0, 9999999001)] } }
    d.running = true ∧ Map.get 0 d.dram.commandError 0 = 0 ∧ Map.get 0 e.dram.commandError 0 ≠ 0
      ∧ e.clock.raw + 1 < Map.get 0 e.dram.commandError 0 + 1000000 ∧ e.role 0 = 1 := by decide +kernel

theorem witness_Patrol :
    let d := packaged (banked .write [(Obj.RETIRE_CORRECTED, 0)])
    d.running = true ∧ d.get Obj.PATROL_HOURS ≠ 0 ∧ d.neededPage 1 [] = true ∧ d.dram.physical 1 = some (32768 * 4)
      ∧ 2097152 / pageBytes = 1 ∧ d.get Obj.RETIRE_CORRECTED = 0 ∧ d.role 4 = 1 := by decide +kernel

theorem witness_RefreshAndPoll :
    let d := banked .write []
    let e := { d with dram := { d.dram with debt := [(0, d.get Obj.POSTPONE_LIMIT)], doubled := [0] } }
    d.rankUp 0 = true ∧ Map.get 0 d.dram.debt 0 + 1 ≤ d.get Obj.POSTPONE_LIMIT ∧ e.rankUp 0 = true
      ∧ e.get Obj.POSTPONE_LIMIT < Map.get 0 e.dram.debt 0 + 1 ∧ d.dram.doubled.contains 0 = false
      ∧ e.dram.doubled.contains 0 = true ∧ d.rankAsked true 0 [] = false ∧ d.rankAsked false 0 [] = false ∧ (d.put Obj.IDLE_PD 1).get Obj.IDLE_PD ≠ 0
      ∧ (d.put Obj.IDLE_PD 0).get Obj.IDLE_PD = 0 := by decide +kernel

theorem witness_CheckersAndRinse :
    let d := dev .test []
    let e := dev .write []
    d.Admits (req.write 0x8830 0) ∧ d.mode = .test ∧ e.Admits (req.write 0x8830 0) ∧ e.running = true
      ∧ e.get Obj.RINSE_ON ≠ 0 ∧ hasInstance 0 63 = true ∧ hasInstance 4 1 = true ∧ hasInstance 14 0 = true := by decide +kernel

/-! ### Time -/

/-- A device in WRITE that follows master 7 on NET0, RAW at 10 s. -/
def timed (objs : Map Nat) (f : Clock → Clock) : Dev :=
  let d := dev .write (objs ++ [(Obj.PORT_STATE, 9)])
  let m : ForeignMaster := { port := 0, data := ⟨128, 6, 0x21, 0, 128, 7, 0, 37⟩, at_ := 9999000000, heard := 2 }
  { d with clock := f { d.clock with masters := [m], delaySeq := 4, pdelaySeq := 5 } }

/-- A message header of that master. -/
def hdr (n : Nat) : Ptp :=
  { port := 0, carrier := ⟨0, none, [0x01, 0x1B, 0x19, 0, 0, 0], 0⟩, domain := 0, source := 7, requester := Config.clockIdentity,
    sequence := n, correction := 0, raw := 10000000000 }

/-- The same to the address of peer delay messages. -/
def peer (n : Nat) : Ptp := { hdr n with carrier := ⟨0, none, [0x01, 0x80, 0xC2, 0, 0, 0x0E], 0⟩ }

/-- R516's example: at θ = +60 ns with KP 0x2000, KI 0x0100 and Sync every 125 ms, p is −60 ppb. -/
theorem test_servo_60ns :
    let d := (timed [(Obj.SERVO_STATE, 2)] id).clockServo 10000000000 (60 * 65536) 125000000
    d.clock.ii = -527765 ∧ d.clock.rho = -527765 - 16888498 := by decide +kernel

/-- R515's example: 725 ns beyond the baseline of 1,850 ns is above the threshold of 200 ns; the third such sample holds. -/
theorem test_path_change :
    let d := timed [(Obj.SERVO_STATE, 2), (Obj.BASELINE, 1850 * 65536)] fun c => { c with baselineSet := true }
    let sample (d : Dev) := d.delaySample 10000000000 (2575 * 65536)
    (sample d).get Obj.SERVO_STATE = 2 ∧ (sample (sample d)).get Obj.SERVO_STATE = 2
      ∧ (sample (sample (sample d))).get Obj.SERVO_STATE = 4 ∧ (sample (sample (sample d))).get Obj.PATH_CHANGES = 1 := by
  decide +kernel

theorem witness_Sync :
    let d := (timed [] id).at 10000000000
    let e := (timed [(Obj.SERVO_STATE, 2)] fun c => { c with waiting := some (7, 3, 0, 0, 125000000) }).at 10000000000
    let f := (timed [(Obj.SERVO_STATE, 3)] fun c => { c with sampleValid := false }).at 10000000000
    d.forPtp true false (hdr 3) = true ∧ d.fromMaster (hdr 3) = true ∧ d.clock.sampleValid = true ∧ d.get Obj.SERVO_STATE = 0
      ∧ e.forPtp false false (hdr 3) = true ∧ e.fromMaster (hdr 3) = true ∧ e.get Obj.SERVO_STATE = 2
      ∧ e.clock.waiting = some (7, 3, 0, 0, 125000000) ∧ f.fromMaster (hdr 3) = true ∧ f.clock.sampleValid = false
      ∧ f.get Obj.SERVO_STATE = 3 := by decide +kernel

theorem witness_DelaySamples :
    let d := (timed [(Obj.SERVO_STATE, 2)] fun c => { c with baselineSet := true, jumps := 2 }).at 10000000000
    let e := (timed [(Obj.DELAY_MECHANISM, 2)] id).at 10000000000
    d.forPtp false false (hdr 4) = true ∧ d.get Obj.SERVO_STATE ≠ 4 ∧ d.fromMaster (hdr 4) = true ∧ d.get Obj.DELAY_MECHANISM = 1
      ∧ (hdr 4).sequence = d.clock.delaySeq ∧ d.clock.baselineSet = true ∧ d.clock.jumps = 2
      ∧ (0 - d.geti 64 Obj.BASELINE).natAbs ≤ d.get Obj.CHANGE_THRESHOLD * 65536
      ∧ d.get Obj.CHANGE_THRESHOLD * 65536 < (201 * 65536 - d.geti 64 Obj.BASELINE).natAbs
      ∧ e.forPtp true true (peer 5) = true ∧ e.get Obj.DELAY_MECHANISM = 2 ∧ (peer 5).sequence = e.clock.pdelaySeq := by decide +kernel

theorem witness_HoldsAndSwitch :
    let d := (timed [(Obj.SERVO_STATE, 2)] fun c => { c with masters := [] }).at 10000000000
    let e := timed [(Obj.SERVO_STATE, 4), (Obj.HOLD_TIME, 1000)] fun c => { c with holdAt := 9000000000, holdSamples := [(9900000000, 65536)] }
    d.running = true ∧ d.get Obj.SERVO_STATE = 2 ∧ d.qualified 10000000000 0 = [] ∧ d.qualified 10000000000 1 = []
      ∧ (e.at 10000000000).get Obj.SERVO_STATE = 4
      ∧ (e.at 10000000000).clock.holdAt + (e.at 10000000000).get Obj.HOLD_TIME * 1000000 ≤ 10000000000
      ∧ ((e.at 10000000000).clock.holdSamples.filter fun x =>
          decide ((e.at 10000000000).clock.holdAt + (e.at 10000000000).get Obj.HOLD_TIME * 1000000 * 3 / 4 ≤ x.1)).map Prod.snd
          = [65536]
      ∧ (d.put (Obj.NET_LINK_STATE 0) 0).get (Obj.NET_LINK_STATE (d.get Obj.ACTIVE_PORT)) = 0 := by decide +kernel

theorem witness_StepAgain :
    (dev .setup []).Admits (req.write 0x9003 0) ∧ (dev .setup []).jobOpen = false ∧ (dev .write []).Admits (req.write 0x9003 0)
      ∧ (dev .write []).mode ≠ .setup ∧ (dev .write []).mode ≠ .test := by decide +kernel

theorem witness_Messages :
    let d := (timed [(Obj.DELAY_MECHANISM, 2), (Obj.PORT_STATE, 6)] id).at 10000000000
    let e := (timed [(Obj.PORT_STATE, 6)] id).at 10000000000
    let f := (timed [] id).at 10000000000
    d.forPtp true true (peer 0) = true ∧ d.get Obj.DELAY_MECHANISM = 2 ∧ e.forPtp true false (hdr 0) = true ∧ e.ptpAddressed false false (hdr 0) = true ∧ e.get Obj.DELAY_MECHANISM = 1
      ∧ e.get Obj.PORT_STATE = 6 ∧ f.running = true ∧ f.get Obj.PORT_STATE = 9 ∧ f.get Obj.DELAY_MECHANISM = 1 := by decide +kernel

theorem witness_Captures :
    let d := (timed [(Obj.PROBE_SELECT, 1), (Obj.ILK_SELECT, 8)] id).at 10000000000
    let r : CaptureRecord := ⟨0, 0, 0, 0, 0, 0, 0, 0⟩
    let e := (timed [] fun c => { c with captures := List.replicate 256 r }).at 10000000000
    d.running = true ∧ d.bit Obj.PROBE_SELECT 0 = true ∧ d.bit Obj.ILK_SELECT 3 = true ∧ d.clock.captures.length < 256
      ∧ 256 ≤ e.clock.captures.length ∧ d.bit Obj.PROBE_SELECT 1 = false
      ∧ (timed [] id).Admits (req.write 0x9032 0) ∧ (timed [] id).writeForbidden 0x9032 0 1 = false := by decide +kernel

theorem witness_LaunchCommands :
    let d := timed [(Obj.LAUNCH_LENGTH 63, 60), (Obj.TIME_NS 63, 20000000000)] id
    d.Admits (req.write 0x907F 7) ∧ d.writeForbidden 0x907F 7 1 = false ∧ 60 ≤ d.get (Obj.LAUNCH_LENGTH 63)
      ∧ d.get (Obj.LAUNCH_LENGTH 63) ≤ 1536 ∧ d.bit (Obj.LAUNCH_FLAGS 63) 0 = false
      ∧ d.txTime (d.get (Obj.LAUNCH_PORT 63)) d.clock.raw / 65536 ≤ d.get (Obj.TIME_NS 63)
      ∧ d.get (Obj.LAUNCH_LENGTH 0) < 60 := by decide +kernel

theorem witness_ScheduledLaunch :
    let at_ (objs : Map Nat) : Dev :=
      (timed (objs ++ [(Obj.LAUNCH_STATUS 0, 1), (Obj.LAUNCH_LENGTH 0, 60), (Obj.TIME_NS 0, 10000000000)]) id).at 10000000000
    let late := (timed [(Obj.LAUNCH_STATUS 0, 1), (Obj.NET_LINK_STATE 0, 1)] id).at 10000000000
    let up := at_ [(Obj.NET_LINK_STATE 0, 1)]
    up.running = true ∧ up.get (Obj.LAUNCH_STATUS 0) = 1 ∧ up.launchBehind 0 = false
      ∧ ((up.get (Obj.TIME_NS 0) : Int)) * 65536 ≤ up.txTime 0 10000000000 + 419430
      ∧ up.txTime 0 10000000000 ≤ (up.get (Obj.TIME_NS 0) : Int) * 65536 + 419430 ∧ up.get (Obj.NET_LINK_STATE 0) ≠ 0
      ∧ (at_ []).get (Obj.NET_LINK_STATE 0) = 0 ∧ up.get (Obj.NET_MODE 0) ≠ 1
      ∧ (late.get (Obj.TIME_NS 0) : Int) * 65536 + 419430 < late.txTime 0 10000000000
      ∧ late.launchBehind 0 = false ∧ late.bit (Obj.LAUNCH_FLAGS 0) 1 = false
      ∧ (late.put (Obj.LAUNCH_FLAGS 0) 2).bit (Obj.LAUNCH_FLAGS 0) 1 = true := by decide +kernel

/-! ### Recorder, calibration and firmware -/

/-- A record. -/
def rec0 : EventRecord := { seq := 0, code := 0x0201, source := 0, time := 0, params := [4, 5, 1, 0] }

/-- A recorder whose queue holds one record and whose areas hold some. -/
def recorded (m : Mode) (first start ring : Nat) : Dev :=
  let d := dev m []
  let r : Recorder := ⟨[rec0], 3, 0x0201, List.replicate first rec0, List.replicate start rec0, List.replicate ring rec0⟩
  { d with recorder := r }

theorem witness_Record :
    let d := recorded .test 0 0 0
    d.mode ≠ .off ∧ d.recorder.queue = [rec0] ∧ d.recorder.first.length < 8192 ∧ d.startPhase = true
      ∧ d.recorder.start.length < 8192 ∧ (recorded .write 0 0 0).startPhase = false ∧ d.recorder.ring.length < 49152
      ∧ 0 < d.recorder.dropped ∧ d.recorder.queue.length < 1024 := by decide +kernel

theorem witness_Record_full :
    8192 ≤ (recorded .test 8192 8192 0).recorder.first.length ∧ 8192 ≤ (recorded .test 8192 8192 0).recorder.start.length
      ∧ 49152 ≤ (recorded .write 8192 0 49152).recorder.ring.length :=
  ⟨by show 8192 ≤ (List.replicate 8192 rec0).length; exact Nat.le_of_eq List.length_replicate.symm,
   by show 8192 ≤ (List.replicate 8192 rec0).length; exact Nat.le_of_eq List.length_replicate.symm,
   by show 49152 ≤ (List.replicate 49152 rec0).length; exact Nat.le_of_eq List.length_replicate.symm⟩

theorem witness_RecorderClear :
    (dev .setup []).Admits (req.write 0xA002 0) ∧ (dev .setup []).jobOpen = false ∧ (dev .write []).Admits (req.write 0xA002 0)
      ∧ (dev .write []).mode ≠ .setup := by decide +kernel

theorem witness_ThresholdCounters :
    let d := dev .write [(Obj.THR_ENABLE 63, 1), (Obj.THR_SOURCE 63, 0xD)]
    let k := Obj.THRESHOLD_OWNER 63
    d.get (Obj.THR_ENABLE 63) ≠ 0 ∧ d.occupancy 0xD 0 = some 0 ∧ d.Admits (req.write (0xA810 + 63) 4)
      ∧ d.writeForbidden (0xA810 + 63) 4 1 = false ∧ d.get k = 0 ∧ (d.put k 0x0903).get k = 0x0903
      ∧ (d.put k 0x0904).get k ≠ 0 ∧ (d.put k 0x0904).get k ≠ 0x0903 := by decide +kernel

/-- R540: an occupancy of 1 above N = 0 counts every cycle of the 1.6 GHz clock: 16 in 10 ns. -/
theorem test_threshold_counts :
    let d := dev .write [(Obj.THR_ENABLE 0, 1), (Obj.THR_SOURCE 0, 5)]
    let e := ({ d with dram := { d.dram with debt := [(0, 1)] } } : Dev).advance 10
    e.get (Obj.ELAPSED 0) = 16 ∧ e.get (Obj.THR_COUNT 0) = 16 := by decide +kernel

theorem witness_TagRelease :
    (dev .write []).Admits (req.write 0xA862 0) ∧ (dev .write []).writeForbidden 0xA862 0 7 = false := by decide +kernel

/-- R549's example: SC0 after a rise of 9 °C, with sums that give its means, variances and covariance. -/
theorem test_lissajous :
    lissajousTrims (List.replicate 32 0) { n := 1, x := 98, y := -41, xx := 98 * 98 + 128000000, yy := 41 * 41 + 135200000,
                                           xy := -(98 * 41) - 1646000, travel := 0 }
      = padTo 32 (le 2 (ofSigned 16 (-98)) ++ le 2 41 ++ le 2 (ofSigned 16 (-111)) ++ le 2 (ofSigned 16 (-205))) := by
  decide +kernel

theorem witness_CalCommands :
    let d := dev .write []
    d.Admits (req.write 0xB002 0) ∧ d.writeForbidden 0xB002 0 0x010B = false ∧ d.get (Obj.CAL_STATE 11) ≠ 2
      ∧ (d.put (Obj.CAL_STATE 0) 2).get (Obj.CAL_STATE 0) = 2 := by decide +kernel

theorem witness_CalRuns :
    let d := dev .write [(Obj.CAL_STATE 11, 1)]
    let e := dev .write [(Obj.CAL_STATE 0, 2), (Obj.CAL_STATE 11, 2), (Obj.RUN_LIMIT, 10)]
    d.running = true ∧ d.mode ≠ .safe ∧ d.calReady 11 = true ∧ (List.range 12).all (fun i => d.get (Obj.CAL_STATE i) ≠ 2) = true
      ∧ e.get (Obj.CAL_STATE 0) = 2 ∧ calFits 0 1 { n := 2, x := 0, y := 0, xx := 2, yy := 2, xy := 0, travel := -16384 } .lissajous = true ∧ e.get (Obj.CAL_STATE 11) = 2
      ∧ calFits 11 1 CalSums.zero (.reference []) = true ∧ e.calSensed 11 = true ∧ (e.at 10000000000).get (Obj.CAL_STATE 0) = 2
      ∧ ((e.at 10000000000).cal 0).startedAt + (e.at 10000000000).get Obj.RUN_LIMIT * 1000000000
          ≤ (e.at 10000000000).clock.raw := by decide +kernel

theorem witness_CalApplied :
    let d := dev .write [(Obj.CAL_STATE 2, 3)]
    let c : CalChannel := { CalChannel.reset with next := some ⟨[1], 410, 0, false⟩ }
    let e : Dev := { d with service := { d.service with cal := [(0, c), (2, c), (10, c)] } }
    e.running = true ∧ (e.cal 2).next = some ⟨[1], 410, 0, false⟩ ∧ (e.cal 0).next.isSome = true ∧ e.armedStripe = none
      ∧ (e.rxLane 0).bad = 0 ∧ e.get (Obj.CAL_STATE 2) = 3 := by decide +kernel

theorem witness_Firmware :
    let d := dev .write [(Obj.SLOT_B_STATE, 2)]
    let e := expanding [] []
    d.Admits (req.write 0xB022 0) ∧ d.writeForbidden 0xB022 0 1 = false ∧ d.get Obj.ACTIVE_SLOT < 2
      ∧ d.get (slotKeyFw d.fwSpare) = 2 ∧ d.stripes = [] ∧ (e.put Obj.SLOT_B_STATE 2).stripes ≠ []
      ∧ (e.put Obj.SLOT_B_STATE 2).Admits (req.write 0xB022 0) ∧ (d.put Obj.SLOT_B_STATE 4).get (slotKeyFw d.fwSpare) = 4
      ∧ (dev .write []).get (slotKeyFw (dev .write []).fwSpare) ≠ 2 ∧ d.Admits (req.write 0xB020 4)
      ∧ d.writeForbidden 0xB020 4 0 = false := by decide +kernel

theorem witness_FirmwarePart : (List.replicate 1048576 (0 : Byte)).length = 1048576 := List.length_replicate ..

theorem witness_FirmwareChange :
    let d := dev .write []
    let e : Dev := { d with service := { d.service with change := some (9000000000, 0) } }
    e.service.change = some (9000000000, 0) ∧ 9000000000 + 100000000 ≤ (e.at 10000000000).clock.raw := by decide +kernel

theorem witness_Record_dropped : 1024 ≤ ({ dev .write [] with
    recorder := ⟨List.replicate 1024 rec0, 0, 0, [], [], []⟩ } : Dev).recorder.queue.length := by decide +kernel

/-! ### Power, resets and the keeper -/

/-- A device whose keeper is out of standby. -/
def powered (m : Mode) (objs : Map Nat) (f : Keeper → Keeper) : Dev :=
  let d := dev m objs
  { d with keeper := f { d.keeper with standby := false } }

/-- Every main rail below RESET. -/
def down : Map Nat := (List.range 9).map fun r => (Obj.RAIL_STATE r, 2)

theorem witness_Rails :
    let d := powered .write [] id
    d.mode ≠ .off ∧ d.keeper.standby = false ∧ d.get (Obj.RAIL_STATE 9) = 0 ∧ d.jobOpen = false
      ∧ (d.put (Obj.RAIL_STATE 9) 1).get (Obj.RAIL_STATE 9) ≠ 0 := by decide +kernel

theorem witness_PwrFail :
    let d := powered .write [] id
    let e := powered .write [] fun k => { k with pwrFailLow := true }
    d.mode ≠ .off ∧ d.keeper.standby = false ∧ d.keeper.pwrFailLow = false ∧ e.keeper.pwrFailLow = true
      ∧ e.keeper.pwrFailWarn = false := by decide +kernel

theorem witness_Sentinel :
    let d := powered .keep (down ++ [(Obj.ILK_ROLE 3, 1)]) id
    let e := powered .keep (down ++ [(Obj.ILK_ROLE 3, 1)]) fun k => { k with standby := true, sampled := 8 }
    let v : SentinelInputs := ⟨8, false, false, false, []⟩
    d.mode = .keep ∧ d.railsDown = true ∧ e.keeper.standby = true ∧ e.get (Obj.ILK_ROLE 3) ≠ 0
      ∧ bitAt e.keeper.sampled 3 = bitAt (sampleWord v) 3 ∧ d.keeper.standby = false
      ∧ (powered .keep [] id).railsDown = false := by decide +kernel

theorem witness_MainReleased :
    (powered .keep [] id).mayWake true = true ∧ (powered .write [] id).mayWake true = false := by decide +kernel

theorem witness_Clocks :
    let d := powered .write [(Obj.CRYSTAL, 1)] id
    d.mode ≠ .off ∧ d.get Obj.CRYSTAL ≠ 0 ∧ (d.put Obj.CRYSTAL 0).get Obj.CRYSTAL = 0 ∧ d.running = true := by decide +kernel

theorem witness_DieTemp :
    let d := powered .write [] id
    d.running = true ∧ d.keeper.standby = false ∧ (410 : Int) ≤ 830 ∧ (410 : Int) < 10 * (d.get Obj.TEMP_SHUTDOWN : Int) := by
  decide +kernel

theorem witness_Resets :
    let d := powered .setup [(Obj.PWR_FAIL_ACTION, 1)] fun k => { k with pwrFailLow := true }
    d.running = true ∧ d.jobOpen = false ∧ d.get (Obj.SERVO_SOURCE 1) < 200 ∧ d.keeper.standby = false
      ∧ d.get (Obj.RAIL_STATE 8) ≠ 2 ∧ d.service.change = none ∧ d.keeper.pwrFailLow = true ∧ d.get Obj.PWR_FAIL_ACTION = 1
      ∧ 10 * (d.get Obj.TEMP_SHUTDOWN : Int) ≤ 2000 ∧ d.Admits (req.write 0xB803 0) ∧ d.mode = .setup
      ∧ (powered .write [] id).Admits (req.write 0xB803 0) ∧ (powered .write [] id).running = true := by decide +kernel

theorem witness_Vkeep : (dev .off []).mode = .off ∧ (dev .keep []).mode ≠ .off := by decide +kernel

/-! ### Further hypotheses and boundary cases of the statements -/

/-- A mode that forbids the object, and one that allows it. -/
theorem witness_WriteBlock_forbidden :
    let q := (msg 4 2 0x3010 0 0 8192 (List.replicate 8192 0x40)).query host
    (dev .safe []).Admits q ∧ ((dev .safe []).heard q).blockForbidden q = true ∧ ((dev .setup []).heard q).blockForbidden q = false
      ∧ (((dev .safe []).heard q).sessionOf q).isSome = true := by decide +kernel

/-- Each diagnostic runs, boot and soak end with a job open and without. -/
theorem witness_Diagnostics_complete :
    (∀ n : Fin 6, let d := dev .test [(Obj.DIAG_STATE, 1), (Obj.LAST, n)]
      d.mode = .test ∧ d.soaking = false ∧ d.get Obj.DIAG_STATE = 1 ∧ d.get Obj.LAST = n)
      ∧ (dev .wake []).mode = .wake
      ∧ (let d := journalled .test [] []
         let t : SelfTest := ⟨[], [], [], [], [], 0⟩
         ({ d with soaking := true }.soakSteps t).1 = 0
          ∧ ({ ({ d with soaking := true }.soakSteps t).2.diagResult false 0 0 with soaking := false } : Dev).jobOpen = true) := by
  decide +kernel

theorem witness_NetworkPort_frames : echoFrame false false 9170 ≤ 9216 ∧ echoFrame true true 56 ≤ 9216 := by decide +kernel

theorem witness_HostFeed_limits :
    (fed chan).feed.deviceControl2 = 0 ∧ bitAt (fed chan).feed.deviceControl2 4 = false
      ∧ ((fed { chan with ctrl := 3 }).dma 0).wait = none := by decide +kernel

/-- Cell 5's refill is ready, with the deadline of column 0, which waits for it. -/
theorem witness_EnginesTakeUp_refill :
    let r : Context := { Context.fresh 0 0 with serves := .cell 5, state := 2 }
    let d := waitsForCell.onUnfold fun u => { u with refills := [(5, r)] }
    d.bestUnit 0 [] = some (256 + 5) ∧ ((d.realUnits 0 []).map Prod.snd).Pairwise (· < ·) := by decide +kernel

/-- A suspended job between its units, and the last unit of the job. -/
theorem witness_CheckJobs_suspended :
    let d := checking 1 3
    let c : Context := { column 0 3 with held := 2 }
    d.get Obj.DMAP_STATE ≠ 1 ∧ 0 + (d.checkUnit 159 c []).length < d.get (Obj.CHECK_LENGTH 31) ∧ c.held = 2
      ∧ ({ c with held := 0 } : Context).held ≠ 2
      ∧ (d.put (Obj.CHECK_DONE_BYTES 31) 4096).get (Obj.CHECK_LENGTH 31)
          ≤ 4096 + ((d.put (Obj.CHECK_DONE_BYTES 31) 4096).checkUnit 159 (column 0 3) []).length := by decide +kernel

/-- The eighth shot in a row without an answer; the sixteenth bad frame of a lane. -/
theorem witness_Commits_limits :
    let d := (shooting (armedStripe 1) [(0, convRow 0)] [shotOf 0 true (some 9999996000) Half.pending]).onConv fun c =>
      { c with missing := [(0, (0, 7))] }
    Map.find (d.at 10000000000).conv.missing 0 = some (0, 7) ∧ 15 ≤ ((d.setRx 7 ⟨15, 0, 0, false⟩).rxLane 7).bad := by
  decide +kernel

/-- The same commands while shots are issued. -/
theorem witness_EnginesAndDrain_issuing :
    let q := req.write 0x5013 0
    let d := issuing
    let e := { issuing with objs := (Obj.ENGINE_MAP 63, 0xFF) :: (Obj.ENGINE_STATE 63, 2) :: issuing.objs }
    d.issuing = true ∧ d.Admits q ∧ d.writeForbidden 0x5013 0 (0x0100 + 63) = false ∧ d.segmentOf 63 = some 63
      ∧ d.get (Obj.ENGINE_STATE 63) = 0 ∧ e.issuing = true ∧ e.blankedSegment = some 63 ∧ 2 ≤ e.get (Obj.ENGINE_STATE 63)
      ∧ e.writeForbidden 0x5013 0 (0x0200 + 63) = false ∧ d.writeForbidden 0x5034 0 (63 * 256 + 7) = false
      ∧ d.spareInUse 63 = false := by decide +kernel

/-- A lane that a restore works on, spares in service, and a restored lane, while shots are issued. -/
theorem witness_Lanes_issuing :
    let v := 0x02000000 + 135 * 256 + 127
    let e := issuing.onLink fun l => { l with restoring := [(v, 9999000000, req.write 0x5812 0)] }
    issuing.issuing = true ∧ issuing.get (Obj.LANE_STATE 134) = 1 ∧ issuing.writeForbidden 0x5812 0 (0x01000000 + 134 * 256) = false
      ∧ (e.at 10000000000).link.restoring = [(v, 9999000000, req.write 0x5812 0)] ∧ (e.at 10000000000).issuing = true
      ∧ (e.at 10000000000).locked 127 = true
      ∧ (e.link.restoring.any fun r => decide (r.1 % 256 = 127)) = true := by decide +kernel

/-- A pattern that has just started. -/
def run0 : PatternRun := { before := 0, sent := 0, clean := 0, inject := false }

/-- Transfers that succeed, and one whose read-back differs. -/
theorem witness_ModuleBanks_transfers :
    let ok : I2cResult := ⟨0, 0, waveBank⟩
    bankAgrees waveBank ⟨ok, ok⟩ = true ∧ bankAgrees waveBank ⟨ok, ⟨0, 0, []⟩⟩ = false ∧ transferOk ok = true
      ∧ transferOk ⟨3, 10000, []⟩ = true ∧ transferOk ⟨4, 0, []⟩ = false
      ∧ (let d := (dev .setup [(Obj.SCAN_STATE, 1)]).onLink fun l => { l with reading := true, patterns := [(143, run0)] }
         d.link.reading = true ∧ d.get Obj.SCAN_STATE = 1 ∧ (Map.find d.link.patterns 143).isSome = true) := by decide +kernel

/-- An origin passed before, a pending overdose, a reversal in MEND, and an axis command of a timer. -/
theorem witness_Stage_cases :
    (awaiting 1000).stage.passedFor = 7 ∧ ({ awaiting 1000 with stage := { (awaiting 1000).stage with passedFor := 0 } } : Dev).stage.passedFor
        = stripe0.uid
      ∧ (({ awaiting (-1) with ledger := { Ledger.reset with overdose := true } } : Dev).ledger.overdose) = true
      ∧ (({ (shooting (armedStripe 1) [] []).onStage (fun g => { g with m := 5, d := 0 }) with mode := .mend } : Dev).reversing) = true
      ∧ (dev .ready [(Obj.TIMER_ENABLE 15, 1), (Obj.TIMER_ACTION 15, 2), (Obj.ARG 15, 0x0103)]).get (Obj.TIMER_ACTION 15) = 2 := by
  decide +kernel

/-- A read of the store that meets a page awaiting its refetch, and a rank that has a request. -/
theorem witness_Store_waits :
    let d := expanding [(0, column 0 1)] []
    let e := { d with dram := { d.dram with layout := [0], perRank := 1024, awaiting := [0] } }
    let v := e.readRange 0 (predMem ++ [(29, 16)])
    0 < v.2 ∧ e.awaits v.1 v.2 = true
      ∧ (e.onStore fun t => { t with queue := [{ asker := 256, real := true, start := 0, stop := 64, done0 := 0, done1 := 0, last := 64 }] }).rankAsked
          true 0 [] = true := by
  decide +kernel

/-- The port is still busy with the frame before; the other port alone hears a master. -/
theorem witness_Time_ports :
    let d := (timed [] fun c => { c with portBusy := [(0, 10000000001)] }).at 10000000000
    let m : ForeignMaster := { port := 1, data := ⟨128, 6, 0x21, 0, 128, 7, 0, 37⟩, at_ := 9999000000, heard := 2 }
    let e := (timed [(Obj.NET_LINK_STATE 0, 1)] fun c => { c with masters := [m] }).at 10000000000
    d.portBusy 0 10000000000 = true ∧ d.portBusy 0 10000000001 = false ∧ e.get (Obj.NET_LINK_STATE (e.get Obj.ACTIVE_PORT)) ≠ 0
      ∧ e.qualified 10000000000 0 = [] ∧ e.qualified 10000000000 1 ≠ [] := by decide +kernel

end Sys2Proof.Tests
end

section
/-!
PROOFS. The split of one visit (R57) and what any sequence of visits leaves owed (R59): 02_exposure_geometry.
-/
namespace Sys2Proof.Machine

/-! ### One visit -/

/-- Rounding adds at most half a step. -/
theorem two_mul_roundHalfEven_le (n m : Nat) : 2 * (m * roundHalfEven n m) ≤ 2 * n + m := by
  have hdiv : m * (n / m) + n % m = n := Nat.div_add_mod n m
  simp only [roundHalfEven]
  split
  · rw [Nat.mul_add_one]
    omega
  · omega

/-- R57: all that a delivered visit can do. A residual that is not positive sends nothing; a positive one sends a clamped
code that is at most the share res ÷ (16gn) plus a half, and pays sub, at most the step times the code plus a half. -/
theorem split_cases (res : Int) (g n : Nat) :
    (res ≤ 0 ∧ split res g n = (0, res)) ∨
    (0 < res ∧ ∃ code sub : Nat, split res g n = (code, res - sub) ∧ code ≤ 63 ∧
      2 * (g * n * code) ≤ 2 * (res.toNat * 1024) + g * n ∧ 2 * (1024 * sub) ≤ 2 * (g * code) + 1024) := by
  by_cases hres : res ≤ 0
  · exact .inl ⟨hres, if_pos hres⟩
  · refine .inr ⟨by omega, _, _, if_neg hres, Nat.min_le_right _ _, ?_, two_mul_roundHalfEven_le _ _⟩
    have hclamp := Nat.mul_le_mul_left (g * n) (Nat.min_le_left (roundHalfEven (res.toNat * 1024) (g * n)) 63)
    exact Nat.le_trans (Nat.mul_le_mul_left 2 hclamp) (two_mul_roundHalfEven_le _ _)

theorem split_of_nonpos {res : Int} (g n : Nat) (h : res ≤ 0) : split res g n = (0, res) := if_pos h

theorem split_code_le (res : Int) (g n : Nat) : (split res g n).1 ≤ 63 := by
  obtain ⟨-, h⟩ | ⟨-, code, sub, h, hcode, -, -⟩ := split_cases res g n
  · rw [h]
    exact Nat.zero_le 63
  · rw [h]
    exact hcode

theorem split_residual_le (res : Int) (g n : Nat) : (split res g n).2 ≤ res := by
  obtain ⟨-, h⟩ | ⟨-, code, sub, h, -, -, -⟩ := split_cases res g n
  · exact Int.le_of_eq (congrArg Prod.snd h)
  · rw [h]
    exact Int.sub_le_self res (Int.natCast_nonneg sub)

/-- With two or more visits left, rounding up the share stays within what is owed: n − 1 more shares cover it. -/
theorem step_mul_code_le {g n code num : Nat} (hn : 2 ≤ n) (h : 2 * (g * n * code) ≤ 2 * num + g * n) :
    g * code ≤ num := by
  rcases Nat.eq_zero_or_pos code with rfl | hcode
  · exact Nat.zero_le num
  · have hcodes : 2 * code ≤ n * code := Nat.mul_le_mul_right code hn
    have hvisits : n ≤ n * code := Nat.le_mul_of_pos_right n hcode
    have hscaled : g * (2 * code + n) ≤ g * (2 * (n * code)) := Nat.mul_le_mul_left g (by omega)
    have hleft : g * (2 * code + n) = 2 * (g * code) + g * n := by rw [Nat.mul_add, Nat.mul_left_comm]
    have hright : g * (2 * (n * code)) = 2 * (g * n * code) := by rw [Nat.mul_left_comm, Nat.mul_assoc]
    omega

/-- With more than one live visit left a visit never overshoots. -/
theorem split_residual_nonneg {res : Int} {n : Nat} (g : Nat) (hres : 0 ≤ res) (hn : 2 ≤ n) :
    0 ≤ (split res g n).2 := by
  obtain ⟨-, h⟩ | ⟨-, code, sub, h, -, hcode, hsub⟩ := split_cases res g n
  · rw [h]
    exact hres
  · have hstep : g * code ≤ res.toNat * 1024 := step_mul_code_le hn hcode
    rw [h]
    omega

/-- The last live visit overshoots by at most half a code step and half an eighth. -/
theorem split_last_residual_ge {res : Int} (g : Nat) (hres : 0 ≤ res) :
    -(((g + 1024) / 2048 : Nat) : Int) ≤ (split res g 1).2 := by
  obtain ⟨-, h⟩ | ⟨-, code, sub, h, -, hcode, hsub⟩ := split_cases res g 1
  · rw [h]
    omega
  · rw [h]
    rw [Nat.mul_one] at hcode
    omega

/-! ### A sequence of visits -/

/-- R59, one visit: the bound of the largest gain is kept. -/
theorem split_keeps_overshoot_bound {res : Int} {g n top : Nat} (hg : g ≤ top) (hn : 1 ≤ n)
    (hres : -(((top + 1024) / 2048 : Nat) : Int) ≤ res) : -(((top + 1024) / 2048 : Nat) : Int) ≤ (split res g n).2 := by
  obtain hdone | howed : res ≤ 0 ∨ 0 < res := by omega
  · rw [split_of_nonpos g n hdone]
    exact hres
  · obtain rfl | hmore : n = 1 ∨ 2 ≤ n := by omega
    · have hlast := split_last_residual_ge g (Int.le_of_lt howed)
      omega
    · have hnonneg := split_residual_nonneg g (Int.le_of_lt howed) hmore
      omega

/-- R59, any number of visits. -/
theorem visits_keep_overshoot_bound {top : Nat} (visits : List (Nat × Nat)) (res : Int)
    (hvisits : ∀ v ∈ visits, v.1 ≤ top ∧ 1 ≤ v.2) (hres : -(((top + 1024) / 2048 : Nat) : Int) ≤ res) :
    -(((top + 1024) / 2048 : Nat) : Int) ≤ visits.foldl (fun r v => (split r v.1 v.2).2) res := by
  induction visits generalizing res with
  | nil => exact hres
  | cons v vs ih =>
    obtain ⟨⟨hg, hn⟩, hrest⟩ := List.forall_mem_cons.mp hvisits
    exact ih _ hrest (split_keeps_overshoot_bound hg hn hres)

/-! ### A visit that is not delivered -/

/-- R55, R274. -/
theorem engineVisit_undelivered (res g n : Nat) (pix blank mm : Bool)
    (h : pix = false ∨ blank = true ∨ res = lostMark ∨ n = 0 ∨ g = 0 ∨ mm = true) :
    (engineVisit res g n pix blank mm).1 = 0 ∧ (engineVisit res g n pix blank mm).2.1 = res := by
  by_cases hdead : ¬ pix ∨ blank ∨ res = lostMark ∨ n = 0 ∨ g = 0
  · rw [engineVisit, if_pos hdead]
    exact ⟨rfl, rfl⟩
  · have hmm : mm = true := by
      rcases h with hpix | hblank | hlost | hn | hg | hmm
      · exact absurd (.inl (by rw [hpix]; exact Bool.false_ne_true)) hdead
      · exact absurd (.inr (.inl hblank)) hdead
      · exact absurd (.inr (.inr (.inl hlost))) hdead
      · exact absurd (.inr (.inr (.inr (.inl hn)))) hdead
      · exact absurd (.inr (.inr (.inr (.inr hg)))) hdead
      · exact hmm
    rw [engineVisit, if_neg hdead, if_pos hmm]
    exact ⟨rfl, rfl⟩

end Sys2Proof.Machine

namespace Sys2Proof.Proofs

open Sys2Proof.Machine

/-- Settles O37: each visit keeps the bound, by `split_cases`, and so does a list of them, by induction on it. -/
theorem visitsNeverOverdose : Obligations.VisitsNeverOverdose := by
  refine ⟨fun res g n _ _ => ?_, fun visits top res hvisits hres => ?_, engineVisit_undelivered⟩
  · exact ⟨split_code_le res g n, split_residual_le res g n, split_of_nonpos g n,
      fun hres hn => split_residual_nonneg g (Int.le_of_lt hres) hn⟩
  · have hbound := visits_keep_overshoot_bound (top := top) visits res (fun v hv => (hvisits v hv).2) (by omega)
    exact ⟨hbound, fun htop => by omega⟩

end Sys2Proof.Proofs
end

section
/-!
PROOFS. The drops of R69 and a request with an undefined OP: 03_control_and_modes.
-/
namespace Sys2Proof.Machine

/-- A request of any kind that leaves the main die and the remap list as they are changes the device only. -/
theorem State.nextRequest_of_dev {s : State} {f : Map Byte → Dev → Dev} {d : Dev} (hf : f s.store s.dev = d)
    (hmode : d.mode = s.dev.mode) (hdram : d.dram = s.dev.dram) : s.nextRequest f = .next { s with dev := d } := by
  have hrunning : d.running = s.dev.running := by rw [Dev.running, Dev.running, hmode]
  rw [State.nextRequest, hf, storeAfter_same s.store hrunning (congrArg StoreState.remap hdram)]

/-! ### The counter that a message rises (R69) -/

/-- A failed CRC is counted as such whatever VERSION says (log entry 15). -/
theorem dropCounter_of_malformed {m : Msg} (h : m.crcOk = false ∨ m.version ≠ 1) :
    dropCounter m = some (if m.crcOk then Obj.FORMAT_DROPS else Obj.CRC_DROPS) := by
  cases hcrc : m.crcOk with
  | false => simp [dropCounter, hcrc]
  | true =>
    have hversion : m.version ≠ 1 := h.resolve_left (by simp [hcrc])
    simpa [dropCounter, hcrc] using hversion

theorem dropCounter_of_wellFormed {m : Msg} (hcrc : m.crcOk = true) (hversion : m.version = 1) :
    dropCounter m = none := by simp [dropCounter, hcrc, hversion]

/-! ### A message arrives -/

theorem Dev.receive_of_dropCounter_some {p : Sender} {m : Msg} {d : Dev} {k : Nat} (mem : Map Byte)
    (hreach : d.reaches p = true) (hdrop : dropCounter m = some k) : d.receive p m mem = d.bump k := by
  simp only [Dev.receive, hreach, hdrop, not_true, if_false]

theorem Dev.receive_of_dropCounter_none {p : Sender} {m : Msg} {d : Dev} (mem : Map Byte)
    (hreach : d.reaches p = true) (hdrop : dropCounter m = none) : d.receive p m mem = d.request p m mem := by
  simp only [Dev.receive, hreach, hdrop, not_true, if_false]

/-- A message that R69 drops only raises its counter. -/
theorem State.nextRequest_receive_dropped {p : Sender} {m : Msg} {s : State} {k : Nat} (hreach : s.dev.reaches p = true)
    (hdrop : dropCounter m = some k) :
    (s.nextRequest fun mem d => d.receive p m mem) = .next { s with dev := s.dev.bump k } :=
  State.nextRequest_of_dev (Dev.receive_of_dropCounter_some s.store hreach hdrop) (Dev.bump_mode k s.dev)
    (Dev.bump_dram k s.dev)

theorem State.message_of_op {m : Msg} {op : Nat} (hop : m.op.toNat = op) (s : State) (mnemonic : String) (p : Sender) :
    s.message op mnemonic p m = s.nextRequest fun mem d => d.receive p m mem := if_pos hop

theorem execRead_message {m : Msg} (hop : ¬ (2 ≤ m.op.toNat ∧ m.op.toNat ≤ 5)) (p : Sender) (s : State) :
    execRead p (.message m) s = s.nextRequest fun mem d => d.receive p m mem := if_neg hop

theorem execRead_short {p : Sender} {b : List Byte} {s : State} (hreach : s.dev.reaches p = true) (hb : b.length < 28) :
    execRead p (.short b) s = .next { s with dev := s.dev.bump Obj.FORMAT_DROPS } := by
  simp only [execRead, State.next, hreach, hb, and_self, if_true]

/-! ### An undefined OP -/

/-- An admitted request that fails one of its first tests leaves its count only (R63). -/
theorem Dev.serve_refuse_first {q : Query} {pre : List (Abort × Bool)} {answer : Dev → Answer} {d : Dev} {a : Abort}
    (h : d.Admits q) (hpre : firstAbort pre = some a) : d.serve q pre answer = (d.heard q).refuse q a := by
  obtain ⟨hreach, hturn, -⟩ := h
  simp only [Dev.serve, Dev.serveWith, hreach, not_true, if_false, hturn, hpre]

theorem Dev.request_of_undefined_op {p : Sender} {m : Msg} (hop : m.op.toNat = 0 ∨ 6 ≤ m.op.toNat) (mem : Map Byte)
    (d : Dev) :
    d.request p m mem = d.serve (m.query p) [(.access, true)] fun d => .ok [] d := by
  have hnot : ∀ n, 1 ≤ n → n ≤ 5 → (m.query p).op ≠ n := by
    intro n hn1 hn5 hn
    change m.op.toNat = n at hn
    omega
  unfold Dev.request
  dsimp only
  split
  case h_6 => rfl
  all_goals exact absurd ‹_› (hnot _ (by decide) (by decide))

@[simp] theorem Dev.refuse_mode (q : Query) (a : Abort) (d : Dev) : (d.refuse q a).mode = d.mode := by simp [Dev.refuse]
@[simp] theorem Dev.refuse_dram (q : Query) (a : Abort) (d : Dev) : (d.refuse q a).dram = d.dram := by simp [Dev.refuse]

/-- A sound message with an undefined OP is heard and refused with ACCESS. -/
theorem State.nextRequest_receive_undefined {p : Sender} {m : Msg} {s : State} (h : m.Sound p s.dev)
    (hop : m.op.toNat = 0 ∨ 6 ≤ m.op.toNat) :
    (s.nextRequest fun mem d => d.receive p m mem)
      = .next { s with dev := (s.dev.heard (m.query p)).refuse (m.query p) .access } := by
  obtain ⟨hcrc, hversion, -, -, hadmits⟩ := h
  have hreach : s.dev.reaches p = true := hadmits.1
  have hreceive : s.dev.receive p m s.store = (s.dev.heard (m.query p)).refuse (m.query p) .access := by
    rw [Dev.receive_of_dropCounter_none s.store hreach (dropCounter_of_wellFormed hcrc hversion),
      Dev.request_of_undefined_op hop, Dev.serve_refuse_first hadmits (firstAbort_fail .access [])]
  exact State.nextRequest_of_dev hreceive (by simp) (by simp)

end Sys2Proof.Machine

namespace Sys2Proof.Proofs

open Sys2Proof.Machine

/-- Settles O7: what `receive` makes of a malformed message, and of a sound one with an undefined OP, in each row that
carries it. -/
theorem malformedMessagesDropped : Obligations.MalformedMessagesDropped := by
  refine ⟨fun p m s hreach hbad => ?_, fun p m s hsound hop => ?_⟩
  · have hdrop := State.nextRequest_receive_dropped hreach (dropCounter_of_malformed hbad)
    have hmessage (op : Nat) (mnemonic : String) (hop : m.op.toNat = op) :=
      (State.message_of_op hop s mnemonic p).trans hdrop
    exact ⟨fun hop => (execRead_message (by simp [hop]) p s).trans hdrop,
      fun hop => hmessage opWrite "WRITE" (congrArg BitVec.toNat hop),
      fun hop => hmessage opReadBlock "READ_BLOCK" (congrArg BitVec.toNat hop),
      fun hop => hmessage opWriteBlock "WRITE_BLOCK" (congrArg BitVec.toNat hop),
      fun hop => hmessage opSubscribe "SUBSCRIBE" (congrArg BitVec.toNat hop),
      fun b hb => execRead_short hreach hb⟩
  · have hundefined : m.op.toNat = 0 ∨ 6 ≤ m.op.toNat := hop.imp_left (congrArg BitVec.toNat)
    exact (execRead_message (by omega) p s).trans (State.nextRequest_receive_undefined hsound hundefined)

end Sys2Proof.Proofs
end

section
/-!
PROOFS. The release of a pool context while a deficit-map output waits for one (R115, R230): 03_control_and_modes.
-/
namespace Sys2Proof.Machine

/-! ### Reading an entry after a request is answered -/

/-- An answer counts the message and leaves every other object. -/
theorem Dev.get_finish {k : Nat} (hk : k ≠ Obj.RX_MESSAGES) (q : Query) (m : Msg) (d : Dev) :
    (d.finish q m).get k = d.get k := by
  have hobjs : (d.finish q m).objs = (d.bump Obj.RX_MESSAGES).objs := by simp [Dev.finish]
  rw [Dev.get_of_objs hobjs, Dev.bump, Dev.add, Dev.get_put_other hk]

theorem Dev.get_done {k : Nat} (hk : k ≠ Obj.RX_MESSAGES) (q : Query) (d : Dev) : (d.done q).get k = d.get k :=
  Dev.get_finish hk q (q.response 0 []) d

/-! ### The counterexample -/

/-- The value of an object in the next state. -/
def valueAfter (k : Nat) : Host.Outcome State Fault Refusal → Option Nat
  | .next t => some (t.dev.get k)
  | _ => none

/-- The holder of mailbox slot 0, and a request of its session 3. -/
def poolHolder : Sender := { port := .mbox 0, ip := 0, udp := 0 }
def poolRequest : Req := { sender := poolHolder, session := 3, sequence := 9 }

/-- A device in SETUP whose session 3 has reserved all 32 pool contexts, while a deficit-map output runs that waits for a
context (R230). -/
def outputWaits : State :=
  { State.reset with dev := { Dev.reset with
      mode := .setup
      objs := (Obj.DMAP_STATE, 1) :: (List.range 32).map fun j => (Obj.CONTEXT_OWNER j, 0x0603)
      cop := { Dev.reset.cop with sessions := [(3, Session.opened poolHolder 0)] } } }

theorem outputWaits_admits : outputWaits.dev.Admits (poolRequest.write 0x2104 1) := by decide +kernel

/-- R230: the context that session 3 releases goes to the output at once, under 0x0600. -/
theorem released_context_claimed_by_output :
    valueAfter (key 0x2104 1) (exec (.ownerEntryWrite poolRequest 0x2104 1 0) outputWaits) = some 0x0600 := by
  decide +kernel

end Sys2Proof.Machine

namespace Sys2Proof.Proofs

open Sys2Proof.Machine

/-- Refutes O16: by R230 a released pool context goes to the deficit-map output that waits for one, so that the entry of a
session's own reservation reads 0x0600 after its release, where the statement has 0. -/
theorem not_ownerEntriesReserveAndRelease : ¬ Obligations.OwnerEntriesReserveAndRelease := by
  unfold Obligations.OwnerEntriesReserveAndRelease
  intro h
  obtain ⟨hrelease, -⟩ := h poolRequest 0x2104 1 0 outputWaits outputWaits_admits (by decide +kernel) (by decide +kernel)
  have hvalue := congrArg (valueAfter (key 0x2104 1)) (hrelease (.inr ⟨by decide +kernel, rfl⟩))
  have hclaimed : some 0x0600 = some 0 := by
    calc some 0x0600 = valueAfter (key 0x2104 1) (exec (.ownerEntryWrite poolRequest 0x2104 1 0) outputWaits) :=
          released_context_claimed_by_output.symm
      _ = _ := hvalue
      _ = some 0 := congrArg some ((Dev.get_done (by decide) _ _).trans (Dev.get_put_same _ _ _))
  exact absurd hclaimed (by decide)

end Sys2Proof.Proofs
end

section
/-!
PROOFS. The channels of the host feed: writes of CHn_CTRL, the issue of a unit and the end of a wait for a translation
(R163 to R187): 05_host_feed.
-/
namespace Sys2Proof.Machine

/-! ### Outcomes -/

theorem State.next_of_dev {s : State} {f : Dev → Dev} {d : Dev} (h : f s.dev = d) :
    s.next f = .next { s with dev := d } := by
  rw [State.next, h]

theorem State.nextWritten_of_written {s : State} {f : Map Byte → Dev → Written} {w : Written} (h : f s.store s.dev = w) :
    s.nextWritten f = .next { s with store := storeWrite w.1 s.store, dev := w.2 } := by
  rw [State.nextWritten, State.nextStore, h]

/-! ### Single bits -/

theorem bitAt_eq_testBit (v n : Nat) : bitAt v n = v.testBit n := (Nat.testBit_eq_decide_div_mod_eq).symm

theorem bitAt_and (v w n : Nat) : bitAt (v &&& w) n = (bitAt v n && bitAt w n) := by
  simp only [bitAt_eq_testBit, Nat.testBit_and]

theorem bitAt_setBit_same (v n : Nat) (b : Bool) : bitAt (setBit v n b) n = b := by
  have hpos : 0 < 2 ^ n := Nat.two_pow_pos n
  unfold setBit
  split
  case isTrue h => exact h
  case isFalse h =>
    cases b with
    | true =>
      rw [if_pos rfl, bitAt, Nat.add_div_right v hpos, decide_eq_true_eq]
      simp only [bitAt, decide_eq_true_eq] at h
      omega
    | false =>
      have hdiv : (v - 2 ^ n) / 2 ^ n = v / 2 ^ n - 1 := by simpa using Nat.sub_mul_div v (2 ^ n) 1
      rw [if_neg Bool.false_ne_true, bitAt, hdiv, decide_eq_false_iff_not]
      simp only [bitAt, Bool.not_eq_false, decide_eq_true_eq] at h
      omega

/-- A write of PAUSE leaves ENABLE as the value has it. -/
theorem bitAt_zero_setBit_one (v : Nat) (b : Bool) : bitAt (setBit v 1 b) 0 = bitAt v 0 := by
  unfold setBit
  split
  case isTrue => rfl
  case isFalse h =>
    cases b with
    | true =>
      rw [if_pos rfl, bitAt, bitAt, decide_eq_decide]
      omega
    | false =>
      simp only [bitAt, Bool.not_eq_false, decide_eq_true_eq] at h
      rw [if_neg Bool.false_ne_true, bitAt, bitAt, decide_eq_decide]
      omega

/-- ENABLE and PAUSE are not reserved (R164). -/
theorem bitAt_ctrlMask_enable (v : Nat) : bitAt (v &&& ctrlMask) 0 = bitAt v 0 := by
  rw [bitAt_and, show bitAt ctrlMask 0 = true by decide, Bool.and_true]

theorem bitAt_ctrlMask_pause (v : Nat) : bitAt (v &&& ctrlMask) 1 = bitAt v 1 := by
  rw [bitAt_and, show bitAt ctrlMask 1 = true by decide, Bool.and_true]

/-! ### A channel's record read and replaced -/

/-- A value that is listed is replaced in place. -/
theorem Map.put_put {α : Type} [DecidableEq α] {d v : α} (hv : v ≠ d) (k : Nat) (w : α) (m : Map α) :
    Map.put d k w (Map.put d k v m) = Map.put d k w m := by
  have hinsert : Map.insert k w (Map.insert k v m) = Map.insert k w m := by
    induction m with
    | nil => simp [Map.insert]
    | cons e m ih => grind [Map.insert]
  have herase : Map.erase k (Map.insert k v m) = Map.erase k m := by
    induction m with
    | nil => simp [Map.insert, Map.erase]
    | cons e m ih => grind [Map.insert, Map.erase]
  simp only [Map.put, if_neg hv, hinsert, herase]

@[simp] theorem Dev.dma_setDma_same (n : Nat) (c : DmaChannel) (d : Dev) : (d.setDma n c).dma n = c :=
  Map.get_put_same DmaChannel.reset n c d.feed.channels

theorem Dev.setDma_setDma {c : DmaChannel} (hc : c ≠ DmaChannel.reset) (n : Nat) (e : DmaChannel) (d : Dev) :
    (d.setDma n c).setDma n e = d.setDma n e := by
  simp only [Dev.setDma, Dev.onFeed, Map.put_put hc]

theorem Dev.dma_of_channels {d e : Dev} (h : d.feed.channels = e.feed.channels) (n : Nat) : d.dma n = e.dma n := by
  rw [Dev.dma, Dev.dma, h]

/-- What no single run changes, a run for every element leaves. -/
theorem Dev.of_each {α β : Type} (g : Dev → β) {f : α → Dev → Dev} (h : ∀ a d, g (f a d) = g d) (l : List α) (d : Dev) :
    g (d.each l f) = g d := by
  induction l generalizing d with
  | nil => rfl
  | cons a l ih => exact (ih (f a d)).trans (h a d)

/-- Translations ahead are requested beside the channels' records (R184). -/
@[simp] theorem Dev.requestAhead_channels (ch : Nat) (d : Dev) :
    (d.requestAhead ch).feed.channels = d.feed.channels := by
  simp only [Dev.requestAhead]
  split
  · refine Dev.of_each (fun d => d.feed.channels) (fun p d => ?_) _ d
    split <;> rfl
  · rfl

@[simp] theorem Dev.dma_requestAhead (n ch : Nat) (d : Dev) : (d.requestAhead ch).dma n = d.dma n :=
  Dev.dma_of_channels (d.requestAhead_channels ch) n

theorem DmaChannel.ready_paced_of_pause {c : DmaChannel} (h : c.pause = true) : c.paced.ready = false := by
  have hpause : c.paced.pause = true := h
  simp only [DmaChannel.ready, hpause, Bool.not_true, Bool.and_false, Bool.false_and]

/-! ### A write of CHn_CTRL (R164, R171, R178, R182) -/

section
variable {ch v : Nat} {d : Dev}

/-- An idle channel without ERR and without a held shadow that the write frees. -/
theorem Dev.ctrlWrite_activates (henable : (d.dma ch).enable = false) (herr : (d.dma ch).err = false)
    (hv : bitAt (v &&& ctrlMask) 0 = true) (hheld : (d.dma ch).held = false ∨ bitAt (v &&& ctrlMask) 1 = true) :
    d.ctrlWrite ch v = (d.setDma ch { d.dma ch with ctrl := v &&& ctrlMask, held := false }).activate ch := by
  have hkeep : ((d.dma ch).held && !bitAt (v &&& ctrlMask) 1) = false := by
    rcases hheld with h | h
    · rw [h, Bool.false_and]
    · rw [h, Bool.not_true, Bool.and_false]
  have hlisted : { d.dma ch with ctrl := v &&& ctrlMask } ≠ DmaChannel.reset := by
    intro h
    have hctrl : v &&& ctrlMask = 0 := congrArg DmaChannel.ctrl h
    rw [hctrl] at hv
    exact absurd hv (by decide)
  simp [Dev.ctrlWrite, henable, hv, herr, hkeep, Dev.onDma, Dev.setDma_setDma hlisted]

theorem Dev.ctrlWrite_of_err (henable : (d.dma ch).enable = false) (herr : (d.dma ch).err = true)
    (hv : bitAt (v &&& ctrlMask) 0 = true) : d.ctrlWrite ch v = d := by
  simp only [Dev.ctrlWrite, henable, hv, herr, if_true]

/-- R171: with ENABLE, where ERR is 0, or without. -/
theorem Dev.ctrlWrite_loads_held (henable : (d.dma ch).enable = false) (hheld : (d.dma ch).held = true)
    (hpause : bitAt (v &&& ctrlMask) 1 = false) (herr : bitAt (v &&& ctrlMask) 0 = true → (d.dma ch).err = false) :
    d.ctrlWrite ch v = (d.setDma ch { d.dma ch with ctrl := v &&& ctrlMask }).loadShadow ch := by
  cases hv : bitAt (v &&& ctrlMask) 0 with
  | true => simp [Dev.ctrlWrite, henable, hv, herr hv, hheld, hpause, Dev.onDma]
  | false => simp [Dev.ctrlWrite, henable, hv, hheld, hpause, Dev.onDma]

theorem Dev.ctrlWrite_of_enabled (henable : (d.dma ch).enable = true) (hv : bitAt (v &&& ctrlMask) 0 = true) :
    d.ctrlWrite ch v
      = (d.setDma ch (DmaChannel.paced { d.dma ch with ctrl := v &&& ctrlMask })).requestAhead ch := by
  simp only [Dev.ctrlWrite, henable, hv, Dev.onDma]

theorem Dev.dropWait_of_none (h : (d.dma ch).wait = none) : d.dropWait ch = d := by simp only [Dev.dropWait, h]

theorem Dev.ctrlWrite_disables (henable : (d.dma ch).enable = true) (hpaused : (d.dma ch).paused = true)
    (hwait : (d.dma ch).wait = none) (hv : bitAt (v &&& ctrlMask) 0 = false) :
    d.ctrlWrite ch v
      = (d.setDma ch { d.dma ch with ctrl := v &&& ctrlMask, held := false }).onDma ch DmaChannel.paced := by
  have hdrop : (d.setDma ch { d.dma ch with ctrl := v &&& ctrlMask, held := false }).dropWait ch
      = d.setDma ch { d.dma ch with ctrl := v &&& ctrlMask, held := false } := Dev.dropWait_of_none (by simp [hwait])
  simp only [Dev.ctrlWrite, henable, hv, hpaused, if_true, hdrop]

theorem Dev.ctrlWrite_disable_ignored (henable : (d.dma ch).enable = true) (hpaused : (d.dma ch).paused = false)
    (hv : bitAt (v &&& ctrlMask) 0 = false) : d.ctrlWrite ch v = d := by
  simp [Dev.ctrlWrite, henable, hv, hpaused]

end

/-- BAR0 takes a write of CHn_CTRL. -/
theorem barWrite_ctrl {d : Dev} (h : d.hears = true) (ch v : Nat) : barWrite ch 0x14 v d = d.ctrlWrite ch v := if_pos h

section
variable {s : State} (h : s.dev.hears = true) (ch : Fin 32) (v : Word32)
include h

theorem exec_channelEnable :
    exec (.channelEnable ch v) s = .next { s with dev := s.dev.ctrlWrite ch.val (setBit v.toNat 0 true) } :=
  State.next_of_dev (barWrite_ctrl h _ _)

theorem exec_channelPause :
    exec (.channelPause ch v) s = .next { s with dev := s.dev.ctrlWrite ch.val (setBit v.toNat 1 true) } :=
  State.next_of_dev (barWrite_ctrl h _ _)

theorem exec_channelUnpause :
    exec (.channelUnpause ch v) s = .next { s with dev := s.dev.ctrlWrite ch.val (setBit v.toNat 1 false) } :=
  State.next_of_dev (barWrite_ctrl h _ _)

theorem exec_channelDisable :
    exec (.channelDisable ch v) s = .next { s with dev := s.dev.ctrlWrite ch.val (setBit v.toNat 0 false) } :=
  State.next_of_dev (barWrite_ctrl h _ _)

end

/-! ### The issue of a unit (R168, R173, R183) -/

theorem exec_unitIssue (s : State) : exec .unitIssue s = s.nextWritten unitIssue := rfl

/-- The channel that wins arbitration issues once the retired units and the requests ahead are done. -/
theorem unitIssue_of_arbitrate {mem : Map Byte} {d d0 : Dev} {ch : Nat} (hrun : d.running = true)
    (hawake : d.feed.d3hot = false)
    (hahead : ((d.settle mem).2.each (List.range 32) fun n d => d.requestAhead n) = d0)
    (hch : d0.arbitrate = some ch) (htag : (d0.dma ch).dir = true ∨ d0.outstanding < 2048) :
    unitIssue mem d = ((d.settle mem).1, d0.issueUnit ch) := by
  have hgoes : ¬ (¬ d.running ∨ d.feed.d3hot) := by simp [hrun, hawake]
  have hfree : (!(d0.dma ch).dir && decide (2048 ≤ d0.outstanding)) = false := by
    rcases htag with hdir | hroom
    · rw [hdir, Bool.not_true, Bool.false_and]
    · rw [decide_eq_false (Nat.not_le.mpr hroom), Bool.and_false]
  simp only [unitIssue, if_neg hgoes, hahead, hch, hfree, Bool.false_eq_true, if_false]

theorem Dev.when_not (b : Bool) (f : Dev → Dev) (d : Dev) : d.when (!b) f = if b then d else f d := by
  cases b <;> rfl

/-- R168: the unit joins those in flight and the active set advances, in one step; under DIR 0 a memory read is sent. -/
theorem Dev.issueUnit_go_eq (ch : Nat) (c : DmaChannel) (n bus page : Nat) (d : Dev) :
    let u : DmaUnit := { host := c.hostSide, src := c.src, dst := c.dst, len := n, page := page, bus := bus,
                         up := c.dir, old := false, doomed := false, back := false, data := [] }
    let e := (d.setDma ch (c.issued u).paced).onFeed fun f => { f with served := Map.put 0 c.prio (ch + 1) f.served }
    Dev.issueUnit.go ch c n bus page d
      = (if c.dir then e else e.send (.hostRead ch bus n (e.dmaAttr (decide (page ≠ 0))))).tagCandidate 2 (dmaTag ch u) :=
  congrArg (Dev.tagCandidate 2 _) (Dev.when_not c.dir _ _)

section
variable {d : Dev} {ch : Nat}

/-- R183: the unit is not issued. -/
theorem Dev.issueUnit_of_fault {code : Nat} (h : d.rangeFault (d.dma ch) (d.dma ch).nextLength = some code) :
    d.issueUnit ch = d.failHere ch code := by simp only [Dev.issueUnit, h]

theorem Dev.issueUnit_untranslated (h : d.rangeFault (d.dma ch) (d.dma ch).nextLength = none)
    (hats : (d.dma ch).ats = false) :
    d.issueUnit ch = Dev.issueUnit.go ch (d.dma ch) (d.dma ch).nextLength (d.dma ch).hostSide 0 d := by
  simp [Dev.issueUnit, h, hats]

theorem Dev.issueUnit_translated {t : Translation} (h : d.rangeFault (d.dma ch) (d.dma ch).nextLength = none)
    (hats : (d.dma ch).ats = true) (ht : Map.find d.feed.cache ((d.dma ch).hostSide / 4096) = some t)
    (hallowed : (if (d.dma ch).dir then t.write else t.read) = true) :
    d.issueUnit ch = Dev.issueUnit.go ch (d.dma ch) (d.dma ch).nextLength
      (t.target * 4096 + (d.dma ch).hostSide % 4096) ((d.dma ch).hostSide / 4096 + 1) d := by
  simp only [Dev.issueUnit, h, hats, ht, hallowed, if_true]

end

/-! ### The end of a wait for a translation (R184, R186, R187) -/

theorem translationCompletion_unawaited {d : Dev} {page : Nat} (hrun : d.running = true)
    (hasked : d.feed.asked.contains page = true) (hnone : d.answeredFor page = []) (target : Nat) (read write : Bool) :
    translationCompletion page target read write d = d.onFeed (HostFeed.cacheIn page ⟨target, read, write⟩) := by
  have hgoes : ¬ (¬ d.running ∨ ¬ d.feed.asked.contains page) := by
    simp only [hrun, hasked, not_true, or_self, not_false_iff]
  rw [translationCompletion, if_neg hgoes, hnone]
  rfl

section
variable {d : Dev} {index : Nat}

theorem prgResponse_discarded (hrun : d.running = true) (h : d.feed.discard.contains index = true) (code : PrgCode) :
    prgResponse index code d = d.onFeed fun f => { f with discard := f.discard.erase index } := by
  rw [prgResponse, if_neg (not_not_intro hrun), if_pos h]

/-- A response that a wait takes, by its code. -/
theorem prgResponse_taken {w : DmaWait} (hrun : d.running = true) (h : d.feed.discard.contains index = false)
    (hwait : (d.dma index).wait = some w) (hopen : w.answered = false) (hindex : index < 32) :
    prgResponse index .success d
      = ((d.setDma index { d.dma index with wait := some { w with answered := true } }).onFeed fun f =>
          { f with cache := Map.erase w.page f.cache,
                   asked := f.asked.filter (fun p => p ≠ w.page) ++ [w.page] }).send (.translationRequest w.page) ∧
    prgResponse index .invalid d = d.failHere index errXlateFail ∧
    prgResponse index .failure d = (d.onFeed fun f => { f with priHalted := true }).failHere index errXlateFail := by
  have hgoes : ¬ (w.answered ∨ 32 ≤ index) := by simpa [hopen] using hindex
  simp only [prgResponse, if_neg (not_not_intro hrun), h, Bool.false_eq_true, if_false, hwait, if_neg hgoes, Dev.onDma,
    and_self]

end

theorem priTimeout_expired {d : Dev} {ch raw : Nat} {w : DmaWait} (hrun : (d.at raw).running = true)
    (hwait : ((d.at raw).dma ch).wait = some w) (hopen : w.answered = false)
    (hlate : w.last + (d.at raw).get Obj.PRI_TIMEOUT * 1000000 ≤ (d.at raw).clock.raw) :
    priTimeout ch raw d
      = (((d.at raw).onFeed fun f => { f with discard := f.discard ++ [ch] }).vector 36).failHere ch errXlateTimeout := by
  have hgoes : ¬ (¬ (d.at raw).running ∨ w.answered ∨
      (d.at raw).clock.raw < w.last + (d.at raw).get Obj.PRI_TIMEOUT * 1000000) := by
    simpa [hrun, hopen] using hlate
  simp only [priTimeout, hwait, if_neg hgoes]

end Sys2Proof.Machine

namespace Sys2Proof.Proofs

open Sys2Proof.Machine

/-- Settles O24: each of the four writes is a write of CHn_CTRL, which the channel takes by its ENABLE bit and the
value's (`Dev.ctrlWrite_…`). -/
theorem channelControlWrites : Obligations.ChannelControlWrites := by
  intro ch v s hears c on paused going off
  have hon : bitAt on 0 = true := (bitAt_ctrlMask_enable _).trans (bitAt_setBit_same _ 0 true)
  have hoff : bitAt off 0 = false := (bitAt_ctrlMask_enable _).trans (bitAt_setBit_same _ 0 false)
  have hpaused0 : bitAt paused 0 = bitAt v.toNat 0 := (bitAt_ctrlMask_enable _).trans (bitAt_zero_setBit_one _ true)
  have hpaused1 : bitAt paused 1 = true := (bitAt_ctrlMask_pause _).trans (bitAt_setBit_same _ 1 true)
  have hgoing0 : bitAt going 0 = bitAt v.toNat 0 := (bitAt_ctrlMask_enable _).trans (bitAt_zero_setBit_one _ false)
  have hgoing1 : bitAt going 1 = false := (bitAt_ctrlMask_pause _).trans (bitAt_setBit_same _ 1 false)
  refine ⟨?activates, ?loads, ?erred, ?pauses, ?goesOn, ?loadsIdle, ?disables, ?ignored⟩
  case activates =>
    intro henable herr hheld
    rw [exec_channelEnable hears, Dev.ctrlWrite_activates henable herr hon hheld]
  case loads =>
    intro henable herr hheld hpause
    rw [exec_channelEnable hears, Dev.ctrlWrite_loads_held henable hheld hpause fun _ => herr]
  case erred =>
    intro henable herr
    rw [exec_channelEnable hears, Dev.ctrlWrite_of_err henable herr hon]
  case pauses =>
    intro henable hv
    refine ⟨_, exec_channelPause hears ch v, Dev.ctrlWrite_of_enabled henable (hpaused0.trans hv), ?_, rfl⟩
    rw [State.with_dev_dev, Dev.ctrlWrite_of_enabled henable (hpaused0.trans hv), Dev.dma_requestAhead,
      Dev.dma_setDma_same]
    exact DmaChannel.ready_paced_of_pause hpaused1
  case goesOn =>
    intro henable hv
    rw [exec_channelUnpause hears, Dev.ctrlWrite_of_enabled henable (hgoing0.trans hv)]
  case loadsIdle =>
    intro henable hheld hv
    rw [exec_channelUnpause hears, Dev.ctrlWrite_loads_held henable hheld hgoing1 fun h =>
      absurd (h.symm.trans (hgoing0.trans hv)) (by decide)]
  case disables =>
    intro henable hpaused hwait
    rw [exec_channelDisable hears, Dev.ctrlWrite_disables henable hpaused hwait hoff]
  case ignored =>
    intro henable hpaused
    rw [exec_channelDisable hears, Dev.ctrlWrite_disable_ignored henable hpaused hoff]

/-- Settles O27: arbitration leads to `Dev.issueUnit`, which fails at the range or goes on at the bus address that the
channel's ATS gives. -/
theorem unitIssueAdvancesTheActiveSet : Obligations.UnitIssueAdvancesTheActiveSet := by
  intro ch bus page s hrun hawake w d0 c n u next d sent hch htag
  have hwritten : unitIssue s.store s.dev = (w.1, d0.issueUnit ch) := unitIssue_of_arbitrate hrun hawake rfl hch htag
  have hissue : exec .unitIssue s = .next { s with store := storeWrite w.1 s.store, dev := d0.issueUnit ch } := by
    rw [exec_unitIssue, State.nextWritten_of_written hwritten]
  have hsent : Dev.issueUnit.go ch c n bus page d0 = sent.tagCandidate 2 (dmaTag ch u) :=
    Dev.issueUnit_go_eq ch c n bus page d0
  refine ⟨fun hrange hbus => ?_, fun code hcode => ?_⟩
  · rw [hissue, ← hsent]
    obtain ⟨hats, rfl, rfl⟩ | ⟨hats, t, ht, hallowed, rfl, rfl⟩ := hbus
    · rw [Dev.issueUnit_untranslated hrange hats]
    · rw [Dev.issueUnit_translated hrange hats ht hallowed]
  · rw [hissue, Dev.issueUnit_of_fault hcode]

/-- Settles O30: a wait ends by its completion, its PRG Response or its time limit. -/
theorem translationWaitsEnd : Obligations.TranslationWaitsEnd := by
  intro ch w s hrun hwait hopen
  refine ⟨fun page target read write hasked hnone => ?_, fun hkept => ?_, fun hdiscard => ?_,
    fun raw x hrun' hwait' hopen' hlate => ?_⟩
  · exact State.next_of_dev (translationCompletion_unawaited hrun hasked hnone target read write)
  · obtain ⟨hsuccess, hinvalid, hfailure⟩ := prgResponse_taken hrun hkept hwait hopen ch.isLt
    exact ⟨State.next_of_dev hsuccess, State.next_of_dev hinvalid, State.next_of_dev hfailure⟩
  · exact fun code => State.next_of_dev (prgResponse_discarded hrun hdiscard code)
  · exact State.next_of_dev (priTimeout_expired hrun' hwait' hopen' hlate)

end Sys2Proof.Proofs
end

section
/-!
PROOFS. The commands and units of check jobs, and the end of a cell refill (R212, R228, R232): 06_expansion.
-/
namespace Sys2Proof.Machine

/-! ### Maps and bytes -/

theorem Map.find_erase_same {α : Type} (k : Nat) (m : Map α) : Map.find (Map.erase k m) k = none := by
  induction m with
  | nil => rfl
  | cons e m ih =>
    obtain ⟨j, v⟩ := e
    by_cases hj : j = k
    · simp [Map.erase, hj, ih]
    · simp [Map.erase, Map.find, hj, ih]

@[simp] theorem Map.length_gets {α : Type} (d : α) (m : Map α) (k n : Nat) : (Map.gets d m k n).length = n := by
  induction n generalizing k with
  | zero => rfl
  | succ n ih => simp [Map.gets, ih]

@[simp] theorem length_storeBytes (mem : Map Byte) (a n : Nat) : (storeBytes mem a n).length = n := Map.length_gets 0 mem a n

/-- Bytes laid over the start of a run that is long enough leave its length. -/
theorem length_patch_zero {l b : List Byte} (h : b.length ≤ l.length) : (patch l 0 b).length = l.length := by
  simp [patch, h]

/-- R232: a unit of a check job holds at most 4 KiB. -/
theorem Dev.length_checkUnit_le (q : Nat) (c : Context) (mem : Map Byte) (d : Dev) :
    (d.checkUnit q c mem).length ≤ 4096 := by
  unfold Dev.checkUnit
  dsimp only
  rw [length_patch_zero, length_storeBytes]
  · exact Nat.min_le_left _ _
  · rw [length_storeBytes]
    exact List.length_take_le _ _

/-! ### Contexts -/

theorem Dev.ctx_of_unfold {d e : Dev} (h : d.unfold = e.unfold) (q : Nat) : d.ctx q = e.ctx q := by
  rw [Dev.ctx, Dev.ctx, h]

@[simp] theorem Dev.ctx_put (q k v : Nat) (d : Dev) : (d.put k v).ctx q = d.ctx q := rfl

@[simp] theorem Dev.ctx_dropCtx_same (q : Nat) (d : Dev) : (d.dropCtx q).ctx q = none :=
  Map.find_erase_same q d.unfold.contexts

@[simp] theorem Dev.get_dropCtx (k q : Nat) (d : Dev) : (d.dropCtx q).get k = d.get k := rfl

theorem Dev.claimMap_of_no_output {d : Dev} (h : d.get Obj.DMAP_STATE ≠ 1) : d.claimMap = d := if_pos (.inl h)

theorem Dev.populated_heard (a n : Nat) (q : Query) (d : Dev) : (d.heard q).populated a n = d.populated a n :=
  d.of_heard (Dev.populated a n) q fun _ => rfl

/-! ### What a check-job command does (R232) -/

/-- The context of a check job that runs awaits the range's data. -/
def awaitsRange : Context := { Context.fresh 0 0 with serves := .range, state := 1 }

/-- START: the running value begins at check_start and the job runs. -/
def Dev.startCheckJob (j : Nat) (d : Dev) : Dev :=
  (((d.put (Obj.RUNNING (128 + j)) (d.checkStart (128 + j))).put (Obj.CHECK_DONE_BYTES j) 0).put
    (Obj.CHECK_RESULT j) 1).setCtx (128 + j) awaitsRange

/-- SUSPEND while a unit is in work: its end puts the job down. -/
def Dev.holdCheckJob (j : Nat) (c : Context) (d : Dev) : Dev := d.setCtx (128 + j) { c with held := 2 }

/-- SUSPEND with no unit in work: the job is put down at once. -/
def Dev.suspendCheckJob (j : Nat) (c : Context) (d : Dev) : Dev :=
  (d.setCtx (128 + j) { c with state := 4 }).put (Obj.CHECK_RESULT j) 2

/-- RESUME: the job runs again, from the bytes that it has done. -/
def Dev.resumeCheckJob (j : Nat) (d : Dev) : Dev := (d.setCtx (128 + j) awaitsRange).put (Obj.CHECK_RESULT j) 1

/-- ABORT of a job with RESULT `res`: one that ran or was suspended ends with result 6. -/
def Dev.abortCheckJob (j res : Nat) (d : Dev) : Dev :=
  (((if res = 1 ∨ res = 2 then d.checkJobDone j 6 else d).dropCtx (128 + j)).put (Obj.CONTEXT_OWNER j) 0).claimMap

@[simp] theorem Dev.checkJobResult_heard (j : Nat) (q : Query) (d : Dev) :
    (d.heard q).checkJobResult j = d.checkJobResult j := Dev.heard_get _ q d

/-- A command whose tests pass, by another form of its effect on the device that has recorded it. -/
theorem Dev.command_ok_of_effect {q : Query} {len word : Nat} {tests : List (Abort × Bool)}
    {effect f : Dev → Dev} {d : Dev} (hf : d.writeForbidden q.index q.sub word = false)
    (ht : firstAbort tests = none) (he : effect (d.noteCommand q len word) = f (d.noteCommand q len word)) :
    d.command q len word tests effect = .ok [] (f (d.noteCommand q len word)) :=
  (Dev.command_ok effect hf ht).trans (congrArg (Answer.ok []) he)

section
variable {q : Query} {j : Nat} {d : Dev}

theorem Dev.checkJobBusy_own (hmine : d.get (Obj.CONTEXT_OWNER j) = 0x0800 + q.session) :
    (d.heard q).checkJobBusy q j = false := by
  simp [Dev.checkJobBusy, hmine]

variable (hadmits : d.Admits q) (hmine : d.get (Obj.CONTEXT_OWNER j) = 0x0800 + q.session)
  (hmode : ∀ v, v ≤ 4 → d.writeForbidden q.index q.sub v = false)
include hadmits hmine hmode

theorem serve_checkJobStart (hnotRunning : d.checkJobResult j ≠ 1) (hnotSuspended : d.checkJobResult j ≠ 2)
    (hlength : d.get (Obj.CHECK_LENGTH j) ≠ 0)
    (hrange : d.populated (d.get (Obj.CHECK_ADDR j)) (d.get (Obj.CHECK_LENGTH j)) = true) :
    d.serveCommand q (checkJobCommand q j 1) = d.commanded q 1 1 (Dev.startCheckJob j) := by
  have hallowed : (d.heard q).writeForbidden q.index q.sub 1 = false := by simp [hmode]
  refine Dev.serveCommand_ok hadmits (Dev.command_ok (Dev.startCheckJob j) hallowed ?_)
  simp [Dev.checkJobBusy_own hmine, hmine, hnotRunning, hnotSuspended, hlength, Dev.populated_heard, hrange]

theorem serve_checkJobSuspend {c : Context} (hruns : d.checkJobResult j = 1) (hctx : d.ctx (128 + j) = some c) :
    d.serveCommand q (checkJobCommand q j 2)
      = d.commanded q 1 2 (if c.state = 3 ∨ 0 < c.downs then Dev.holdCheckJob j c else Dev.suspendCheckJob j c) := by
  have hallowed : (d.heard q).writeForbidden q.index q.sub 2 = false := by simp [hmode]
  have hnoted : ((d.heard q).noteCommand q 1 2).ctx (128 + j) = some c :=
    (Dev.ctx_of_unfold (by simp) _).trans hctx
  refine Dev.serveCommand_ok hadmits ?_
  unfold checkJobCommand
  refine Dev.command_ok_of_effect hallowed ?tests ?effect
  case tests => simp [Dev.checkJobBusy_own hmine, hmine, hruns]
  case effect =>
    by_cases hwork : c.state = 3 ∨ 0 < c.downs
    · simp only [hnoted, if_pos hwork, Dev.holdCheckJob]
    · simp only [hnoted, if_neg hwork, Dev.suspendCheckJob]

theorem serve_checkJobResume (hsuspended : d.checkJobResult j = 2) :
    d.serveCommand q (checkJobCommand q j 3) = d.commanded q 1 3 (Dev.resumeCheckJob j) := by
  have hallowed : (d.heard q).writeForbidden q.index q.sub 3 = false := by simp [hmode]
  refine Dev.serveCommand_ok hadmits (Dev.command_ok (Dev.resumeCheckJob j) hallowed ?_)
  simp [Dev.checkJobBusy_own hmine, hmine, hsuspended]

theorem serve_checkJobAbort :
    d.serveCommand q (checkJobCommand q j 4) = d.commanded q 1 4 (Dev.abortCheckJob j (d.checkJobResult j)) := by
  have hallowed : (d.heard q).writeForbidden q.index q.sub 4 = false := by simp [hmode]
  rw [← Dev.checkJobResult_heard j q d]
  refine Dev.serveCommand_ok hadmits (Dev.command_ok (Dev.abortCheckJob j _) hallowed ?_)
  simp [Dev.checkJobBusy_own hmine, hmine]

end

section
variable (r : Req) (job : Fin 32) (s : State)

theorem exec_checkJobStart : exec (.checkJobStart r job) s = checkJobExec r job.val 1 s := rfl
theorem exec_checkJobSuspend : exec (.checkJobSuspend r job) s = checkJobExec r job.val 2 s := rfl
theorem exec_checkJobResume : exec (.checkJobResume r job) s = checkJobExec r job.val 3 s := rfl
theorem exec_checkJobAbort : exec (.checkJobAbort r job) s = checkJobExec r job.val 4 s := rfl

end

/-- A check-job command changes the device as its request is served. -/
theorem checkJobExec_of_serve {r : Req} {j cmd : Nat} {s : State} {d : Dev}
    (h : s.dev.serveCommand (r.write (0x4200 + j) 4) (checkJobCommand (r.write (0x4200 + j) 4) j cmd) = d) :
    checkJobExec r j cmd s = .next { s with dev := d } := State.next_of_dev h

/-! ### An aborted job (R229, R232) -/

theorem checkResult_ne_dropped (j : Nat) : Obj.CHECK_RESULT j ≠ Obj.DROPPED := by
  unfold Obj.CHECK_RESULT Obj.DROPPED
  omega

theorem checkResult_ne_rxMessages (j : Nat) : Obj.CHECK_RESULT j ≠ Obj.RX_MESSAGES := by
  unfold Obj.CHECK_RESULT Obj.RX_MESSAGES
  omega

theorem dmapState_ne_checkResult (j : Nat) : Obj.DMAP_STATE ≠ Obj.CHECK_RESULT j := by
  unfold Obj.CHECK_RESULT Obj.DMAP_STATE
  omega

section
variable {j : Nat} (hj : j < 32)
include hj

theorem contextOwner_ne_rxMessages : Obj.CONTEXT_OWNER j ≠ Obj.RX_MESSAGES := by
  unfold Obj.CONTEXT_OWNER Obj.RX_MESSAGES
  omega

theorem dmapState_ne_contextOwner : Obj.DMAP_STATE ≠ Obj.CONTEXT_OWNER j := by
  unfold Obj.CONTEXT_OWNER Obj.DMAP_STATE
  omega

theorem checkResult_ne_contextOwner : Obj.CHECK_RESULT j ≠ Obj.CONTEXT_OWNER j := by
  unfold Obj.CONTEXT_OWNER Obj.CHECK_RESULT
  omega

end

theorem Dev.get_commanded {k : Nat} (hk : k ≠ Obj.RX_MESSAGES) (q : Query) (len word : Nat) (effect : Dev → Dev)
    (d : Dev) : (d.commanded q len word effect).get k = (effect ((d.heard q).noteCommand q len word)).get k :=
  Dev.get_done hk q _

theorem Dev.ctx_commanded (p : Nat) (q : Query) (len word : Nat) (effect : Dev → Dev) (d : Dev) :
    (d.commanded q len word effect).ctx p = (effect ((d.heard q).noteCommand q len word)).ctx p :=
  Dev.ctx_of_unfold (Dev.done_unfold q _) p

/-- The end of a check job leaves every object but its result and the count of dropped records. -/
theorem Dev.get_checkJobDone {j k : Nat} (hdropped : k ≠ Obj.DROPPED) (hresult : k ≠ Obj.CHECK_RESULT j) (code : Nat)
    (d : Dev) : (d.checkJobDone j code).get k = d.get k :=
  (Dev.get_raise hdropped _ _ _ _).trans (Dev.get_put_other hresult _ _)

theorem Dev.get_checkJobDone_result (j code : Nat) (d : Dev) : (d.checkJobDone j code).get (Obj.CHECK_RESULT j) = code :=
  (Dev.get_raise (checkResult_ne_dropped j) _ _ _ _).trans (Dev.get_put_same _ _ _)

/-- With no deficit-map output that waits for a context, nothing claims the one that an aborted job releases. -/
theorem Dev.abortCheckJob_of_no_output {j res : Nat} {d : Dev} (hj : j < 32) (h : d.get Obj.DMAP_STATE ≠ 1) :
    d.abortCheckJob j res
      = ((if res = 1 ∨ res = 2 then d.checkJobDone j 6 else d).dropCtx (128 + j)).put (Obj.CONTEXT_OWNER j) 0 := by
  refine Dev.claimMap_of_no_output ?_
  rw [Dev.get_put_other (dmapState_ne_contextOwner hj), Dev.get_dropCtx]
  split
  · rwa [Dev.get_checkJobDone (by decide) (dmapState_ne_checkResult j)]
  · exact h

theorem Dev.abortCheckJob_spec {j res : Nat} {d : Dev} (hj : j < 32) (h : d.get Obj.DMAP_STATE ≠ 1) :
    (d.abortCheckJob j res).ctx (128 + j) = none ∧ (d.abortCheckJob j res).get (Obj.CONTEXT_OWNER j) = 0 ∧
      (res = 1 ∨ res = 2 → (d.abortCheckJob j res).get (Obj.CHECK_RESULT j) = 6) := by
  rw [Dev.abortCheckJob_of_no_output hj h]
  refine ⟨by simp, Dev.get_put_same _ _ _, fun hlive => ?_⟩
  rw [Dev.get_put_other (checkResult_ne_contextOwner hj), Dev.get_dropCtx, if_pos hlive, Dev.get_checkJobDone_result]

/-! ### A unit of a check job (R212, R232) -/

theorem exec_unitComplete (cls : EngineClass) (n work : Nat) (fault : UnitFault) (s : State) :
    exec (.unitComplete cls n work fault) s
      = .next { s with dev := unitCompleteRead (classNum cls) n work fault s.store s.dev } := rfl

/-- The device once a unit's bytes that were not yet fed have been fed, and the bytes done count them. -/
def Dev.unitFed (j cls n : Nat) (c : Context) (mem : Map Byte) (d : Dev) : Dev :=
  let unit := d.checkUnit (128 + j) c mem
  ((d.unhold cls n).feedCheck (128 + j) (unit.drop (c.bitPos / 8))).put (Obj.CHECK_DONE_BYTES j)
    (d.get (Obj.CHECK_DONE_BYTES j) + unit.length)

section
variable {j cls n : Nat} {c : Context} {mem : Map Byte} {d : Dev}

/-- The unit of a check job that an engine holds completes, and what it has read is released (R176). -/
theorem unitCompleteRead_of_checkJob (hj : j < 32) (hholder : d.holder cls n = some (128 + j))
    (hctx : d.ctx (128 + j) = some c) (hjob : d.isCheckJob (128 + j) = true) (work : Nat) :
    unitCompleteRead cls n work .none mem d
      = (d.completeCheck (128 + j) cls n c .none mem).releaseRead
          (d.get (Obj.CHECK_ADDR j) + d.get (Obj.CHECK_DONE_BYTES j))
          (min 4096 (d.get (Obj.CHECK_LENGTH j) - d.get (Obj.CHECK_DONE_BYTES j))) := by
  have hcontext : ¬ 256 ≤ 128 + j := by omega
  simp [unitCompleteRead, unitComplete, Dev.readRange, hholder, hctx, hjob, hcontext]

/-- A unit without a fault feeds its bytes; the last compares check_end with EXPECT, one before it puts the job down where
SUSPEND came during it, and else leads to the next. -/
theorem Dev.completeCheck_without_fault :
    d.completeCheck (128 + j) cls n c .none mem
      = if d.get (Obj.CHECK_LENGTH j) ≤ d.get (Obj.CHECK_DONE_BYTES j) + (d.checkUnit (128 + j) c mem).length then
          ((d.unitFed j cls n c mem).setCtx (128 + j) { c with state := 5, held := 0 }).checkJobDone j
            (if (d.unitFed j cls n c mem).checkEnd (128 + j) = d.get (Obj.EXPECT j) then 3 else 4)
        else if c.held = 2 then
          ((d.unitFed j cls n c mem).setCtx (128 + j) { c with state := 4, held := 0 }).put (Obj.CHECK_RESULT j) 2
        else (d.unitFed j cls n c mem).setCtx (128 + j) { c.newUnit with state := 1 } := by
  unfold Dev.completeCheck
  dsimp only
  rw [Nat.add_sub_cancel_left]
  rfl

end

/-! ### The end of a refill (R228) -/

theorem exec_cellRefillDone (cell : Nat) (s : State) :
    exec (.cellRefillDone cell) s = .next { s with dev := cellRefilled cell s.store s.dev } := rfl

theorem cellRefilled_of_refill {cell : Nat} {d : Dev} (h : (Map.find d.unfold.refills cell).isSome = true)
    (mem : Map Byte) : cellRefilled cell mem d = d.endRefill cell (d.cellPackage.cell mem cell) := if_pos h

/-- A cell that decoded only goes into the cache. -/
theorem Dev.takeCell_decoded {data : CellData} (h : data.fail = none) (cell : Nat) (d : Dev) :
    d.takeCell cell data = d.onUnfold fun u => { u with cells := Map.insert cell data u.cells } := by
  simp only [Dev.takeCell, h]

section
variable {data : CellData} (h : data.fail = none) (cell : Nat) (d : Dev)
include h

theorem Dev.find_cells_endRefill : Map.find (d.endRefill cell data).unfold.cells cell = some data := by
  rw [Dev.endRefill, Dev.takeCell_decoded h]
  exact (Map.find_insert _ _ _ _).trans (if_pos rfl)

theorem Dev.endRefill_parts : (d.endRefill cell data).unfold.parts = d.unfold.parts := by
  rw [Dev.endRefill, Dev.takeCell_decoded h]
  rfl

/-- A context that waited for the cell is ready. -/
theorem Dev.mem_contexts_endRefill {q : Nat} {c : Context} (hmem : (q, c) ∈ d.unfold.contexts) (hstate : c.state = 4)
    (hwaits : c.waits = 2) (hcell : c.waitCell = cell) :
    (q, { c with state := 2, waits := 0 }) ∈ (d.endRefill cell data).unfold.contexts := by
  rw [Dev.endRefill, Dev.takeCell_decoded h]
  exact List.mem_map.mpr ⟨(q, c), hmem, if_pos ⟨hstate, hwaits, hcell⟩⟩

end

end Sys2Proof.Machine

namespace Sys2Proof.Proofs

open Sys2Proof.Machine

/-- Settles O35: the four commands by the effect of each, a unit by its place in the range and a held SUSPEND, and a refill
by what its end leaves. -/
theorem checkJobsAndRefills : Obligations.CheckJobsAndRefills := by
  refine ⟨?commands, ?units, ?refill⟩
  case commands =>
    intro r job s q j awaits start hold suspend resume hadmits hmine hmode
    refine ⟨fun hnotRunning hnotSuspended hlength hrange => ?start, fun c hruns hctx => ?suspend,
      fun hsuspended => ?resume, fun hmap => ?abort⟩
    case start =>
      rw [exec_checkJobStart]
      exact checkJobExec_of_serve (serve_checkJobStart hadmits hmine hmode hnotRunning hnotSuspended hlength hrange)
    case suspend =>
      have hserve := serve_checkJobSuspend hadmits hmine hmode hruns hctx
      rw [exec_checkJobSuspend]
      refine ⟨fun hwork => ?_, fun hout hdowns => ?_⟩
      · rw [if_pos hwork] at hserve
        exact checkJobExec_of_serve hserve
      · rw [if_neg (by simp [hout, hdowns])] at hserve
        exact checkJobExec_of_serve hserve
    case resume =>
      rw [exec_checkJobResume]
      exact checkJobExec_of_serve (serve_checkJobResume hadmits hmine hmode hsuspended)
    case abort =>
      have hnoted : ((s.dev.heard q).noteCommand q 1 4).get Obj.DMAP_STATE ≠ 1 := by
        rwa [Dev.noteCommand, Dev.get_raise (by decide), Dev.heard_get]
      obtain ⟨hctx, howner, hresult⟩ := Dev.abortCheckJob_spec (res := s.dev.checkJobResult j) job.isLt hnoted
      refine ⟨_, checkJobExec_of_serve (serve_checkJobAbort hadmits hmine hmode), rfl, ?_, ?_, fun hlive => ?_⟩
      · exact (Dev.ctx_commanded _ _ _ _ _ _).trans hctx
      · exact (Dev.get_commanded (contextOwner_ne_rxMessages job.isLt) _ _ _ _ _).trans howner
      · exact (Dev.get_commanded (checkResult_ne_rxMessages j) _ _ _ _ _).trans (hresult hlive)
  case units =>
    intro cls n wu j c s hj hholder hctx hjob fed len b d code ends
    have hread := unitCompleteRead_of_checkJob (mem := s.store) hj hholder hctx hjob wu
    rw [Dev.completeCheck_without_fault] at hread
    have hends {e : Dev} (he : unitCompleteRead (classNum cls) n wu .none s.store s.dev
        = e.releaseRead (s.dev.get (Obj.CHECK_ADDR j) + fed) (min 4096 (len - fed))) : ends e :=
      (exec_unitComplete cls n wu .none s).trans (by rw [he])
    exact ⟨Dev.length_checkUnit_le _ _ _ _,
      fun hlast => hends (hread.trans (congrArg (Dev.releaseRead _ _) (if_pos hlast))),
      fun hmore hheld => hends (hread.trans (congrArg (Dev.releaseRead _ _)
        ((if_neg (Nat.not_le.mpr hmore)).trans (if_neg hheld)))),
      fun hmore hheld => hends (hread.trans (congrArg (Dev.releaseRead _ _)
        ((if_neg (Nat.not_le.mpr hmore)).trans (if_pos hheld))))⟩
  case refill =>
    intro cell q c s hrefill hmem hstate hwaits hcell hfail
    refine ⟨_, exec_cellRefillDone cell s, rfl, ?_⟩
    rw [State.with_dev_dev, cellRefilled_of_refill hrefill]
    exact ⟨Dev.find_cells_endRefill hfail cell s.dev, Dev.mem_contexts_endRefill hfail cell s.dev hmem hstate hwaits hcell,
      Dev.endRefill_parts hfail cell s.dev⟩

end Sys2Proof.Proofs
end

section
/-!
PROOFS. Referencing, index edges, the cross-check's latched fault and the return to SC0 (R349, R350, R365, R366):
10_stage_position_and_shot_timing.
-/
namespace Sys2Proof.Machine

/-! ### Bits of a value -/

theorem bitAt_add_two_pow_of_clear {v n m : Nat} (hclear : bitAt v n = false) (hm : m ≠ n) :
    bitAt (v + 2 ^ n) m = bitAt v m := by
  have heven : v / 2 ^ n % 2 = 0 := by simpa [bitAt] using hclear
  rcases Nat.lt_or_gt_of_ne hm with hlow | hhigh
  · obtain ⟨k, rfl⟩ := Nat.exists_eq_add_of_lt hlow
    have hsum : v + 2 ^ (m + k + 1) = v + 2 ^ m * (2 * 2 ^ k) := by
      rw [Nat.add_assoc, Nat.pow_add, Nat.pow_succ']
    rw [bitAt, bitAt, hsum, Nat.add_mul_div_left _ _ (Nat.two_pow_pos m), Nat.add_mul_mod_self_left]
  · obtain ⟨k, rfl⟩ := Nat.exists_eq_add_of_lt hhigh
    have hsplit (w : Nat) : w / 2 ^ (n + k + 1) = w / 2 ^ n / 2 / 2 ^ k := by
      rw [Nat.div_div_eq_div_mul, Nat.div_div_eq_div_mul, show n + k + 1 = n + (k + 1) by omega, Nat.pow_add,
        Nat.pow_succ']
    rw [bitAt, bitAt, hsplit, hsplit, Nat.add_div_right _ (Nat.two_pow_pos n),
      show (v / 2 ^ n).succ / 2 = v / 2 ^ n / 2 by omega]

theorem bitAt_setBit_other {n m : Nat} (hm : m ≠ n) (v : Nat) (b : Bool) : bitAt (setBit v n b) m = bitAt v m := by
  unfold setBit
  split
  case isTrue => rfl
  case isFalse h =>
    cases b with
    | true => exact bitAt_add_two_pow_of_clear (by simpa using h) hm
    | false =>
      have hset : bitAt v n = true := by simpa using h
      have hdiv : (v - 2 ^ n) / 2 ^ n = v / 2 ^ n - 1 := by simpa using Nat.sub_mul_div v (2 ^ n) 1
      have hodd : v / 2 ^ n % 2 = 1 := by simpa [bitAt] using hset
      have hle : 2 ^ n ≤ v := by
        refine Nat.le_of_not_lt fun hlt => ?_
        rw [Nat.div_eq_of_lt hlt] at hodd
        omega
      have hclear : bitAt (v - 2 ^ n) n = false := by
        rw [bitAt, hdiv, decide_eq_false_iff_not]
        omega
      have hback := bitAt_add_two_pow_of_clear hclear hm
      rw [Nat.sub_add_cancel hle] at hback
      exact hback.symm

/-- OVER_RANGE is one of the bits that VALID needs clear (the field map after R375). -/
theorem bits_faults_ne_zero_of_overRange {v : Nat} (h : bitAt v 6 = true) : bits v 6 2 ≠ 0 := by
  simp only [bitAt, decide_eq_true_eq] at h
  simp only [bits]
  omega

/-! ### The position channels of a device -/

/-- STAGE, the rows of the conveyor and the objects 0x6010 to 0x6019 of the position channels. -/
structure Positions where
  stage : Stage
  rows : Map ConvRow
  objs : Fin 0xA00 → Nat

def Dev.positions (d : Dev) : Positions where
  stage := d.stage
  rows := d.conv.rows
  objs := fun i => d.get (0x601000 + i.val)

/-- An object that is none of a position channel. -/
abbrev OffChannels (k : Nat) : Prop := k < 0x601000 ∨ 0x601A00 ≤ k

section
variable {d e : Dev}

theorem Dev.positions_of (hstage : e.stage = d.stage) (hrows : e.conv.rows = d.conv.rows)
    (hobjs : ∀ k, ¬ OffChannels k → e.get k = d.get k) : e.positions = d.positions := by
  have hvalues : e.positions.objs = d.positions.objs := funext fun i => hobjs _ (by have := i.isLt; omega)
  simp only [Dev.positions, Positions.mk.injEq]
  exact ⟨hstage, hrows, hvalues⟩

theorem Dev.stage_of_positions (h : e.positions = d.positions) : e.stage = d.stage := congrArg Positions.stage h

theorem Dev.rows_of_positions (h : e.positions = d.positions) : e.conv.rows = d.conv.rows := congrArg Positions.rows h

theorem Dev.get_of_positions (h : e.positions = d.positions) {k : Nat} (hk : ¬ OffChannels k) : e.get k = d.get k := by
  obtain ⟨i, rfl⟩ := Nat.exists_eq_add_of_le (show 0x601000 ≤ k by omega)
  exact congrFun (congrArg Positions.objs h) ⟨i, by omega⟩

theorem Dev.chan_of_stage (h : e.stage = d.stage) (ch : Nat) : e.chan ch = d.chan ch := by rw [Dev.chan, Dev.chan, h]

end

/-- What no run for a listed element changes, the runs for all of them leave. -/
theorem Dev.of_each_mem {α β : Type} (g : Dev → β) {f : α → Dev → Dev} {l : List α}
    (h : ∀ a ∈ l, ∀ d, g (f a d) = g d) (d : Dev) : g (d.each l f) = g d := by
  induction l generalizing d with
  | nil => rfl
  | cons a l ih =>
    exact (ih (fun b hb => h b (List.mem_cons_of_mem a hb)) (f a d)).trans (h a List.mem_cons_self d)

/-! ### What the entry into SAFE leaves of the position channels -/

theorem Dev.positions_put {k : Nat} (hk : OffChannels k) (v : Nat) (d : Dev) : (d.put k v).positions = d.positions :=
  Dev.positions_of rfl rfl fun j hj => Dev.get_put_other (by omega) v d

@[simp] theorem Dev.positions_raise (a c : Nat) (p : List Nat) (d : Dev) : (d.raise a c p).positions = d.positions :=
  Dev.positions_of (by simp) (by simp) fun k hk => Dev.get_raise (by unfold Obj.DROPPED; omega) a c p d

@[simp] theorem Dev.positions_append (c n : Nat) (b : JournalBody) (d : Dev) :
    (d.append c n b).positions = d.positions :=
  Dev.positions_of (by simp) (by simp) fun _ _ => Dev.get_of_objs (by simp)

theorem Dev.positions_releaseTimer {t : Nat} (ht : t < 16) (d : Dev) : (d.releaseTimer t).positions = d.positions := by
  have howner : OffChannels (Obj.TIMER_OWNER t) := by unfold Obj.TIMER_OWNER; omega
  have hcompare (v : Nat) : OffChannels (Obj.COMPARE_OWNER (bits v 1 0)) := by
    have : bits v 1 0 < 4 := Nat.mod_lt _ (by decide)
    unfold Obj.COMPARE_OWNER; omega
  unfold Dev.releaseTimer Dev.unclaim
  dsimp only
  split
  · split
    · rw [Dev.positions_put (hcompare _), Dev.positions_put howner]
    · rw [Dev.positions_put howner]
  · rw [Dev.positions_put howner]

@[simp] theorem Dev.positions_stopTimers (d : Dev) : d.stopTimers.positions = d.positions := by
  refine Dev.of_each_mem Dev.positions (fun t ht d => ?_) d
  have ht : t < 16 := List.mem_range.mp ht
  split
  · rw [Dev.positions_put (by unfold Obj.TIMER_STATE; omega), Dev.positions_put (by unfold Obj.TIMER_ENABLE; omega),
      Dev.positions_releaseTimer ht]
  · rfl

@[simp] theorem Dev.positions_haltAxes (d : Dev) : d.haltAxes.positions = d.positions := by
  refine Dev.of_each Dev.positions (fun a d => ?_) _ d
  dsimp only
  split
  · exact Dev.positions_put (by unfold Obj.AXIS_STATE; omega) _ _
  · rfl

theorem Dev.positions_pauseChannels (d : Dev) : d.pauseChannels.positions = d.positions := by
  have hfeed (f : HostFeed) : ({ d with feed := f } : Dev).positions = d.positions := rfl
  exact hfeed _

@[simp] theorem Dev.positions_onSafe (d : Dev) : d.onSafe.positions = d.positions := by
  unfold Dev.onSafe
  rw [Dev.positions_pauseChannels, Dev.positions_haltAxes, Dev.positions_stopTimers]
  rfl

@[simp] theorem Dev.positions_claimMap (d : Dev) : d.claimMap.positions = d.positions := by
  unfold Dev.claimMap
  split
  · rfl
  · split
    · rfl
    case h_2 j hj =>
      have hlisted : j < 32 := List.mem_range.mp (List.mem_filter.mp (List.mem_of_getLast? hj)).1
      exact Dev.positions_put (k := Obj.CONTEXT_OWNER j) (by unfold Obj.CONTEXT_OWNER; omega) 0x0600 d

@[simp] theorem Dev.positions_releaseMeasure (d : Dev) : d.releaseMeasure.positions = d.positions := by
  refine (Dev.positions_claimMap _).trans (Dev.of_each_mem Dev.positions (fun j hj d => ?_) d)
  have hj : j < 32 := List.mem_range.mp hj
  split
  · exact Dev.positions_put (by unfold Obj.CONTEXT_OWNER; omega) 0 (d.dropCtx (128 + j))
  · rfl

@[simp] theorem Dev.positions_changeMode (cause : Nat) (m : Mode) (d : Dev) :
    (d.changeMode cause m).positions = d.positions := by
  have hmode (e : Dev) : ({ e with mode := m } : Dev).positions = e.positions := rfl
  unfold Dev.changeMode
  dsimp only
  rw [Dev.positions_raise, hmode]
  split <;> split <;> split <;> simp

@[simp] theorem Dev.positions_blankShot (t : Shot) (d : Dev) : (Dev.blankShot t d).positions = d.positions := by
  unfold Dev.blankShot
  dsimp only
  rw [Dev.positions_raise, Dev.positions_append]
  rfl

@[simp] theorem Dev.positions_blankAll (d : Dev) : d.blankAll.positions = d.positions := by
  unfold Dev.blankAll
  split
  · rfl
  · exact Dev.of_each Dev.positions Dev.positions_blankShot _ d

@[simp] theorem Dev.positions_enterSafe (cause : Nat) (d : Dev) : (d.enterSafe cause).positions = d.positions := by
  unfold Dev.enterSafe
  split <;> simp

@[simp] theorem Dev.positions_journalLevel (d : Dev) : d.journalLevel.positions = d.positions := by
  have hledger (e : Dev) (l : Ledger) : ({ e with ledger := l } : Dev).positions = e.positions := rfl
  unfold Dev.journalLevel
  dsimp only
  split <;> split <;> simp (disch := decide) [Dev.positions_put, hledger]

@[simp] theorem Dev.positions_raiseJ (a c n : Nat) (p : List Nat) (b : List Byte) (d : Dev) :
    (d.raiseJ a c n p b).positions = d.positions := by
  simp [Dev.raiseJ, Dev.journal]

@[simp] theorem Dev.positions_lostValid (ch : Nat) (d : Dev) : (d.lostValid ch).positions = d.positions := by
  unfold Dev.lostValid
  dsimp only
  split
  · split
    · split
      · simp (disch := decide) [Dev.positions_put]
      · split <;> simp
    · split <;> simp
  · split
    · simp (disch := decide) [Dev.positions_put]
    · rfl

/-! ### Either in the mode before, or in SAFE with BLANK_ALL_N -/

/-- From `d` to `e` the mode stayed, unless SAFE was entered with BLANK_ALL_N asserted. -/
def Dev.StaysOrSafe (d e : Dev) : Prop := e.mode = d.mode ∨ (e.mode = .safe ∧ e.blanked = true)

@[simp] theorem Dev.mode_changeMode (cause : Nat) (m : Mode) (d : Dev) : (d.changeMode cause m).mode = m := by
  simp [Dev.changeMode]

@[simp] theorem Dev.mode_blankShot (t : Shot) (d : Dev) : (Dev.blankShot t d).mode = d.mode := by simp [Dev.blankShot]

@[simp] theorem Dev.mode_blankAll (d : Dev) : d.blankAll.mode = d.mode := by
  unfold Dev.blankAll
  split
  · rfl
  · exact Dev.of_each Dev.mode Dev.mode_blankShot _ d

@[simp] theorem Dev.blanked_blankAll (d : Dev) : d.blankAll.blanked = true := by
  unfold Dev.blankAll
  split
  case isTrue h => exact h
  case isFalse => rfl

theorem Dev.enterSafe_of_canSafe {d : Dev} (h : d.mode.canSafe = true) (cause : Nat) :
    (d.enterSafe cause).mode = .safe ∧ (d.enterSafe cause).blanked = true := by
  simp [Dev.enterSafe, h]

theorem Dev.enterSafe_of_not_canSafe {d : Dev} (h : d.mode.canSafe = false) (cause : Nat) : d.enterSafe cause = d := by
  simp [Dev.enterSafe, h]

section
variable {d e f : Dev}

theorem Dev.StaysOrSafe.refl (d : Dev) : d.StaysOrSafe d := .inl rfl

/-- A change of neither the mode nor BLANK_ALL_N. -/
theorem Dev.StaysOrSafe.congr (h : d.StaysOrSafe e) (hmode : f.mode = e.mode) (hblanked : f.blanked = e.blanked) :
    d.StaysOrSafe f := by
  rwa [Dev.StaysOrSafe, hmode, hblanked]

theorem Dev.StaysOrSafe.enterSafe (h : d.StaysOrSafe e) (cause : Nat) : d.StaysOrSafe (e.enterSafe cause) := by
  cases hcan : e.mode.canSafe with
  | true => exact .inr (Dev.enterSafe_of_canSafe hcan cause)
  | false => rwa [Dev.enterSafe_of_not_canSafe hcan]

/-- A fault that follows enters SAFE, if SAFE is not entered already. -/
theorem Dev.StaysOrSafe.safe_enterSafe (h : d.StaysOrSafe e) (hcan : d.mode.canSafe = true) (cause : Nat) :
    (e.enterSafe cause).mode = .safe ∧ (e.enterSafe cause).blanked = true := by
  rcases h with hmode | ⟨hsafe, hblanked⟩
  · exact Dev.enterSafe_of_canSafe (hmode ▸ hcan) cause
  · rw [Dev.enterSafe_of_not_canSafe (by rw [hsafe]; rfl)]
    exact ⟨hsafe, hblanked⟩

theorem Dev.StaysOrSafe.journalLevel (h : d.StaysOrSafe e) : d.StaysOrSafe e.journalLevel := by
  unfold Dev.journalLevel
  dsimp only
  split <;> split
  · exact (h.congr (by simp) (by simp)).enterSafe 6
  · exact h.congr (by simp) (by simp)
  · exact (h.congr (by simp) (by simp)).enterSafe 6
  · exact h

theorem Dev.staysOrSafe_raiseJ (a c n : Nat) (p : List Nat) (b : List Byte) (d : Dev) :
    d.StaysOrSafe (d.raiseJ a c n p b) := by
  have happended : d.StaysOrSafe (d.append c n (.event (p.map (· % 2 ^ 32)) b)) :=
    (Dev.StaysOrSafe.refl d).congr (by simp) (by simp)
  exact happended.journalLevel.congr (Dev.raise_mode ..) (Dev.raise_blanked ..)

theorem Dev.staysOrSafe_lostValid (ch : Nat) (d : Dev) : d.StaysOrSafe (d.lostValid ch) := by
  have hraised (c n : Nat) (p : List Nat) (b : List Byte) := Dev.staysOrSafe_raiseJ srcStage c n p b d
  have hput {e : Dev} (h : d.StaysOrSafe e) (k v : Nat) : d.StaysOrSafe (e.put k v) := h
  unfold Dev.lostValid
  dsimp only
  split
  · split
    · split
      · exact hput (hput (hraised ..) _ _) _ _
      · split
        · exact (hraised ..).enterSafe 6
        · exact .refl d
    · split
      · exact (hraised ..).enterSafe 6
      · exact .refl d
  · split
    · exact hput (hraised ..) _ _
    · exact .refl d

end

/-! ### STATUS of a channel -/

/-- STATUS after `f`, with the VALID that follows from it. -/
def Dev.nextStatus (ch : Nat) (f : Nat → Nat) (d : Dev) : Nat :=
  let s := f (d.get (Obj.CHAN_STATUS ch))
  setBit s 0 (decide (d.get (Obj.CHAN_MODE ch) ≠ 0 ∧ bits s 6 2 = 0)
    && (bitAt s 8 || decide (2 ≤ ch ∧ d.get (Obj.CHAN_MODE ch) = 2)))

theorem Dev.setStatus_cases (ch : Nat) (f : Nat → Nat) (d : Dev) :
    d.setStatus ch f = (d.put (Obj.CHAN_STATUS ch) (d.nextStatus ch f)).lostValid ch ∨
      d.setStatus ch f = d.put (Obj.CHAN_STATUS ch) (d.nextStatus ch f) :=
  Decidable.byCases (fun h => .inl (if_pos h)) fun h => .inr (if_neg h)

theorem Dev.positions_setStatus (ch : Nat) (f : Nat → Nat) (d : Dev) :
    (d.setStatus ch f).positions = (d.put (Obj.CHAN_STATUS ch) (d.nextStatus ch f)).positions := by
  rcases d.setStatus_cases ch f with h | h
  · rw [h, Dev.positions_lostValid]
  · rw [h]

theorem Dev.staysOrSafe_setStatus (ch : Nat) (f : Nat → Nat) (d : Dev) : d.StaysOrSafe (d.setStatus ch f) := by
  rcases d.setStatus_cases ch f with h | h
  · rw [h]
    exact Dev.staysOrSafe_lostValid ch (d.put (Obj.CHAN_STATUS ch) _)
  · rw [h]
    exact .inl rfl

theorem Dev.setStatus_stage (ch : Nat) (f : Nat → Nat) (d : Dev) : (d.setStatus ch f).stage = d.stage :=
  (Dev.stage_of_positions (Dev.positions_setStatus ch f d)).trans (Dev.put_stage ..)

section
variable {ch : Nat} (hch : ch < 10)
include hch

theorem chanStatus_onChannels : ¬ OffChannels (Obj.CHAN_STATUS ch) := by
  unfold Obj.CHAN_STATUS
  omega

theorem lastIndex_onChannels : ¬ OffChannels (Obj.LAST_INDEX ch) := by
  unfold Obj.LAST_INDEX
  omega

theorem Dev.get_setStatus (f : Nat → Nat) (d : Dev) :
    (d.setStatus ch f).get (Obj.CHAN_STATUS ch) = d.nextStatus ch f :=
  (Dev.get_of_positions (Dev.positions_setStatus ch f d) (chanStatus_onChannels hch)).trans (Dev.get_put_same _ _ d)

theorem Dev.bit_setStatus {n : Nat} (hn : n ≠ 0) (f : Nat → Nat) (d : Dev) :
    (d.setStatus ch f).bit (Obj.CHAN_STATUS ch) n = bitAt (f (d.get (Obj.CHAN_STATUS ch))) n := by
  rw [Dev.bit, Dev.get_setStatus hch]
  exact bitAt_setBit_other hn _ _

/-- R342: a channel whose position is held is not VALID. -/
theorem Dev.valid_setStatus_of_overRange {f : Nat → Nat} {d : Dev}
    (h : bitAt (f (d.get (Obj.CHAN_STATUS ch))) 6 = true) : (d.setStatus ch f).valid ch = false := by
  rw [Dev.valid, Dev.bit, Dev.get_setStatus hch]
  refine (bitAt_setBit_same _ 0 _).trans ?_
  rw [decide_eq_false (fun hclear => bits_faults_ne_zero_of_overRange h hclear.2), Bool.false_and]

end

/-! ### An index edge (R347, R349, R350) -/

@[simp] theorem Dev.chan_setChan_same (ch : Nat) (c : Channel) (d : Dev) : (d.setChan ch c).chan ch = c :=
  Map.get_put_same Channel.reset ch c d.stage.chans

theorem Dev.movePos_of_inRange {ch : Nat} {f : Int → Int} {d : Dev} (h : inRange48 (f (d.chan ch).pos) = true) :
    d.movePos ch f = d.setChan ch ((d.chan ch).mapPos f) := if_pos h

/-- What referencing makes of STATUS: REFERENCED, with INDEX_MISMATCH, JUMP, QUAD and OVER_RANGE cleared. -/
def referencedStatus (s : Nat) : Nat :=
  setBit (setBit (setBit (setBit (setBit s 9 false) 4 false) 3 false) 6 false) 8 true

theorem bitAt_referencedStatus (s : Nat) :
    bitAt (referencedStatus s) 8 = true ∧ bitAt (referencedStatus s) 9 = false ∧ bitAt (referencedStatus s) 6 = false ∧
      bitAt (referencedStatus s) 4 = false ∧ bitAt (referencedStatus s) 3 = false := by
  simp [referencedStatus, bitAt_setBit_other, bitAt_setBit_same]

section
variable {ch : Nat} {count : Int} {d : Dev}

theorem Dev.reference_of_inRange
    (h : inRange48 ((d.chan ch).pos + (d.geti 64 (Obj.REF_VALUE ch) - count)) = true) :
    d.reference ch count
      = ((d.setChan ch { d.chan ch with arming := false }).movePos ch
          (fun p => p + (d.geti 64 (Obj.REF_VALUE ch) - count))
        |>.setStatus ch referencedStatus).raise srcStage 0x080C
          [ch, ofSigned 32 (d.geti 64 (Obj.REF_VALUE ch)), ofSigned 64 (d.geti 64 (Obj.REF_VALUE ch)) / 2 ^ 32] := by
  simp only [Dev.reference, Dev.chan_setChan_same, h, Bool.not_true, Bool.false_eq_true, if_false]
  rfl

theorem Dev.reference_of_outOfRange
    (h : inRange48 ((d.chan ch).pos + (d.geti 64 (Obj.REF_VALUE ch) - count)) = false) :
    d.reference ch count
      = (d.setChan ch { d.chan ch with arming := false }).setStatus ch fun s => setBit s 6 true := by
  simp [Dev.reference, h]

/-- R349: the position moves by as much as the latched count is off REF_VALUE. -/
theorem Dev.reference_spec (hch : ch < 10)
    (h : inRange48 ((d.chan ch).pos + (d.geti 64 (Obj.REF_VALUE ch) - count)) = true) :
    ((d.reference ch count).chan ch).pos = (d.chan ch).pos + (d.geti 64 (Obj.REF_VALUE ch) - count) ∧
      ((d.reference ch count).chan ch).arming = false ∧
      ∀ n, n ≠ 0 → (d.reference ch count).bit (Obj.CHAN_STATUS ch) n
        = bitAt (referencedStatus (d.get (Obj.CHAN_STATUS ch))) n := by
  have href := Dev.reference_of_inRange h
  rw [Dev.movePos_of_inRange (by simpa using h)] at href
  have hchan : (d.reference ch count).chan ch
      = { d.chan ch with arming := false }.mapPos fun p => p + (d.geti 64 (Obj.REF_VALUE ch) - count) := by
    rw [href, Dev.chan_of_stage (Dev.raise_stage ..), Dev.chan_of_stage (Dev.setStatus_stage ..)]
    simp
  refine ⟨by rw [hchan]; rfl, by rw [hchan]; rfl, fun n hn => ?_⟩
  rw [href, Dev.bit, Dev.get_raise (by unfold Obj.CHAN_STATUS Obj.DROPPED; omega)]
  exact Dev.bit_setStatus hch hn _ _

/-- R342: a position out of range is not taken. -/
theorem Dev.reference_outOfRange_spec (hch : ch < 10)
    (h : inRange48 ((d.chan ch).pos + (d.geti 64 (Obj.REF_VALUE ch) - count)) = false) :
    (d.reference ch count).chan ch = { d.chan ch with arming := false } ∧
      (d.reference ch count).bit (Obj.CHAN_STATUS ch) 6 = true ∧ (d.reference ch count).valid ch = false := by
  rw [Dev.reference_of_outOfRange h]
  refine ⟨?_, ?_, Dev.valid_setStatus_of_overRange hch (bitAt_setBit_same _ 6 true)⟩
  · rw [Dev.chan_of_stage (Dev.setStatus_stage ..), Dev.chan_setChan_same]
  · rw [Dev.bit_setStatus hch (by decide)]
    exact bitAt_setBit_same _ 6 true

end

/-- How far a latched count is off the one expected at its index (R350). -/
def Dev.indexError (ch : Nat) (count : Int) (d : Dev) : Int :=
  count - expectedIndex (d.geti 64 (Obj.REF_VALUE ch)) (d.get (Obj.REF_SPACING ch)) count

/-- INDEX_MISMATCH is set and recorded, the count latched. -/
def Dev.indexMismatched (ch : Nat) (count : Int) (d : Dev) : Dev :=
  ((d.puti 64 (Obj.LAST_INDEX ch) count).setStatus ch fun s => setBit s 9 true).raise srcStage 0x080B
    [ch, ofSigned 32 (d.indexError ch count), d.get Obj.INDEX_ACTION]

section
variable {ch : Nat} {count : Int} {d : Dev}

theorem Dev.laterIndex_within (h : (d.indexError ch count).natAbs ≤ d.get (Obj.INDEX_TOLERANCE ch)) :
    d.laterIndex ch count = d.puti 64 (Obj.LAST_INDEX ch) count := if_pos h

/-- What follows a mismatch: INDEX_ACTION of the shot source. -/
theorem Dev.laterIndex_beyond (h : d.get (Obj.INDEX_TOLERANCE ch) < (d.indexError ch count).natAbs) :
    d.laterIndex ch count
      = if ch ≠ d.get Obj.SHOT_SOURCE then d.indexMismatched ch count
        else if d.get Obj.INDEX_ACTION = 1 then (d.indexMismatched ch count).pendPause
        else if d.get Obj.INDEX_ACTION = 2 then (d.indexMismatched ch count).enterSafe 6
        else d.indexMismatched ch count := if_neg (Nat.not_le.mpr h)

theorem Dev.positions_laterIndex_beyond (h : d.get (Obj.INDEX_TOLERANCE ch) < (d.indexError ch count).natAbs) :
    (d.laterIndex ch count).positions = (d.indexMismatched ch count).positions := by
  rw [Dev.laterIndex_beyond h]
  split
  · rfl
  · split
    · exact Dev.positions_put (by decide) 1 _
    · split
      · exact Dev.positions_enterSafe 6 _
      · rfl

theorem Dev.positions_indexMismatched :
    (d.indexMismatched ch count).positions
      = ((d.puti 64 (Obj.LAST_INDEX ch) count).setStatus ch fun s => setBit s 9 true).positions :=
  Dev.positions_raise ..

theorem Dev.staysOrSafe_indexMismatched : d.StaysOrSafe (d.indexMismatched ch count) :=
  (Dev.staysOrSafe_setStatus ch _ (d.puti 64 (Obj.LAST_INDEX ch) count)).congr (Dev.raise_mode ..) (Dev.raise_blanked ..)

theorem lastIndex_ne_chanStatus (ch c : Nat) : Obj.LAST_INDEX ch ≠ Obj.CHAN_STATUS c := by
  unfold Obj.LAST_INDEX Obj.CHAN_STATUS
  omega

/-- R350: whatever INDEX_ACTION selects, the count is latched and the channel's position stays. -/
theorem Dev.laterIndex_latches (hch : ch < 10) :
    (d.laterIndex ch count).stage = d.stage ∧
      (d.laterIndex ch count).get (Obj.LAST_INDEX ch) = ofSigned 64 count := by
  rcases Nat.lt_or_ge (d.get (Obj.INDEX_TOLERANCE ch)) (d.indexError ch count).natAbs with hbeyond | hwithin
  · have hpos := (Dev.positions_laterIndex_beyond hbeyond).trans Dev.positions_indexMismatched
    refine ⟨(Dev.stage_of_positions hpos).trans (Dev.setStatus_stage ..), ?_⟩
    rw [Dev.get_of_positions (hpos.trans (Dev.positions_setStatus ..)) (lastIndex_onChannels hch),
      Dev.get_put_other (lastIndex_ne_chanStatus ch ch), Dev.puti, Dev.get_put_same]
  · rw [Dev.laterIndex_within hwithin]
    exact ⟨rfl, Dev.get_put_same ..⟩

theorem Dev.laterIndex_within_spec (h : (d.indexError ch count).natAbs ≤ d.get (Obj.INDEX_TOLERANCE ch)) :
    (d.laterIndex ch count).mode = d.mode ∧
      (d.laterIndex ch count).get (Obj.CHAN_STATUS ch) = d.get (Obj.CHAN_STATUS ch) := by
  rw [Dev.laterIndex_within h]
  exact ⟨rfl, Dev.get_put_other (lastIndex_ne_chanStatus ch ch).symm _ d⟩

theorem Dev.laterIndex_beyond_spec (hch : ch < 10)
    (h : d.get (Obj.INDEX_TOLERANCE ch) < (d.indexError ch count).natAbs) :
    (d.laterIndex ch count).bit (Obj.CHAN_STATUS ch) 9 = true ∧
      (ch = d.get Obj.SHOT_SOURCE → d.get Obj.INDEX_ACTION = 1 → (d.laterIndex ch count).get Obj.PAUSE_PENDING = 1) ∧
      (ch = d.get Obj.SHOT_SOURCE → d.get Obj.INDEX_ACTION = 2 → d.mode.canSafe = true →
        (d.laterIndex ch count).mode = .safe ∧ (d.laterIndex ch count).blanked = true) := by
  refine ⟨?_, fun hsource haction => ?_, fun hsource haction hcan => ?_⟩
  · have hpos := (Dev.positions_laterIndex_beyond h).trans Dev.positions_indexMismatched
    rw [Dev.bit, Dev.get_of_positions hpos (chanStatus_onChannels hch)]
    exact (Dev.bit_setStatus hch (by decide) _ _).trans (bitAt_setBit_same _ 9 true)
  · rw [Dev.laterIndex_beyond h, if_neg (not_not_intro hsource), if_pos haction]
    exact Dev.get_put_same ..
  · rw [Dev.laterIndex_beyond h, if_neg (not_not_intro hsource), if_neg (by rw [haction]; decide), if_pos haction]
    exact Dev.staysOrSafe_indexMismatched.safe_enterSafe hcan 6

end

/-- An index edge uses up the count that the edge of Z has latched (R347). -/
def Dev.forgetZ (ch : Nat) (d : Dev) : Dev := d.setChan ch { d.chan ch with zAt := none }

@[simp] theorem Dev.chan_forgetZ (ch : Nat) (d : Dev) : (d.forgetZ ch).chan ch = { d.chan ch with zAt := none } :=
  Dev.chan_setChan_same ..

@[simp] theorem Dev.bit_forgetZ (k n ch : Nat) (d : Dev) : (d.forgetZ ch).bit k n = d.bit k n := rfl

section
variable {ch : Nat} {count n : Int} {d : Dev} (hrun : d.running = true) (hcount : d.indexCount ch count = some n)
include hrun hcount

/-- A latched count goes to an armed channel's referencing, to a referenced channel's check, or nowhere. -/
theorem index_of_count :
    index ch count d = if (d.chan ch).arming = true then (d.forgetZ ch).reference ch n
      else if d.bit (Obj.CHAN_STATUS ch) 8 = true then (d.forgetZ ch).laterIndex ch n
      else d.forgetZ ch := by
  have hgoes : ¬ ¬ d.running = true := not_not_intro hrun
  have harming : ((d.forgetZ ch).chan ch).arming = (d.chan ch).arming := by simp
  rw [← Dev.bit_forgetZ _ _ ch d, ← harming]
  simp only [index, if_neg hgoes, hcount]
  rfl

theorem index_of_arming (harm : (d.chan ch).arming = true) : index ch count d = (d.forgetZ ch).reference ch n :=
  (index_of_count hrun hcount).trans (if_pos harm)

theorem index_of_referenced (harm : (d.chan ch).arming = false) (href : d.bit (Obj.CHAN_STATUS ch) 8 = true) :
    index ch count d = (d.forgetZ ch).laterIndex ch n :=
  (index_of_count hrun hcount).trans ((if_neg (by simp [harm])).trans (if_pos href))

end

theorem exec_index (ch : Fin 10) (count : Int) (s : State) :
    exec (.index ch count) s = .next { s with dev := index ch.val count s.dev } := rfl

/-! ### Commands -/

theorem firstAbort_of_same (a : Abort) (b : Bool) (ts : List (Abort × Bool)) :
    firstAbort ((a, b) :: (a, true) :: ts) = some a := by
  cases b <;> simp

theorem Dev.command_refuse {q : Query} {len word : Nat} {tests : List (Abort × Bool)} {effect : Dev → Dev} {d : Dev}
    {a : Abort} (h : firstAbort ((.stateForbids, d.writeForbidden q.index q.sub word) :: tests) = some a) :
    d.command q len word tests effect = .refuse a d := by
  simp only [Dev.command, h]

@[simp] theorem Dev.crossChannel_heard (q : Query) (d : Dev) : (d.heard q).crossChannel = d.crossChannel :=
  d.of_heard Dev.crossChannel q fun _ => rfl

@[simp] theorem Dev.valid_heard (ch : Nat) (q : Query) (d : Dev) : (d.heard q).valid ch = d.valid ch :=
  d.of_heard (Dev.valid ch) q fun _ => rfl

@[simp] theorem Dev.stage_commanded (q : Query) (len word : Nat) (effect : Dev → Dev) (d : Dev) :
    (d.commanded q len word effect).stage = (effect ((d.heard q).noteCommand q len word)).stage := Dev.done_stage _ _

/-- REF_COMMAND of a channel that the running job uses is refused (R349). -/
def Dev.refForbidden (ch : Nat) (d : Dev) : Prop :=
  (ch = d.get Obj.SHOT_SOURCE ∨ d.crossChannel = some ch) ∧
    (d.mode = .write ∨ d.mode = .mend ∨ d.mode = .hold ∨ d.mode = .measure)

/-- REF_COMMAND `v` arms referencing or cancels it. -/
def Dev.setArming (ch v : Nat) (d : Dev) : Dev := d.setChan ch { d.chan ch with arming := decide (v = 1) }

section
variable {q : Query} {ch v : Nat} {d : Dev} (hadmits : d.Admits q)
include hadmits

theorem serve_refCommand (hallowed : d.writeForbidden q.index q.sub v = false) (hfree : ¬ d.refForbidden ch)
    (hv : v = 1 ∨ v = 2) : d.serveCommand q (refCommand q ch v) = d.commanded q 1 v (Dev.setArming ch v) := by
  refine Dev.serveCommand_ok hadmits (Dev.command_ok (Dev.setArming ch v) (by simpa using hallowed) ?_)
  have hrange : ¬ (v = 0 ∨ 2 < v) := by omega
  unfold Dev.refForbidden at hfree
  rw [← Bool.decide_or, ← Bool.decide_and]
  simp only [Dev.heard_get, Dev.crossChannel_heard, Dev.heard_mode, hfree, hrange, decide_false, firstAbort_pass,
    firstAbort_nil]

theorem serve_refCommand_refused (hused : d.refForbidden ch) :
    d.serveCommand q (refCommand q ch v) = (d.heard q).refuse q .stateForbids := by
  refine Dev.serveCommand_refuse hadmits (Dev.command_refuse ?_)
  unfold Dev.refForbidden at hused
  rw [← Bool.decide_or, ← Bool.decide_and]
  simp only [Dev.heard_get, Dev.crossChannel_heard, Dev.heard_mode, hused, and_self, decide_true]
  exact firstAbort_of_same ..

end

theorem Dev.setArming_commanded (q : Query) (ch v : Nat) (d : Dev) :
    (d.commanded q 1 v (Dev.setArming ch v)).chan ch = { d.chan ch with arming := decide (v = 1) } := by
  have hheard : ((d.heard q).noteCommand q 1 v).chan ch = d.chan ch := Dev.chan_of_stage (by simp) ch
  rw [Dev.chan_of_stage (Dev.stage_commanded ..), Dev.setArming, Dev.chan_setChan_same, hheard]

section
variable {r : Req} {ch : Fin 10} {s : State} {d : Dev}

theorem exec_refArm_of_serve
    (h : s.dev.serveCommand (r.write (0x6010 + ch.val) 8) (refCommand (r.write (0x6010 + ch.val) 8) ch.val 1) = d) :
    exec (.refArm r ch) s = .next { s with dev := d } := State.next_of_dev h

theorem exec_refCancel_of_serve
    (h : s.dev.serveCommand (r.write (0x6010 + ch.val) 8) (refCommand (r.write (0x6010 + ch.val) 8) ch.val 2) = d) :
    exec (.refCancel r ch) s = .next { s with dev := d } := State.next_of_dev h

theorem exec_returnToSc0_of_serve
    (h : s.dev.serveCommand (r.write 0x6030 7) (crossCommand (r.write 0x6030 7) 1) = d) :
    exec (.returnToSc0 r) s = .next { s with dev := d } := State.next_of_dev h

end

/-! ### The cross-check (R364 to R366) -/

theorem exec_crossDisagree (s : State) : exec .crossDisagree s = .next { s with dev := crossDisagree s.dev } := rfl

theorem crossDisagree_of_disagreement {c : Nat} {d : Dev} (hcross : d.crossChannel = some c)
    (hstate : d.get Obj.CROSS_STATE = 1) (hsamples : d.get Obj.SAMPLES ≤ d.stage.disagree) (hvalid0 : d.valid 0 = true)
    (hvalid : d.valid c = true) (hcan : d.mode.canSafe = true) :
    crossDisagree d
      = (d.raiseJ srcStage 0x0809 d.ssnNext [d.get Obj.DIFFERENCE, c, lo32 d.ssnNext] []).enterSafe 6 := by
  simp only [crossDisagree, hcross]
  exact if_pos ⟨hstate, hsamples, hvalid0, hvalid, hcan⟩

/-- COMMAND 1 of the cross-check: the shot source is SC0 again, and the check is active where it had taken over. -/
def Dev.takeBackSc0 (d : Dev) : Dev :=
  (d.put Obj.SHOT_SOURCE 0).when (decide (d.get Obj.CROSS_STATE = 2)) (Dev.put Obj.CROSS_STATE 1)

theorem Dev.takeBackSc0_spec (d : Dev) :
    d.takeBackSc0.get Obj.SHOT_SOURCE = 0 ∧ d.takeBackSc0.mode = d.mode ∧ d.takeBackSc0.stage = d.stage ∧
      (d.get Obj.CROSS_STATE = 2 → d.takeBackSc0.get Obj.CROSS_STATE = 1) := by
  have hsource : (d.put Obj.SHOT_SOURCE 0).get Obj.SHOT_SOURCE = 0 := Dev.get_put_same ..
  by_cases hover : d.get Obj.CROSS_STATE = 2
  · have h : d.takeBackSc0 = (d.put Obj.SHOT_SOURCE 0).put Obj.CROSS_STATE 1 := if_pos (decide_eq_true hover)
    rw [h]
    exact ⟨(Dev.get_put_other (by decide) 1 _).trans hsource, rfl, rfl, fun _ => Dev.get_put_same ..⟩
  · have h : d.takeBackSc0 = d.put Obj.SHOT_SOURCE 0 := if_neg (by simpa using hover)
    rw [h]
    exact ⟨hsource, rfl, rfl, fun h => absurd h hover⟩

/-- R102 keeps configuration and service from no object below the diagnostic ones. -/
theorem Dev.writeForbidden_of_setup_ready_service {d : Dev} {index : Nat}
    (hmode : d.mode = .setup ∨ d.mode = .ready ∨ d.mode = .service) (hindex : index < 0xF000) (sub v : Nat) :
    d.writeForbidden index sub v = false := by
  have hdiagnostic : decide (0xF000 ≤ index) = false := decide_eq_false (Nat.not_le.mpr hindex)
  rcases hmode with h | h | h <;> simp only [Dev.writeForbidden, h, hdiagnostic]

section
variable {r : Req} {d : Dev} (hadmits : d.Admits (r.write 0x6030 7))
include hadmits

theorem serve_returnToSc0 (hmode : d.mode = .setup ∨ d.mode = .ready ∨ d.mode = .service) (hvalid : d.valid 0 = true) :
    d.serveCommand (r.write 0x6030 7) (crossCommand (r.write 0x6030 7) 1)
      = d.commanded (r.write 0x6030 7) 1 1 Dev.takeBackSc0 := by
  refine Dev.serveCommand_ok hadmits (Dev.command_ok Dev.takeBackSc0 ?_ ?_)
  · exact Dev.writeForbidden_of_setup_ready_service (by simpa using hmode) (by decide : 0x6030 < 0xF000) _ _
  · have hhere : ¬ (d.mode ≠ .setup ∧ d.mode ≠ .ready ∧ d.mode ≠ .service) :=
    fun ⟨hsetup, hready, hservice⟩ => hmode.elim hsetup fun hrest => hrest.elim hready hservice
    simp [hhere, hvalid]

theorem serve_returnToSc0_invalid (hmode : d.mode = .setup ∨ d.mode = .ready ∨ d.mode = .service)
    (hvalid : d.valid 0 = false) :
    d.serveCommand (r.write 0x6030 7) (crossCommand (r.write 0x6030 7) 1)
      = (d.heard (r.write 0x6030 7)).refuse (r.write 0x6030 7) .check := by
  refine Dev.serveCommand_refuse hadmits (Dev.command_refuse ?_)
  have hallowed := Dev.writeForbidden_of_setup_ready_service hmode (by decide : 0x6030 < 0xF000) 7 1
  have hhere : ¬ (d.mode ≠ .setup ∧ d.mode ≠ .ready ∧ d.mode ≠ .service) :=
    fun ⟨hsetup, hready, hservice⟩ => hmode.elim hsetup fun hrest => hrest.elim hready hservice
  simp [Req.write, hallowed, hhere, hvalid]

theorem serve_returnToSc0_elsewhere (hmode : d.mode ≠ .setup ∧ d.mode ≠ .ready ∧ d.mode ≠ .service) :
    d.serveCommand (r.write 0x6030 7) (crossCommand (r.write 0x6030 7) 1)
      = (d.heard (r.write 0x6030 7)).refuse (r.write 0x6030 7) .stateForbids := by
  refine Dev.serveCommand_refuse hadmits (Dev.command_refuse ?_)
  rw [Dev.heard_mode, decide_eq_true hmode]
  exact firstAbort_of_same ..

end

end Sys2Proof.Machine

namespace Sys2Proof.Proofs

open Sys2Proof.Machine

/-- Settles O45: REF_COMMAND by whether the running job uses the channel, an index edge by whether the channel is armed or
referenced, and a fault that enters SAFE by what `Dev.positions` keeps and `Dev.StaysOrSafe` allows. -/
theorem referencesIndexesAndCrossChecks : Obligations.ReferencesIndexesAndCrossChecks := by
  refine ⟨?commands, ?edges, ?disagree, ?back, ?elsewhere⟩
  case commands =>
    intro r ch s q used busy hadmits
    refine ⟨fun hallowed hfree => ?arm, fun hallowed hfree => ?cancel, fun _ hused => ⟨?_, ?_⟩⟩
    case arm =>
      refine ⟨_, exec_refArm_of_serve (serve_refCommand hadmits hallowed hfree (.inl rfl)), rfl, ?_⟩
      rw [State.with_dev_dev, Dev.setArming_commanded]
      exact ⟨rfl, rfl⟩
    case cancel =>
      refine ⟨_, exec_refCancel_of_serve (serve_refCommand hadmits hallowed hfree (.inr rfl)), rfl, ?_⟩
      rw [State.with_dev_dev, Dev.setArming_commanded]
      exact ⟨rfl, rfl⟩
    · exact exec_refArm_of_serve (serve_refCommand_refused hadmits hused)
    · exact exec_refCancel_of_serve (serve_refCommand_refused hadmits hused)
  case edges =>
    intro ch count n s hrun hcount c ref off
    refine ⟨fun harm hrange => ?taken, fun harm hrange => ?held, fun harm href => ?later⟩
    case taken =>
      have hrange' : inRange48 (((s.dev.forgetZ ch).chan ch).pos + ((s.dev.forgetZ ch).geti 64 (Obj.REF_VALUE ch) - n))
          = true := by rwa [Dev.chan_forgetZ]
      obtain ⟨hpos, harming, hbits⟩ := Dev.reference_spec ch.isLt hrange'
      obtain ⟨h8, h9, h6, h4, h3⟩ := bitAt_referencedStatus (s.dev.get (Obj.CHAN_STATUS ch.val))
      refine ⟨_, exec_index ch count s, rfl, ?_⟩
      rw [State.with_dev_dev, index_of_arming hrun hcount harm, hpos, Dev.chan_forgetZ]
      exact ⟨rfl, harming, (hbits 8 (by decide)).trans h8, (hbits 9 (by decide)).trans h9,
        (hbits 6 (by decide)).trans h6, (hbits 4 (by decide)).trans h4, (hbits 3 (by decide)).trans h3⟩
    case held =>
      have hrange' : inRange48 (((s.dev.forgetZ ch).chan ch).pos + ((s.dev.forgetZ ch).geti 64 (Obj.REF_VALUE ch) - n))
          = false := by rwa [Dev.chan_forgetZ]
      obtain ⟨hchan, hover, hinvalid⟩ := Dev.reference_outOfRange_spec ch.isLt hrange'
      refine ⟨_, exec_index ch count s, rfl, ?_⟩
      rw [State.with_dev_dev, index_of_arming hrun hcount harm, hchan, Dev.chan_forgetZ]
      exact ⟨rfl, rfl, hover, hinvalid⟩
    case later =>
      obtain ⟨hstage, hlatched⟩ := Dev.laterIndex_latches (count := n) (d := s.dev.forgetZ ch) ch.isLt
      refine ⟨_, exec_index ch count s, rfl, ?_⟩
      rw [State.with_dev_dev, index_of_referenced hrun hcount harm href, Dev.chan_of_stage hstage, Dev.chan_forgetZ]
      exact ⟨rfl, hlatched, Dev.laterIndex_within_spec (d := s.dev.forgetZ ch),
        Dev.laterIndex_beyond_spec (d := s.dev.forgetZ ch) ch.isLt⟩
  case disagree =>
    intro s c hcross hstate hsamples hvalid0 hvalid hcan
    refine ⟨_, exec_crossDisagree s, rfl, ?_⟩
    rw [State.with_dev_dev, crossDisagree_of_disagreement hcross hstate hsamples hvalid0 hvalid hcan]
    obtain ⟨hsafe, hblanked⟩ := (Dev.staysOrSafe_raiseJ srcStage 0x0809 s.dev.ssnNext
      [s.dev.get Obj.DIFFERENCE, c, lo32 s.dev.ssnNext] [] s.dev).safe_enterSafe hcan 6
    have hpos := (Dev.positions_enterSafe 6 _).trans (Dev.positions_raiseJ srcStage 0x0809 s.dev.ssnNext
      [s.dev.get Obj.DIFFERENCE, c, lo32 s.dev.ssnNext] [] s.dev)
    exact ⟨hsafe, hblanked, Dev.rows_of_positions hpos, Dev.stage_of_positions hpos⟩
  case back =>
    intro r s q hadmits hmode
    refine ⟨fun hvalid => ?_, fun hinvalid => ?_⟩
    · refine ⟨_, exec_returnToSc0_of_serve (serve_returnToSc0 hadmits hmode hvalid), rfl, ?_⟩
      obtain ⟨hsource, hkept, hstage, hcross⟩ := Dev.takeBackSc0_spec ((s.dev.heard q).noteCommand q 1 1)
      refine ⟨?_, ?_, ?_, fun hover => ?_⟩
      · exact (Dev.get_commanded (by decide) ..).trans hsource
      · exact (Dev.done_mode ..).trans (hkept.trans (by simp))
      · exact (Dev.stage_commanded ..).trans (hstage.trans (by simp))
      · refine (Dev.get_commanded (by decide) ..).trans (hcross ?_)
        rwa [Dev.noteCommand, Dev.get_raise (by decide), Dev.heard_get]
    · exact exec_returnToSc0_of_serve (serve_returnToSc0_invalid hadmits hmode hinvalid)
  case elsewhere =>
    intro r s q hadmits hsetup hready hservice
    exact exec_returnToSc0_of_serve (serve_returnToSc0_elsewhere hadmits ⟨hsetup, hready, hservice⟩)

end Sys2Proof.Proofs
end

section
/-!
PROOFS. The wait for echoes while RAW passes (R449) on a device whose pattern generators are not confined to the 144 lanes:
13_dose_ledger_and_recovery.
-/
namespace Sys2Proof.Machine

/-! ### The counterexample -/

/-- The bit count of a lane number beyond the 144 that pattern commands take is ECHO_WAIT; the statement's premises admit a
state that lists such a number. -/
theorem patBits_strayLane : Obj.PAT_BITS 7936 = Obj.ECHO_WAIT := rfl

/-- A cut stripe none of whose shots was disposed of. -/
def cutAtOpening : Cut := { ssnBase := 0, c := 0, disposed := 0, rowsDone := 0, echoes := [] }

/-- A device in SERVICE that has read echoes since RAW 0, with ECHO_WAIT at its default of 100 ms, while a locked pattern in
loopback is listed for lane 7936. -/
def strayPattern : State :=
  { State.reset with dev := { Dev.reset with
      mode := .service
      objs := [(Obj.LOOPBACK 7936, 1), (Obj.RECOVERY_STATE, 1)]
      link := { Link.reset with patterns := [(7936, { before := 0, sent := 0, clean := 64, inject := false })] }
      rescue := { at_ := 0, cut := some cutAtOpening, seen := [] } } }

/-- The 10^9 bits that the pattern's generator sends in 100 ms are counted into ECHO_WAIT. -/
theorem echoWait_strayPattern_at : (strayPattern.dev.at 100000000).get Obj.ECHO_WAIT = 1000000100 := by
  rw [← patBits_strayLane]
  decide +kernel

/-- Before ECHO_WAIT is over and with fewer than 64 segments heard, recovery goes on reading echoes. -/
theorem echoWait_of_early {raw : Nat} {d : Dev}
    (hearly : (d.at raw).clock.raw < (d.at raw).rescue.at_ + (d.at raw).get Obj.ECHO_WAIT * 1000000)
    (hheard : (d.at raw).rescue.seen.length < 64) : echoWait raw d = d.at raw := by
  have hwaits : (d.at raw).get Obj.RECOVERY_STATE ≠ 1 ∨ (d.at raw).mode ≠ .service ∨
      ¬ ((d.at raw).rescue.at_ + (d.at raw).get Obj.ECHO_WAIT * 1000000 ≤ (d.at raw).clock.raw ∨
        64 ≤ (d.at raw).rescue.seen.length) := .inr (.inr (by omega))
  unfold echoWait
  dsimp only
  split
  · rfl
  · exact if_pos hwaits

/-- 100 ms after the start recovery still reads echoes: the wait is now 1,000,000,100 ms. -/
theorem exec_echoWait_strayPattern :
    exec (.echoWait 100000000) strayPattern
      = .next { strayPattern with dev := strayPattern.dev.at 100000000 } := by
  have hearly : (strayPattern.dev.at 100000000).clock.raw < (strayPattern.dev.at 100000000).rescue.at_
      + (strayPattern.dev.at 100000000).get Obj.ECHO_WAIT * 1000000 := by
    rw [echoWait_strayPattern_at]
    decide +kernel
  exact State.next_of_dev (echoWait_of_early hearly (by decide +kernel))

end Sys2Proof.Machine

namespace Sys2Proof.Proofs

open Sys2Proof.Machine

/-- Refutes O51, in its first clause: no premise confines the patterns to the lanes that exist. `strayPattern` meets the
premises at RAW 100 ms and lists a pattern whose bit count is ECHO_WAIT itself, so that the time until then lengthens the wait
and RECOVERY_STATE stays 1 where the clause has 2. The pattern commands, of lanes 0 to 143, lead to no such state. -/
theorem not_recoveryDecisionsAndMaps : ¬ Obligations.RecoveryDecisionsAndMaps := by
  unfold Obligations.RecoveryDecisionsAndMaps
  rintro ⟨hechoes, -⟩
  have hlate : strayPattern.dev.rescue.at_ + strayPattern.dev.get Obj.ECHO_WAIT * 1000000 ≤ 100000000 := by decide +kernel
  obtain ⟨t, hnext, -, -, -, hstate⟩ := hechoes 100000000 cutAtOpening strayPattern rfl (by decide +kernel) rfl
    (by decide +kernel) (.inl hlate)
  rw [exec_echoWait_strayPattern] at hnext
  obtain rfl : _ = t := Host.Outcome.next.inj hnext
  have hkept : strayPattern.dev.get Obj.CONTENTS_KEPT = 0 := by decide +kernel
  have hreading : (strayPattern.dev.at 100000000).get Obj.RECOVERY_STATE = 1 := by decide +kernel
  rw [State.with_dev_dev, hreading, hkept] at hstate
  exact absurd hstate (by decide)

end Sys2Proof.Proofs
end

section
/-!
PROOFS. The clock and its servo, delay samples and path holds, holdover, the PTP port and STEP_AGAIN (R505 to R516): 16_time.
-/
namespace Sys2Proof.Machine

/-! ### The ledger and the conveyor -/

/-- What the time leaves as it is wherever it is measured: the ledger and the conveyor. -/
def Dev.exposure (d : Dev) : Ledger × Conveyor := (d.ledger, d.conv)

theorem Dev.ledger_of_exposure {d e : Dev} (h : e.exposure = d.exposure) : e.ledger = d.ledger := congrArg Prod.fst h

theorem Dev.conv_of_exposure {d e : Dev} (h : e.exposure = d.exposure) : e.conv = d.conv := congrArg Prod.snd h

@[simp] theorem Dev.exposure_put (k v : Nat) (d : Dev) : (d.put k v).exposure = d.exposure := rfl
@[simp] theorem Dev.exposure_puti (w k : Nat) (v : Int) (d : Dev) : (d.puti w k v).exposure = d.exposure := rfl
@[simp] theorem Dev.exposure_putBlob (k : Nat) (b : List Byte) (d : Dev) : (d.putBlob k b).exposure = d.exposure := rfl
@[simp] theorem Dev.exposure_bump (k : Nat) (d : Dev) : (d.bump k).exposure = d.exposure := rfl
@[simp] theorem Dev.exposure_onClock (f : Clock → Clock) (d : Dev) : (d.onClock f).exposure = d.exposure := rfl
@[simp] theorem Dev.exposure_setRate (raw : Nat) (rho : Int) (d : Dev) : (d.setRate raw rho).exposure = d.exposure := rfl

@[simp] theorem Dev.exposure_raise (a c : Nat) (p : List Nat) (d : Dev) : (d.raise a c p).exposure = d.exposure := by
  simp [Dev.exposure]

/-! ### RAW moves to an instant (R504) -/

@[simp] theorem Dev.exposure_cyclesAbove (source i n cycles : Nat) (d : Dev) :
    (d.cyclesAbove source i n cycles).2.exposure = d.exposure := by
  unfold Dev.cyclesAbove
  split
  · rfl
  · split <;> rfl

@[simp] theorem Dev.exposure_countThreshold (raw n t : Nat) (d : Dev) :
    (Dev.countThreshold raw n t d).exposure = d.exposure := by
  unfold Dev.countThreshold
  split
  · rfl
  · exact Dev.exposure_cyclesAbove ..

@[simp] theorem Dev.exposure_countTimers (n : Nat) (d : Dev) : (d.countTimers n).exposure = d.exposure := by
  refine Dev.of_each Dev.exposure (fun t d => ?_) _ d
  split <;> rfl

@[simp] theorem Dev.exposure_countPattern (n lane : Nat) (d : Dev) : (Dev.countPattern n lane d).exposure = d.exposure := by
  unfold Dev.countPattern
  dsimp only
  split
  · rfl
  · split
    · rfl
    · split <;> rfl

@[simp] theorem Dev.exposure_advance (n : Nat) (d : Dev) : (d.advance n).exposure = d.exposure := by
  unfold Dev.advance
  by_cases hn : n = 0
  · rw [if_pos hn]
  · rw [if_neg hn]
    dsimp only
    rw [Dev.of_each Dev.exposure (Dev.exposure_countPattern n), Dev.exposure_countTimers,
      Dev.of_each Dev.exposure (Dev.exposure_countThreshold d.clock.raw n)]
    rfl

@[simp] theorem Dev.exposure_at (raw : Nat) (d : Dev) : (d.at raw).exposure = d.exposure := Dev.exposure_advance ..

/-! ### Objects -/

@[simp] theorem Dev.get_onClock (k : Nat) (f : Clock → Clock) (d : Dev) : (d.onClock f).get k = d.get k := rfl
@[simp] theorem Dev.get_setRate (k raw : Nat) (rho : Int) (d : Dev) : (d.setRate raw rho).get k = d.get k := rfl
@[simp] theorem Dev.get_putBlob (j k : Nat) (b : List Byte) (d : Dev) : (d.putBlob k b).get j = d.get j := rfl

@[simp] theorem Dev.get_puti_same (w k : Nat) (v : Int) (d : Dev) : (d.puti w k v).get k = ofSigned w v :=
  Dev.get_put_same ..

theorem Dev.get_puti_other {k j : Nat} (h : j ≠ k) (w : Nat) (v : Int) (d : Dev) : (d.puti w k v).get j = d.get j :=
  Dev.get_put_other h ..

@[simp] theorem Dev.get_bump_same (k : Nat) (d : Dev) : (d.bump k).get k = (d.get k + 1) % 2 ^ 32 := Dev.get_put_same ..

theorem Dev.get_bump_other {k j : Nat} (h : j ≠ k) (d : Dev) : (d.bump k).get j = d.get j := Dev.get_put_other h ..

@[simp] theorem Dev.onClock_clock (f : Clock → Clock) (d : Dev) : (d.onClock f).clock = f d.clock := rfl

/-! ### The rate (R505, R506) -/

theorem natAbs_clampInt_rate_le (v : Int) : (clampInt (-rateMax) rateMax v).natAbs ≤ 140737488355 := by
  unfold clampInt rateMax
  split
  · omega
  · split <;> omega

theorem clampInt_rate_of_natAbs_le {v : Int} (h : v.natAbs ≤ 140737488355) : clampInt (-rateMax) rateMax v = v := by
  unfold clampInt rateMax
  split
  · omega
  · split <;> omega

section
variable (raw : Nat) (rho : Int) (d : Dev)

theorem Dev.setRate_omega : (d.setRate raw rho).clock.omega
    = d.clock.omega + raw * d.clock.rho / 4294967296 - raw * (d.setRate raw rho).clock.rho / 4294967296 := rfl

/-- R506: the change of ω makes up for that of ρ. -/
@[simp] theorem Dev.timeAt_setRate : (d.setRate raw rho).timeAt raw = d.timeAt raw := by
  simp only [Dev.timeAt, Dev.setRate_omega]
  omega

end

theorem Dev.timeAt_of_clock {d e : Dev} (hrho : e.clock.rho = d.clock.rho) (homega : e.clock.omega = d.clock.omega)
    (raw : Nat) : e.timeAt raw = d.timeAt raw := by simp only [Dev.timeAt, hrho, homega]

/-! ### The count toward LOCKED (R514) -/

/-- The samples counted within and beyond LOCK_THRESHOLD. -/
def Dev.recounted (w b : Nat) (d : Dev) : Dev := d.onClock fun c => { c with within := w, beyond := b }

/-- A sample changes the counts, and at the limit the state between LOCKING and LOCKED with its record. -/
theorem Dev.lockCount_cases (theta : Int) (d : Dev) : ∃ w b, d.lockCount theta = d.recounted w b ∨
    ∃ state code ps, (state = 1 ∨ state = 2) ∧
      d.lockCount theta = ((d.recounted w b).put Obj.SERVO_STATE state).raise 0x4600 code ps := by
  unfold Dev.lockCount
  extract_lets inside need counted mag
  split
  · exact ⟨0, 0, .inr ⟨2, _, _, .inr rfl, rfl⟩⟩
  · split
    · exact ⟨0, 0, .inr ⟨1, _, _, .inl rfl, rfl⟩⟩
    · exact ⟨_, _, .inl rfl⟩

section
variable (theta : Int) (d : Dev)

theorem Dev.lockCount_clock : ∃ w b, (d.lockCount theta).clock = { d.clock with within := w, beyond := b } := by
  obtain ⟨w, b, h | ⟨state, code, ps, -, h⟩⟩ := d.lockCount_cases theta
  · exact ⟨w, b, congrArg Dev.clock h⟩
  · exact ⟨w, b, (congrArg Dev.clock h).trans (Dev.raise_clock ..)⟩

@[simp] theorem Dev.exposure_lockCount : (d.lockCount theta).exposure = d.exposure := by
  obtain ⟨w, b, h | ⟨state, code, ps, -, h⟩⟩ := d.lockCount_cases theta <;> simp [h, Dev.recounted]

theorem Dev.get_lockCount {k : Nat} (hstate : k ≠ Obj.SERVO_STATE) (hdropped : k ≠ Obj.DROPPED) :
    (d.lockCount theta).get k = d.get k := by
  obtain ⟨w, b, h | ⟨state, code, ps, -, h⟩⟩ := d.lockCount_cases theta
  · rw [h, Dev.recounted, Dev.get_onClock]
  · rw [h, Dev.get_raise hdropped, Dev.get_put_other hstate, Dev.recounted, Dev.get_onClock]

theorem Dev.lockCount_tracks {d : Dev} (h : d.get Obj.SERVO_STATE = 1 ∨ d.get Obj.SERVO_STATE = 2) :
    (d.lockCount theta).get Obj.SERVO_STATE = 1 ∨ (d.lockCount theta).get Obj.SERVO_STATE = 2 := by
  obtain ⟨w, b, heq | ⟨state, code, ps, hstate, heq⟩⟩ := d.lockCount_cases theta
  · rwa [heq, Dev.recounted, Dev.get_onClock]
  · rwa [heq, Dev.get_raise (by decide), Dev.get_put_same]

end

/-! ### The servo on one θ (R513, R514) -/

/-- The step of T in FREE. -/
def Dev.stepTime (theta : Int) (d : Dev) : Dev :=
  ((d.onClock fun c => { c with omega := c.omega - theta, ii := c.rho, within := 0, beyond := 0, again := false }).put
    Obj.SERVO_STATE 1).put Obj.STEPPED 1

/-- The change of the rate, with the integral term that it came from. -/
def Dev.steer (raw : Nat) (ii rho : Int) (d : Dev) : Dev := (d.onClock fun c => { c with ii := ii }).setRate raw rho

/-- In FREE the servo steps, in HOLDOVER and PATH_HOLD it does nothing, else it steers and counts the sample. -/
theorem Dev.clockServo_cases (raw : Nat) (theta : Int) (ts : Nat) (d : Dev) :
    (d.get Obj.SERVO_STATE = 0 ∧ ∃ ps, d.clockServo raw theta ts = (d.stepTime theta).raise 0x4600 0x0F02 ps) ∨
    ((d.get Obj.SERVO_STATE = 3 ∨ d.get Obj.SERVO_STATE = 4) ∧ d.clockServo raw theta ts = d) ∨
    (d.get Obj.SERVO_STATE ≠ 0 ∧ ¬ (d.get Obj.SERVO_STATE = 3 ∨ d.get Obj.SERVO_STATE = 4) ∧
      ∃ ii rho, d.clockServo raw theta ts = (d.steer raw ii rho).lockCount theta) := by
  by_cases hfree : d.get Obj.SERVO_STATE = 0
  · exact .inl ⟨hfree, _, if_pos hfree⟩
  · by_cases hheld : d.get Obj.SERVO_STATE = 3 ∨ d.get Obj.SERVO_STATE = 4
    · exact .inr (.inl ⟨hheld, (if_neg hfree).trans (if_pos hheld)⟩)
    · exact .inr (.inr ⟨hfree, hheld, _, _, (if_neg hfree).trans (if_neg hheld)⟩)

section
variable (raw : Nat) (theta : Int) (ts : Nat) (d : Dev)

@[simp] theorem Dev.exposure_clockServo : (d.clockServo raw theta ts).exposure = d.exposure := by
  obtain ⟨-, ps, h⟩ | ⟨-, h⟩ | ⟨-, -, ii, rho, h⟩ := d.clockServo_cases raw theta ts <;> rw [h]
  · simp [Dev.stepTime]
  · simp [Dev.steer]

theorem Dev.clockServo_keeps_clock : (d.clockServo raw theta ts).clock.raw = d.clock.raw ∧
    (d.clockServo raw theta ts).clock.waiting = d.clock.waiting := by
  obtain ⟨-, ps, h⟩ | ⟨-, h⟩ | ⟨-, -, ii, rho, h⟩ := d.clockServo_cases raw theta ts <;> rw [h]
  · simp [Dev.stepTime]
  · exact ⟨rfl, rfl⟩
  · obtain ⟨w, b, hclock⟩ := (d.steer raw ii rho).lockCount_clock theta
    rw [hclock]
    exact ⟨rfl, rfl⟩

theorem Dev.get_clockServo {k : Nat} (hstate : k ≠ Obj.SERVO_STATE) (hstepped : k ≠ Obj.STEPPED)
    (hdropped : k ≠ Obj.DROPPED) : (d.clockServo raw theta ts).get k = d.get k := by
  obtain ⟨-, ps, h⟩ | ⟨-, h⟩ | ⟨-, -, ii, rho, h⟩ := d.clockServo_cases raw theta ts <;> rw [h]
  · rw [Dev.get_raise hdropped, Dev.stepTime, Dev.get_put_other hstepped, Dev.get_put_other hstate, Dev.get_onClock]
  · rw [Dev.get_lockCount _ _ hstate hdropped, Dev.steer, Dev.get_setRate, Dev.get_onClock]

end

section
variable {raw : Nat} {theta : Int} {ts : Nat} {d : Dev}

theorem Dev.clockServo_free (h : d.get Obj.SERVO_STATE = 0) :
    (d.clockServo raw theta ts).clock.omega = d.clock.omega - theta ∧
    (d.clockServo raw theta ts).clock.rho = d.clock.rho ∧
    (d.clockServo raw theta ts).get Obj.SERVO_STATE = 1 ∧ (d.clockServo raw theta ts).get Obj.STEPPED = 1 := by
  obtain ⟨-, ps, hstep⟩ | ⟨hheld, -⟩ | ⟨hother, -⟩ := d.clockServo_cases raw theta ts
  · simp (disch := decide) [hstep, Dev.stepTime, Dev.get_raise, Dev.get_put_other]
  · omega
  · exact absurd h hother

theorem Dev.clockServo_tracks (h : d.get Obj.SERVO_STATE = 1 ∨ d.get Obj.SERVO_STATE = 2) :
    (d.clockServo raw theta ts).timeAt raw = d.timeAt raw ∧
    (d.clockServo raw theta ts).clock.rho.natAbs ≤ 140737488355 ∧
    ((d.clockServo raw theta ts).get Obj.SERVO_STATE = 1 ∨ (d.clockServo raw theta ts).get Obj.SERVO_STATE = 2) := by
  obtain ⟨hfree, -⟩ | ⟨hheld, -⟩ | ⟨-, -, ii, rho, hsteer⟩ := d.clockServo_cases raw theta ts
  · omega
  · omega
  · obtain ⟨w, b, hclock⟩ := (d.steer raw ii rho).lockCount_clock theta
    rw [hsteer]
    refine ⟨?_, ?_, Dev.lockCount_tracks theta h⟩
    · calc _ = (d.steer raw ii rho).timeAt raw := Dev.timeAt_of_clock (by rw [hclock]) (by rw [hclock]) raw
        _ = d.timeAt raw := Dev.timeAt_setRate ..
    · rw [hclock]
      exact natAbs_clampInt_rate_le _

theorem Dev.clockServo_held (h : d.get Obj.SERVO_STATE = 3 ∨ d.get Obj.SERVO_STATE = 4) : d.clockServo raw theta ts = d := by
  obtain ⟨hfree, -⟩ | ⟨-, hkept⟩ | ⟨-, hother, -⟩ := d.clockServo_cases raw theta ts
  · omega
  · exact hkept
  · exact absurd h hother

end

/-! ### A Sync with its origin time (R513, R517) -/

/-- θ of a Sync on which nothing is left to wait for. -/
def Dev.thetaOf (t1 t2 correction : Int) (d : Dev) : Int :=
  t2 - (t1 + correction) - d.geti 64 Obj.MEAN_PATH_DELAY - d.geti 64 Obj.ASYMMETRY

/-- The device with the last Sync's times and θ noted. -/
def Dev.synced (t1 t2 correction : Int) (d : Dev) : Dev :=
  (d.onClock fun c => { c with t1 := t1 + correction, t2 := t2, waiting := none }).puti 64 Obj.OFFSET_FROM_MASTER
    (d.thetaOf t1 t2 correction)

section
variable (raw : Nat) (t1 t2 correction : Int) (ts : Nat) (d : Dev)

theorem Dev.get_synced {k : Nat} (h : k ≠ Obj.OFFSET_FROM_MASTER) : (d.synced t1 t2 correction).get k = d.get k :=
  Dev.get_puti_other h ..

/-- R515: only a valid delay lets θ reach the servo. -/
theorem Dev.syncDone_eq : d.syncDone raw t1 t2 correction ts
    = if d.clock.sampleValid then (d.synced t1 t2 correction).clockServo raw (d.thetaOf t1 t2 correction) ts
      else d.synced t1 t2 correction := rfl

theorem Dev.syncDone_frame : let e := d.syncDone raw t1 t2 correction ts
    e.exposure = d.exposure ∧ e.get Obj.OFFSET_FROM_MASTER = ofSigned 64 (d.thetaOf t1 t2 correction) ∧
      e.clock.waiting = none ∧ e.clock.raw = d.clock.raw := by
  rw [Dev.syncDone_eq]
  dsimp only
  split
  · obtain ⟨hraw, hwaiting⟩ :=
      (d.synced t1 t2 correction).clockServo_keeps_clock raw (d.thetaOf t1 t2 correction) ts
    rw [Dev.get_clockServo _ _ _ _ (by decide) (by decide) (by decide), hraw, hwaiting]
    simp [Dev.synced]
  · simp [Dev.synced]

theorem Dev.syncDone_free (hvalid : d.clock.sampleValid = true) (h : d.get Obj.SERVO_STATE = 0) :
    let e := d.syncDone raw t1 t2 correction ts
    e.clock.omega = d.clock.omega - d.thetaOf t1 t2 correction ∧ e.clock.rho = d.clock.rho ∧
      e.get Obj.SERVO_STATE = 1 ∧ e.get Obj.STEPPED = 1 := by
  rw [Dev.syncDone_eq, if_pos hvalid]
  exact Dev.clockServo_free (d := d.synced t1 t2 correction) ((Dev.get_synced _ _ _ _ (by decide)).trans h)

theorem Dev.syncDone_tracks (hvalid : d.clock.sampleValid = true)
    (h : d.get Obj.SERVO_STATE = 1 ∨ d.get Obj.SERVO_STATE = 2) : let e := d.syncDone raw t1 t2 correction ts
    e.timeAt raw = d.timeAt raw ∧ e.clock.rho.natAbs ≤ 140737488355 ∧
      (e.get Obj.SERVO_STATE = 1 ∨ e.get Obj.SERVO_STATE = 2) := by
  rw [Dev.syncDone_eq, if_pos hvalid]
  exact Dev.clockServo_tracks (d := d.synced t1 t2 correction) (by rwa [Dev.get_synced _ _ _ _ (by decide)])

theorem Dev.syncDone_held
    (h : d.clock.sampleValid = false ∨ d.get Obj.SERVO_STATE = 3 ∨ d.get Obj.SERVO_STATE = 4) :
    let e := d.syncDone raw t1 t2 correction ts
    e.clock.rho = d.clock.rho ∧ e.clock.omega = d.clock.omega ∧ e.get Obj.SERVO_STATE = d.get Obj.SERVO_STATE := by
  have hstate := Dev.get_synced t1 t2 correction d (k := Obj.SERVO_STATE) (by decide)
  have hkept : d.syncDone raw t1 t2 correction ts = d.synced t1 t2 correction := by
    rw [Dev.syncDone_eq]
    split
    · exact Dev.clockServo_held (hstate.symm ▸ h.resolve_left (by simp [*]))
    · rfl
  rw [hkept]
  exact ⟨rfl, rfl, hstate⟩

end

/-! ### PTP messages (R509, R513, R515) -/

section
variable {h : Ptp} {s : State} {d : Dev} {interval : Nat} {origin x corr a b : Int} (hd : s.dev.at h.raw = d)
include hd

theorem exec_sync_oneStep (hport : d.forPtp true false h = true) (hmaster : d.fromMaster h = true) :
    exec (.sync h false origin interval) s
      = .next { s with dev := d.syncDone h.raw origin (d.rxTime h.port.val h.raw) h.correction interval } :=
  State.next_of_dev (by simp [syncMsg, hd, hport, hmaster])

theorem exec_sync_twoStep (hport : d.forPtp true false h = true) (hmaster : d.fromMaster h = true) :
    let waits (c : Clock) : Clock :=
      { c with waiting := some (h.source, h.sequence, d.rxTime h.port.val h.raw, h.correction, interval) }
    exec (.sync h true origin interval) s = .next { s with dev := d.onClock waits } :=
  State.next_of_dev (by simp [syncMsg, hd, hport, hmaster])

theorem exec_followUp_awaited (hport : d.forPtp false false h = true)
    (hwaiting : d.clock.waiting = some (h.source, h.sequence, x, corr, interval)) :
    exec (.followUp h origin) s = .next { s with dev := d.syncDone h.raw origin x (corr + h.correction) interval } :=
  State.next_of_dev (by simp [followUpMsg, hd, hport, hwaiting])

theorem exec_delayResp_own (hown : h.requester = Config.clockIdentity) (hport : d.forPtp false false h = true)
    (hmaster : d.fromMaster h = true) (hmech : d.get Obj.DELAY_MECHANISM = 1) (hseq : h.sequence = d.clock.delaySeq) :
    let delta := (d.clock.t2 - d.clock.t1 + (a - h.correction) - d.clock.delaySent) / 2
    exec (.delayResp h a) s = .next { s with dev := d.delaySample h.raw delta } :=
  State.next_of_dev (by simp [delayRespMsg, hd, hport, hmaster, hmech, hown, hseq])

theorem exec_pdelayResp_own (hown : h.requester = Config.clockIdentity) (hport : d.forPtp true true h = true)
    (hmech : d.get Obj.DELAY_MECHANISM = 2) (hseq : h.sequence = d.clock.pdelaySeq) :
    let delta := (d.rxTime h.port.val h.raw - d.clock.pdelaySent - (b - a) - h.correction) / 2
    exec (.pdelayResp h a b) s = .next { s with dev := d.delaySample h.raw delta } :=
  State.next_of_dev (by simp [pdelayRespMsg, hd, hport, hmech, hown, hseq])

end

/-! ### Path changes (R514, R515) -/

section
variable (cause raw : Nat) (d : Dev)

@[simp] theorem Dev.exposure_pathChange : (d.pathChange cause).exposure = d.exposure := by simp [Dev.pathChange]

@[simp] theorem Dev.clock_pathChange : (d.pathChange cause).clock = d.clock := by simp [Dev.pathChange]

theorem Dev.get_pathChange {k : Nat} (hchanges : k ≠ Obj.PATH_CHANGES) (hdropped : k ≠ Obj.DROPPED) :
    (d.pathChange cause).get k = d.get k := by
  rw [Dev.pathChange, Dev.get_raise hdropped, Dev.get_bump_other hchanges]

theorem Dev.get_pathChange_changes :
    (d.pathChange cause).get Obj.PATH_CHANGES = (d.get Obj.PATH_CHANGES + 1) % 2 ^ 32 := by
  rw [Dev.pathChange, Dev.get_raise (by decide), Dev.get_bump_same]

@[simp] theorem Dev.exposure_enterPathHold : (d.enterPathHold raw).exposure = d.exposure := by
  unfold Dev.enterPathHold
  split <;> rfl

theorem Dev.get_enterPathHold {k : Nat} (h : k ≠ Obj.SERVO_STATE) : (d.enterPathHold raw).get k = d.get k := by
  unfold Dev.enterPathHold
  split
  · exact (Dev.get_onClock ..).trans (Dev.get_put_other h ..)
  · rfl

theorem Dev.enterPathHold_keeps_clock : (d.enterPathHold raw).clock.rho = d.clock.rho ∧
    (d.enterPathHold raw).clock.omega = d.clock.omega ∧
    (d.enterPathHold raw).clock.sampleValid = d.clock.sampleValid := by
  unfold Dev.enterPathHold
  split <;> exact ⟨rfl, rfl, rfl⟩

theorem Dev.get_enterPathHold_state : (d.enterPathHold raw).get Obj.SERVO_STATE
    = if d.get Obj.SERVO_STATE = 1 ∨ d.get Obj.SERVO_STATE = 2 then 4 else d.get Obj.SERVO_STATE := by
  by_cases h : d.get Obj.SERVO_STATE = 1 ∨ d.get Obj.SERVO_STATE = 2
  · rw [if_pos h]
    exact (congrArg (Dev.get Obj.SERVO_STATE) (if_pos h)).trans ((Dev.get_onClock ..).trans (Dev.get_put_same ..))
  · rw [if_neg h]
    exact congrArg (Dev.get Obj.SERVO_STATE) (if_neg h)

theorem Dev.holdAt_enterPathHold {d : Dev} (h : d.get Obj.SERVO_STATE = 1 ∨ d.get Obj.SERVO_STATE = 2) :
    (d.enterPathHold raw).clock.holdAt = raw := congrArg (fun e : Dev => e.clock.holdAt) (if_pos h)

end

/-! ### A delay sample (R515) -/

/-- A first sample sets the baseline. -/
def Dev.startBaseline (delta : Int) (d : Dev) : Dev :=
  ((d.puti 64 Obj.MEAN_PATH_DELAY delta).puti 64 Obj.BASELINE delta).onClock fun c =>
    { c with baselineSet := true, sampleValid := true, jumps := 0 }

/-- A sample near the baseline moves it by a sixteenth. -/
def Dev.moveBaseline (delta : Int) (d : Dev) : Dev :=
  ((d.puti 64 Obj.MEAN_PATH_DELAY delta).puti 64 Obj.BASELINE
    (d.geti 64 Obj.BASELINE + (delta - d.geti 64 Obj.BASELINE) / 16)).onClock fun c =>
      { c with sampleValid := true, jumps := 0 }

/-- A sample beyond the threshold is counted. -/
def Dev.countJump (delta : Int) (d : Dev) : Dev :=
  (d.puti 64 Obj.MEAN_PATH_DELAY delta).onClock fun c => { c with sampleValid := false, jumps := c.jumps + 1 }

/-- The sample lies within CHANGE_THRESHOLD of the baseline. -/
def Dev.NearBaseline (delta : Int) (d : Dev) : Prop :=
  (delta - d.geti 64 Obj.BASELINE).natAbs ≤ d.get Obj.CHANGE_THRESHOLD * 65536

section
variable {delta : Int} {d : Dev}

/-- All that a sample outside PATH_HOLD can do. The third one in a row beyond the threshold is a path change. -/
theorem Dev.delaySample_cases (raw : Nat) (h : d.get Obj.SERVO_STATE ≠ 4) :
    (d.clock.baselineSet = false ∧ d.delaySample raw delta = d.startBaseline delta) ∨
    (d.NearBaseline delta ∧ d.delaySample raw delta = d.moveBaseline delta) ∨
    (¬ d.NearBaseline delta ∧ d.clock.jumps ≠ 2 ∧ d.delaySample raw delta = d.countJump delta) ∨
    (¬ d.NearBaseline delta ∧ 2 ≤ d.clock.jumps ∧
      d.delaySample raw delta = ((d.countJump delta).pathChange 1).enterPathHold raw) := by
  have houtside : d.get Obj.SERVO_STATE ≠ svPathHold := h
  unfold Dev.delaySample
  rw [if_neg houtside]
  by_cases hset : d.clock.baselineSet = true
  · rw [if_neg (not_not_intro hset)]
    by_cases hnear : d.NearBaseline delta
    · exact .inr (.inl ⟨hnear, if_pos hnear⟩)
    · have hfar : ¬ (delta - d.geti 64 Obj.BASELINE).natAbs ≤ d.get Obj.CHANGE_THRESHOLD * 65536 := hnear
      dsimp only
      rw [if_neg hfar]
      split
      next hthird =>
        have hjumps : d.clock.jumps + 1 = 3 ∨ 3 < d.clock.jumps + 1 := hthird.imp_right And.right
        exact .inr (.inr (.inr ⟨hnear, by omega, rfl⟩))
      next hcounts =>
        exact .inr (.inr (.inl ⟨hnear, fun h => hcounts (.inl (congrArg (· + 1) h)), rfl⟩))
  · exact .inl ⟨Bool.eq_false_iff.mpr hset, if_pos hset⟩

theorem Dev.delaySample_frame (raw : Nat) (h : d.get Obj.SERVO_STATE ≠ 4) : let e := d.delaySample raw delta
    e.exposure = d.exposure ∧ e.clock.rho = d.clock.rho ∧ e.clock.omega = d.clock.omega ∧
      e.get Obj.MEAN_PATH_DELAY = ofSigned 64 delta := by
  have hmean : (d.puti 64 Obj.MEAN_PATH_DELAY delta).get Obj.MEAN_PATH_DELAY = ofSigned 64 delta := Dev.get_puti_same ..
  obtain ⟨-, heq⟩ | ⟨-, heq⟩ | ⟨-, -, heq⟩ | ⟨-, -, heq⟩ := Dev.delaySample_cases (delta := delta) raw h <;> rw [heq]
  · exact ⟨rfl, rfl, rfl, (Dev.get_puti_other (by decide) ..).trans hmean⟩
  · exact ⟨rfl, rfl, rfl, (Dev.get_puti_other (by decide) ..).trans hmean⟩
  · exact ⟨rfl, rfl, rfl, hmean⟩
  · obtain ⟨hrho, homega, -⟩ := Dev.enterPathHold_keeps_clock raw ((d.countJump delta).pathChange 1)
    dsimp only
    rw [hrho, homega, Dev.get_enterPathHold _ _ (by decide), Dev.get_pathChange _ _ (by decide) (by decide)]
    simp [Dev.countJump]

theorem Dev.delaySample_near (raw : Nat) (h : d.get Obj.SERVO_STATE ≠ 4) (hset : d.clock.baselineSet = true)
    (hnear : d.NearBaseline delta) : let e := d.delaySample raw delta
    e.clock.sampleValid = true ∧
      e.get Obj.BASELINE = ofSigned 64 (d.geti 64 Obj.BASELINE + (delta - d.geti 64 Obj.BASELINE) / 16) ∧
      e.get Obj.SERVO_STATE = d.get Obj.SERVO_STATE := by
  obtain ⟨hunset, -⟩ | ⟨-, heq⟩ | ⟨hfar, -⟩ | ⟨hfar, -⟩ := Dev.delaySample_cases (delta := delta) raw h
  · exact absurd (hset.symm.trans hunset) (by decide)
  · rw [heq]
    simp (disch := decide) [Dev.moveBaseline, Dev.get_puti_other]
  · exact absurd hnear hfar
  · exact absurd hnear hfar

theorem Dev.delaySample_far (raw : Nat) (h : d.get Obj.SERVO_STATE ≠ 4) (hset : d.clock.baselineSet = true)
    (hfar : ¬ d.NearBaseline delta) : let e := d.delaySample raw delta
    e.clock.sampleValid = false ∧ e.get Obj.BASELINE = d.get Obj.BASELINE ∧
      (d.clock.jumps < 2 → e.get Obj.SERVO_STATE = d.get Obj.SERVO_STATE ∧ e.clock.jumps = d.clock.jumps + 1) ∧
      (d.clock.jumps = 2 → d.get Obj.SERVO_STATE = 1 ∨ d.get Obj.SERVO_STATE = 2 →
        e.get Obj.SERVO_STATE = 4 ∧ e.clock.holdAt = raw) := by
  obtain ⟨hunset, -⟩ | ⟨hnear, -⟩ | ⟨-, hjumps, heq⟩ | ⟨-, hjumps, heq⟩ := Dev.delaySample_cases (delta := delta) raw h
  · exact absurd (hset.symm.trans hunset) (by decide)
  · exact absurd hnear hfar
  · rw [heq]
    have hget {k : Nat} (hk : k ≠ Obj.MEAN_PATH_DELAY) : (d.countJump delta).get k = d.get k := Dev.get_puti_other hk ..
    exact ⟨rfl, hget (by decide), fun _ => ⟨hget (by decide), rfl⟩, fun hthird => absurd hthird hjumps⟩
  · have hget {k : Nat} (hk : k ≠ Obj.MEAN_PATH_DELAY) (hchanges : k ≠ Obj.PATH_CHANGES) (hdropped : k ≠ Obj.DROPPED) :
        ((d.countJump delta).pathChange 1).get k = d.get k :=
      (Dev.get_pathChange _ _ hchanges hdropped).trans (Dev.get_puti_other hk ..)
    have hstate := hget (k := Obj.SERVO_STATE) (by decide) (by decide) (by decide)
    obtain ⟨-, -, hvalid⟩ := Dev.enterPathHold_keeps_clock raw ((d.countJump delta).pathChange 1)
    rw [heq]
    refine ⟨hvalid.trans (by rw [Dev.clock_pathChange]; rfl), ?_, fun hfew => by omega, fun _ htracks => ⟨?_, ?_⟩⟩
    · exact (Dev.get_enterPathHold _ _ (by decide)).trans (hget (by decide) (by decide) (by decide))
    · rw [Dev.get_enterPathHold_state, hstate, if_pos htracks]
    · exact Dev.holdAt_enterPathHold raw (by rwa [hstate])

end

/-! ### Holdover (R514) -/

theorem Dev.toHoldover_spec {raw : Nat} {d : Dev} (cause : Nat)
    (hstate : d.get Obj.SERVO_STATE = 1 ∨ d.get Obj.SERVO_STATE = 2 ∨ d.get Obj.SERVO_STATE = 4)
    (hnone0 : d.qualified raw 0 = []) (hnone1 : d.qualified raw 1 = []) : let e := d.toHoldover raw cause
    e.exposure = d.exposure ∧ e.get Obj.SERVO_STATE = 3 ∧
      e.clock.rho = clampInt (-140737488355) 140737488355 d.clock.ii ∧ e.timeAt raw = d.timeAt raw := by
  obtain ⟨v, ps, heq⟩ : ∃ v ps, d.toHoldover raw cause
      = ((((d.setRate raw d.clock.ii).recounted 0 0).put Obj.SERVO_STATE 3).put Obj.PORT_STATE v).raise 0x4600 0x0F04 ps :=
    ⟨_, _, if_pos ⟨hnone0, hnone1, hstate⟩⟩
  have hclock : (d.toHoldover raw cause).clock = ((d.setRate raw d.clock.ii).recounted 0 0).clock := by simp [heq]
  refine ⟨by simp [heq, Dev.recounted], ?_, ?_, ?_⟩
  · rw [heq, Dev.get_raise (by decide), Dev.get_put_other (by decide), Dev.get_put_same]
  · rw [hclock]
    rfl
  · calc _ = (d.setRate raw d.clock.ii).timeAt raw := Dev.timeAt_of_clock (by rw [hclock]; rfl) (by rw [hclock]; rfl) raw
      _ = d.timeAt raw := Dev.timeAt_setRate ..

theorem exec_holdover {raw : Nat} {s : State} {d : Dev} (hd : s.dev.at raw = d) (hrun : d.running = true) :
    ∃ cause, exec (.holdover raw) s = .next { s with dev := d.toHoldover raw cause } :=
  ⟨_, State.next_of_dev (by rw [holdoverEvent, hd]; exact if_pos hrun)⟩

/-! ### The end of a path hold (R516) -/

/-- The hold begins again. -/
def Dev.holdAgain (raw : Nat) (d : Dev) : Dev :=
  (d.pathChange 2).onClock fun c => { c with holdAt := raw, holdSamples := [] }

/-- The servo locks anew on a baseline. -/
def Dev.relock (base : Int) (d : Dev) : Dev :=
  ((d.puti 64 Obj.BASELINE base).put Obj.SERVO_STATE 1).onClock fun c =>
    { c with sampleValid := true, jumps := 0, within := 0, beyond := 0, holdSamples := [] }

/-- The delay samples of the last quarter of the hold. -/
def Dev.lastQuarter (d : Dev) : List Int :=
  (d.clock.holdSamples.filter fun e =>
    decide (d.clock.holdAt + d.get Obj.HOLD_TIME * 1000000 * 3 / 4 ≤ e.1)).map Prod.snd

section
variable {raw : Nat} {d : Dev} {x : Int} {xs : List Int} (hstate : d.get Obj.SERVO_STATE = 4)
  (hdue : d.clock.holdAt + d.get Obj.HOLD_TIME * 1000000 ≤ raw) (hsamples : d.lastQuarter = x :: xs)
include hstate hdue hsamples

theorem Dev.endPathHold_eq : ∃ ps, d.endPathHold raw
    = if (d.get Obj.CHANGE_THRESHOLD : Int) * 65536 < xs.foldl max x - xs.foldl min x then d.holdAgain raw
      else (d.relock (xs.foldl (· + ·) x / ((x :: xs).length : Int))).raise 0x4600 0x0F05 ps := by
  unfold Dev.endPathHold
  dsimp only
  rw [if_pos ⟨hstate, hdue⟩]
  unfold Dev.lastQuarter at hsamples
  rw [hsamples]
  exact ⟨_, rfl⟩

theorem Dev.endPathHold_frame : let e := d.endPathHold raw
    e.exposure = d.exposure ∧ e.clock.rho = d.clock.rho ∧ e.clock.omega = d.clock.omega := by
  obtain ⟨ps, heq⟩ := Dev.endPathHold_eq hstate hdue hsamples
  rw [heq]
  split
  · simp [Dev.holdAgain]
  · simp [Dev.relock]

theorem Dev.endPathHold_settled
    (h : xs.foldl max x - xs.foldl min x ≤ (d.get Obj.CHANGE_THRESHOLD : Int) * 65536) : let e := d.endPathHold raw
    e.get Obj.SERVO_STATE = 1 ∧ e.get Obj.BASELINE = ofSigned 64 (xs.foldl (· + ·) x / ((x :: xs).length : Int)) := by
  obtain ⟨ps, heq⟩ := Dev.endPathHold_eq hstate hdue hsamples
  rw [heq, if_neg (Int.not_lt.mpr h)]
  simp (disch := decide) [Dev.relock, Dev.get_raise, Dev.get_put_other]

theorem Dev.endPathHold_unsettled
    (h : (d.get Obj.CHANGE_THRESHOLD : Int) * 65536 < xs.foldl max x - xs.foldl min x) : let e := d.endPathHold raw
    e.get Obj.SERVO_STATE = 4 ∧ e.clock.holdAt = raw ∧ e.get Obj.BASELINE = d.get Obj.BASELINE := by
  obtain ⟨ps, heq⟩ := Dev.endPathHold_eq hstate hdue hsamples
  rw [heq, if_pos h]
  simp (disch := decide) [Dev.holdAgain, Dev.get_pathChange, hstate]

end

theorem exec_pathHoldEnd {raw : Nat} {s : State} {d : Dev} (hd : s.dev.at raw = d) (hrun : d.running = true) :
    exec (.pathHoldEnd raw) s = .next { s with dev := d.endPathHold raw } :=
  State.next_of_dev (by rw [pathHoldEvent, hd]; exact if_pos hrun)

/-! ### The PTP port (R509, R511) -/

section
variable (raw : Nat) (d : Dev)

@[simp] theorem Dev.exposure_selectMaster : (d.selectMaster raw).exposure = d.exposure := by
  unfold Dev.selectMaster
  extract_lets capable
  split
  · rfl
  · split
    · rfl
    · extract_lets changed slave locking
      have hlocking : locking.exposure = d.exposure := by
        unfold locking
        split <;> rfl
      split
      · rw [Dev.exposure_raise, hlocking]
      · exact hlocking

/-- Outside HOLDOVER the selection of a master sets only what belongs to the port and to the master. -/
theorem Dev.get_selectMaster {k : Nat} (hstate : d.get Obj.SERVO_STATE ≠ 3) (hport : k ≠ Obj.PORT_STATE)
    (hutc : k ≠ Obj.UTC_OFFSET) (hdropped : k ≠ Obj.DROPPED) : (d.selectMaster raw).get k = d.get k := by
  unfold Dev.selectMaster
  extract_lets capable
  split
  · exact Dev.get_put_other hport ..
  · split
    · exact Dev.get_put_other hport ..
    · extract_lets changed slave locking
      have hslave : slave.get k = d.get k := by
        rw [Dev.get_puti_other hutc, Dev.get_putBlob, Dev.get_put_other hport]
      have hlocking : locking = slave := if_neg hstate
      rw [hlocking]
      split
      · rw [Dev.get_raise hdropped, hslave]
      · exact hslave

end

/-- The PTP port's move before the new port's master is chosen. -/
def Dev.portMoved (raw cause : Nat) (d : Dev) : Dev :=
  (((d.put Obj.ACTIVE_PORT (1 - d.get Obj.ACTIVE_PORT)).raise 0x4500 0x0F07
    [d.get Obj.ACTIVE_PORT, 1 - d.get Obj.ACTIVE_PORT, cause]).pathChange 3).enterPathHold raw

section
variable (raw cause : Nat) (d : Dev)

theorem Dev.movePtp_eq : d.movePtp raw cause = (d.portMoved raw cause).selectMaster raw := rfl

theorem Dev.get_portMoved_port : (d.portMoved raw cause).get Obj.ACTIVE_PORT = 1 - d.get Obj.ACTIVE_PORT := by
  rw [Dev.portMoved, Dev.get_enterPathHold _ _ (by decide), Dev.get_pathChange _ _ (by decide) (by decide),
    Dev.get_raise (by decide), Dev.get_put_same]

theorem Dev.get_portMoved_changes :
    (d.portMoved raw cause).get Obj.PATH_CHANGES = (d.get Obj.PATH_CHANGES + 1) % 2 ^ 32 := by
  rw [Dev.portMoved, Dev.get_enterPathHold _ _ (by decide), Dev.get_pathChange_changes, Dev.get_raise (by decide),
    Dev.get_put_other (by decide)]

theorem Dev.get_portMoved_state : (d.portMoved raw cause).get Obj.SERVO_STATE
    = if d.get Obj.SERVO_STATE = 1 ∨ d.get Obj.SERVO_STATE = 2 then 4 else d.get Obj.SERVO_STATE := by
  rw [Dev.portMoved, Dev.get_enterPathHold_state, Dev.get_pathChange _ _ (by decide) (by decide),
    Dev.get_raise (by decide), Dev.get_put_other (by decide)]

@[simp] theorem Dev.exposure_movePtp : (d.movePtp raw cause).exposure = d.exposure := by
  simp [Dev.movePtp_eq, Dev.portMoved]

theorem Dev.movePtp_spec {d : Dev} (hstate : d.get Obj.SERVO_STATE ≠ 3) : let e := d.movePtp raw cause
    e.get Obj.ACTIVE_PORT = 1 - d.get Obj.ACTIVE_PORT ∧
      e.get Obj.PATH_CHANGES = (d.get Obj.PATH_CHANGES + 1) % 2 ^ 32 ∧ e.get Obj.SERVO_STATE
        = if d.get Obj.SERVO_STATE = 1 ∨ d.get Obj.SERVO_STATE = 2 then 4 else d.get Obj.SERVO_STATE := by
  have hmoved : (d.portMoved raw cause).get Obj.SERVO_STATE ≠ 3 := by
    rw [Dev.get_portMoved_state]
    split
    · decide
    · exact hstate
  have hget {k : Nat} := Dev.get_selectMaster (k := k) raw _ hmoved
  rw [Dev.movePtp_eq]
  refine ⟨?_, ?_, ?_⟩
  · rw [hget (by decide) (by decide) (by decide), Dev.get_portMoved_port]
  · rw [hget (by decide) (by decide) (by decide), Dev.get_portMoved_changes]
  · rw [hget (by decide) (by decide) (by decide), Dev.get_portMoved_state]

end

theorem exec_ptpPortSwitch {raw : Nat} {s : State} {d : Dev} (hd : s.dev.at raw = d) (hrun : d.running = true)
    (h : d.get (Obj.NET_LINK_STATE (d.get Obj.ACTIVE_PORT)) = 0 ∨
      d.qualified raw (d.get Obj.ACTIVE_PORT) = [] ∧ d.qualified raw (1 - d.get Obj.ACTIVE_PORT) ≠ []) :
    ∃ cause, exec (.ptpPortSwitch raw) s = .next { s with dev := d.movePtp raw cause } := by
  by_cases hlink : d.get (Obj.NET_LINK_STATE (d.get Obj.ACTIVE_PORT)) = 0
  · exact ⟨1, State.next_of_dev (by rw [portSwitchEvent, hd]; exact if_pos ⟨hrun, hlink⟩)⟩
  · have hheard := h.resolve_left hlink
    refine ⟨2, State.next_of_dev ?_⟩
    rw [portSwitchEvent, hd]
    exact (if_neg fun hboth => hlink hboth.2).trans (if_pos ⟨hrun, hheard⟩)

/-! ### STEP_AGAIN (R507) -/

/-- The effect of STEP_AGAIN. -/
def Dev.freeServo (d : Dev) : Dev :=
  ((d.put Obj.CLOCK_COMMAND 1).put Obj.SERVO_STATE 0).onClock fun c => { c with again := true }

section
variable {r : Req} {s : State} (hadmits : s.dev.Admits (r.write 0x9003 0))
include hadmits

theorem exec_stepAgain (hmode : s.dev.mode = .setup ∨ s.dev.mode = .test) (hjob : s.dev.jobOpen = false) :
    exec (.stepAgain r) s = .next { s with dev := s.dev.commanded (r.write 0x9003 0) 1 1 Dev.freeServo } := by
  refine State.next_of_dev (Dev.serveCommand_ok hadmits (Dev.command_ok Dev.freeServo ?_ ?_))
  · rcases hmode with h | h <;> simp [Dev.writeForbidden, h, Req.write, allowedInTest]
  · simp [hmode, hjob]

theorem exec_stepAgain_forbidden
    (h : s.dev.mode ≠ .setup ∧ s.dev.mode ≠ .test ∨ s.dev.jobOpen = true) : exec (.stepAgain r) s
      = .next { s with dev := (s.dev.heard (r.write 0x9003 0)).refuse (r.write 0x9003 0) .stateForbids } := by
  refine State.next_of_dev (Dev.serveCommand_refuse hadmits (Dev.command_refuse ?_))
  have hforbidden : ¬ (decide (s.dev.mode = .setup ∨ s.dev.mode = .test) && decide ¬ s.dev.jobOpen) = true := by
    rcases h with ⟨hsetup, htest⟩ | hjob
    · simp [hsetup, htest]
    · simp [hjob]
  rw [Dev.heard_mode, Dev.heard_jobOpen, decide_eq_true hforbidden]
  exact firstAbort_of_same ..

end

theorem Dev.freeServo_commanded (q : Query) (d : Dev) : let e := d.commanded q 1 1 Dev.freeServo
    e.get Obj.SERVO_STATE = 0 ∧ e.clock.rho = d.clock.rho ∧ e.clock.omega = d.clock.omega := by
  have hclock : (d.commanded q 1 1 Dev.freeServo).clock = { d.clock with again := true } := by
    simp [Dev.commanded, Dev.freeServo]
  refine ⟨?_, by rw [hclock], by rw [hclock]⟩
  rw [Dev.get_commanded (by decide), Dev.freeServo, Dev.get_onClock, Dev.get_put_same]

end Sys2Proof.Machine

namespace Sys2Proof.Proofs

open Sys2Proof.Machine

/-- Settles O55: θ acts by the state of the servo (`Dev.syncDone_…`), a delay sample by its distance from the baseline
(`Dev.delaySample_…`), and every change of the rate keeps T (`Dev.timeAt_setRate`). -/
theorem theClockFollowsItsMaster : Obligations.TheClockFollowsItsMaster := by
  refine ⟨?rate, ?syncs, ?delays, ?events, ?stepAgain⟩
  case rate =>
    intro d raw rho
    exact ⟨d.timeAt_setRate raw rho, d.setRate_omega raw rho, clampInt_rate_of_natAbs_le, natAbs_clampInt_rate_le rho⟩
  case syncs =>
    intro h origin interval s d t2 acted
    have hd : s.dev.at h.raw = d := rfl
    have hat : d.exposure = s.dev.exposure := s.dev.exposure_at h.raw
    clear_value d
    have hacted (t1 t2 corr : Int) :
        acted (d.thetaOf t1 t2 corr) { s with dev := d.syncDone h.raw t1 t2 corr interval } := by
      obtain ⟨hexposure, hoffset, hwaiting, hraw⟩ := d.syncDone_frame h.raw t1 t2 corr interval
      have hkept := hexposure.trans hat
      exact ⟨rfl, Dev.ledger_of_exposure hkept, Dev.conv_of_exposure hkept, hoffset, hwaiting, hraw,
        d.syncDone_free h.raw t1 t2 corr interval, d.syncDone_tracks h.raw t1 t2 corr interval,
        d.syncDone_held h.raw t1 t2 corr interval⟩
    refine ⟨fun hport hmaster => ⟨⟨_, exec_sync_oneStep hd hport hmaster, hacted ..⟩, ?_⟩, fun x corr hport hwaiting => ?_⟩
    · exact exec_sync_twoStep hd hport hmaster
    · exact ⟨_, exec_followUp_awaited hd hport hwaiting, hacted ..⟩
  case delays =>
    intro h a b s d base limit state sampled hstate hown
    have hd : s.dev.at h.raw = d := rfl
    have hat : d.exposure = s.dev.exposure := s.dev.exposure_at h.raw
    clear_value d
    have hsampled (delta : Int) : sampled delta { s with dev := d.delaySample h.raw delta } := by
      obtain ⟨hexposure, hrho, homega, hmean⟩ := Dev.delaySample_frame (delta := delta) h.raw hstate
      have hkept := hexposure.trans hat
      exact ⟨rfl, Dev.ledger_of_exposure hkept, hrho, homega, hmean, Dev.delaySample_near h.raw hstate,
        fun hset hfar => Dev.delaySample_far h.raw hstate hset (Nat.not_le.mpr hfar)⟩
    refine ⟨fun hport hmaster hmech hseq => ?_, fun hport hmech hseq => ?_⟩
    · exact ⟨_, exec_delayResp_own hd hown hport hmaster hmech hseq, hsampled _⟩
    · exact ⟨_, exec_pdelayResp_own hd hown hport hmech hseq, hsampled _⟩
  case events =>
    intro raw s d state p apart hrun
    have hd : s.dev.at raw = d := rfl
    have hat : d.exposure = s.dev.exposure := s.dev.exposure_at raw
    clear_value d
    have hapart {e : Dev} (hexposure : e.exposure = d.exposure) : apart { s with dev := e } :=
      have hkept := hexposure.trans hat
      ⟨rfl, Dev.ledger_of_exposure hkept, Dev.conv_of_exposure hkept⟩
    refine ⟨fun hstate hnone0 hnone1 => ?_, fun x xs hstate hdue hsamples => ?_, fun hmoves hstate => ?_⟩
    · obtain ⟨cause, hexec⟩ := exec_holdover hd hrun
      obtain ⟨hexposure, hheld, hrate, htime⟩ := Dev.toHoldover_spec cause hstate hnone0 hnone1
      exact ⟨_, hexec, hapart hexposure, hheld, hrate, htime⟩
    · obtain ⟨hexposure, hrho, homega⟩ := Dev.endPathHold_frame hstate hdue hsamples
      exact ⟨_, exec_pathHoldEnd hd hrun, hapart hexposure, hrho, homega, Dev.endPathHold_settled hstate hdue hsamples,
        Dev.endPathHold_unsettled hstate hdue hsamples⟩
    · obtain ⟨cause, hexec⟩ := exec_ptpPortSwitch hd hrun hmoves
      refine ⟨_, hexec, hapart (d.exposure_movePtp raw cause), ?_⟩
      rw [State.with_dev_dev]
      exact Dev.movePtp_spec raw cause hstate
  case stepAgain =>
    intro r s q hadmits
    refine ⟨fun hmode hjob => ?_, exec_stepAgain_forbidden hadmits⟩
    exact ⟨_, exec_stepAgain hadmits hmode hjob, rfl, Dev.freeServo_commanded q s.dev⟩

end Sys2Proof.Proofs
end

section
/-!
PROOFS. ENABLE 1 of a threshold counter whose INSTANCE its SOURCE does not have (R541): 17_recorder_and_counters.
-/
namespace Sys2Proof.Machine

/-! ### Refused writes -/

theorem Dev.configure_refuse {q : Query} {k w v : Nat} {tests : List (Abort × Bool)} {effect : Dev → Dev} {d : Dev}
    {a : Abort} (h : firstAbort ((.stateForbids, d.writeForbidden q.index q.sub v) :: tests) = some a) :
    d.configure q k w v tests effect = .refuse a d := by
  simp only [Dev.configure, h]

/-- R63: a refusal counts the message and itself, and leaves every other object. -/
theorem Dev.get_refuse {k : Nat} (hmessages : k ≠ Obj.RX_MESSAGES) (hrefusals : k ≠ Obj.REFUSALS) (q : Query) (a : Abort)
    (d : Dev) : (d.refuse q a).get k = d.get k := by
  rw [Dev.refuse, Dev.get_finish hmessages, Dev.get_bump_other hrefusals]

/-! ### ENABLE 1 (R541) -/

/-- SOURCE selects an occupancy that has no INSTANCE of the number set. -/
def Dev.instanceStray (t : Nat) (d : Dev) : Prop :=
  thresholdInstances (d.get (Obj.THR_SOURCE t)) ≤ d.get (Obj.THR_INSTANCE t)

/-- R541: where the counter's owner entry lets the session claim it, the INSTANCE is tested next. -/
theorem thresholdEnable_stray {q : Query} {t : Nat} {d : Dev} (hallowed : d.writeForbidden q.index q.sub 1 = false)
    (howner : d.free? (Obj.THRESHOLD_OWNER t) (0x0900 + q.session) = true) (hstray : d.instanceStray t) :
    thresholdEnable q t 1 d = .refuse .range d := by
  have hrange : thresholdInstances (d.get (Obj.THR_SOURCE t)) ≤ d.get (Obj.THR_INSTANCE t) := hstray
  unfold thresholdEnable
  exact Dev.configure_refuse (by simp [hallowed, howner, hrange])

theorem exec_thresholdEnable_stray {r : Req} {t : Fin 64} {s : State} {q : Query} (hq : r.write (0xA810 + t.val) 4 = q)
    (hadmits : s.dev.Admits q) (hallowed : s.dev.writeForbidden q.index q.sub 1 = false)
    (howner : s.dev.free? (Obj.THRESHOLD_OWNER t.val) (0x0900 + q.session) = true)
    (hstray : s.dev.instanceStray t.val) :
    exec (.thresholdEnable r t true) s = .next { s with dev := (s.dev.heard q).refuse q .range } := by
  subst hq
  refine State.next_of_dev (Dev.serveCommand_refuse hadmits (thresholdEnable_stray ?allowed ?owner ?stray))
  case allowed => rwa [Dev.heard_writeForbidden]
  case owner => simpa only [Dev.free?, Dev.heard_get] using howner
  case stray => simpa only [Dev.instanceStray, Dev.heard_get] using hstray

/-! ### The counterexample -/

/-- A device in SETUP with a session open, whose threshold counter 0 has INSTANCE 1 under SOURCE 0. A write of INSTANCE 1
under SOURCE 2, which has 32 of them, and then of SOURCE 0 leave these values. -/
def strayInstance : State :=
  { State.reset with dev := { Dev.reset with
      mode := .setup
      objs := [(Obj.THR_INSTANCE 0, 1)]
      cop := { Dev.reset.cop with sessions := [(3, Session.opened poolHolder 0)] } } }

theorem strayInstance_admits : strayInstance.dev.Admits (poolRequest.write 0xA810 4) := by decide +kernel

theorem strayInstance_instanceStray : strayInstance.dev.instanceStray 0 := by
  unfold Dev.instanceStray
  decide +kernel

end Sys2Proof.Machine

namespace Sys2Proof.Proofs

open Sys2Proof.Machine

/-- Refutes O57, in its clause on ENABLE 1: no premise puts INSTANCE in the range of SOURCE. R541 refuses a stray INSTANCE
with RANGE (log entry 25), so that ENABLE of `strayInstance` stays 0 where the clause has 1. -/
theorem not_recorderCountersAndTags : ¬ Obligations.RecorderCountersAndTags := by
  unfold Obligations.RecorderCountersAndTags
  rintro ⟨-, -, -, -, -, henable, -⟩
  have hallowed : strayInstance.dev.writeForbidden 0xA810 4 1 = false := by decide +kernel
  have hunclaimed : strayInstance.dev.get (Obj.THRESHOLD_OWNER 0) = 0 := by decide +kernel
  have howner : strayInstance.dev.free? (Obj.THRESHOLD_OWNER 0) (0x0900 + 3) = true := decide_eq_true (.inl hunclaimed)
  obtain ⟨hclaims, -⟩ := henable poolRequest 0 strayInstance strayInstance_admits hallowed
  obtain ⟨u, hnext, -, hone, -⟩ := hclaims (.inl hunclaimed)
  rw [exec_thresholdEnable_stray (t := 0) rfl strayInstance_admits hallowed howner strayInstance_instanceStray] at hnext
  obtain rfl : _ = u := Host.Outcome.next.inj hnext
  have hkept : strayInstance.dev.get (Obj.THR_ENABLE 0) = 0 := by decide +kernel
  have hzero : 0 = 1 := by
    calc 0 = strayInstance.dev.get (Obj.THR_ENABLE 0) := hkept.symm
      _ = _ := ((Dev.get_refuse (by decide) (by decide) ..).trans (Dev.heard_get ..)).symm
      _ = 1 := hone
  exact absurd hzero (by decide)

end Sys2Proof.Proofs
end
